-- ==== Sys2Proof/Word.lean ====
section
/-!
DEFINITION. The word and byte types of the model. Register contents, general registers and instruction words are 32 bits
wide (R46, R410); every memory is addressed in bytes.
-/

namespace Sys2Proof

/-- A 32-bit register or instruction word. -/
abbrev Word := BitVec 32

/-- One byte of a memory. -/
abbrev Byte := BitVec 8

end Sys2Proof
end

