-- ==== Sys2Proof/Machine/Types.lean ====
section
/-!
DEFINITION. The small closed types that commands and state share: modes, grades, agents, address spaces and the outcomes
that the outside world reports with a command.
-/

namespace Sys2Proof

/-- Operating mode (R5). -/
inductive Mode where
  | native
  | legacy
  | mixed
  deriving DecidableEq, Repr

/-- Grade, by ordering code. -/
inductive Grade where
  | c16
  | c13
  | l13
  | a16
  deriving DecidableEq, Repr

/-- Who makes a register access: the manager on PF0, a guest on its virtual function, a sequencer (0 to 3 for CSQ0 to
CSQ3, 4 for the SSQ), the legacy front end and its draft on behalf of UDC-4 software, or the debug port. -/
inductive Agent where
  | manager
  | guest (i : Nat)
  | seq (n : Nat)
  | legacy
  | debug (secure : Bool)
  deriving DecidableEq, Repr

/-- The outcome of an ECC check that an access reports (R346 to R348). -/
inductive Ecc where
  | clean
  | corrected
  | uncorrectable
  deriving DecidableEq, Repr

/-- The address space in which an access is made (R295, R309, R310, R428): an instance's, an enclave's, physical LP5X in
the secure or the normal world, or the legacy space of the UDC-4. -/
inductive Space where
  | inst (i : Nat)
  | enclave (e : Nat)
  | securePhys
  | phys
  | legacy
  deriving DecidableEq, Repr

/-- What a port read meets (R58): the word, no answer within 4,000 cycles, or a block that answers with an error. -/
inductive PortAnswer where
  | word
  | none
  | error
  deriving DecidableEq, Repr

/-- How an instruction fetch of a sequencer fails (R51, R70). -/
inductive FetchFault where
  | illegal (word : Word)
  | imemEcc
  deriving DecidableEq, Repr

/-- How the MRAM ends a register write (R326, R327, R332): it reads back as written, it reads back differently, or VHOLD
fails during word 0, during word 1, or after both are written. -/
inductive WriteEnd where
  | good
  | differs
  | cutWord0
  | cutWord1
  | cutAfter
  deriving DecidableEq, Repr

/-! ### Kryent vector instructions (R138) -/

/-- The operand fields of formats VA and SA, or VI and SI when `imm` is given. -/
structure VArith where
  imm : Option (BitVec 32)
  dst : BitVec 8
  src0 : BitVec 9
  src1 : BitVec 9
  src2 : BitVec 9
  neg : BitVec 3
  abs : BitVec 3
  sat : Bool
  deriving DecidableEq, Repr

/-- The operand fields of format M. -/
structure VMem where
  data : BitVec 8
  vaddr : BitVec 8
  desc : BitVec 7
  count : BitVec 3
  flags : BitVec 2
  offset : BitVec 16
  deriving DecidableEq, Repr

/-- The operand fields of format T. -/
structure VTex where
  dst : BitVec 8
  coord : BitVec 8
  tdesc : BitVec 7
  sdesc : BitVec 7
  mask : BitVec 4
  offu : BitVec 4
  offv : BitVec 4
  deriving DecidableEq, Repr

/-- The operand fields of format Y. -/
structure VRay where
  dst : BitVec 8
  ray : BitVec 8
  root : BitVec 7
  omask : BitVec 7
  flags : BitVec 2
  deriving DecidableEq, Repr

/-- The operand fields of format X. -/
structure VExp where
  src : BitVec 8
  target : BitVec 4
  mask : BitVec 4
  deriving DecidableEq, Repr

/-! ### What the rasteriser supplies -/

/-- A covered pixel (R132): where it lies, its covered samples, its depth and its barycentrics. The manual gives no sample positions,
so the outside supplies them (log entry 20). -/
structure Frag where
  x : Nat
  y : Nat
  mask : Nat
  depth : Word
  i : Word
  j : Word
  deriving DecidableEq, Repr

/-- What rasterisation makes of a primitive of a draw that is neither clipped away nor culled (R97, R106): the tiles that it touches and
its fragments. -/
structure Prim where
  tiles : List Nat
  frags : List Frag
  deriving DecidableEq, Repr

/-- What a cluster starts (R97, R130, R132): the next vertex wave of a draw, a fragment wave of the quads at these places (x / 2, y / 2),
a workgroup of a dispatch, or a preempted wave that continues. -/
inductive WaveKind where
  | vertex (draw : Nat)
  | fragment (quads : List (Nat × Nat))
  | workgroup (disp x y z : Nat)
  | resume (wave : Nat)
  deriving DecidableEq, Repr

/-! ### What a sink reports -/

/-- What a port finds at an apply (R195, R196, R199, R204): the HPD level, whether the link trains, whether the sink supports
self refresh and selective update, and the granularity of its update region in lines. -/
structure DpSink where
  present : Bool
  trains : Bool
  psr : Bool
  su : Bool
  gran : Nat
  deriving DecidableEq, Repr

/-! ### What the glass supplies -/

/-- What a front end measured in a frame (R205, R207, R218): the count of a sense line in each chip of each drive step, by 128 ×
(4 × step + chip) + sense line; the noise at the four carriers, of which that of the active one is not used; and the ticks from the end
of the last step to the records. A sense line that no chip of a step lists has its nodes of that step at their baselines. -/
structure TouchFrame where
  chips : List (Nat × Int)
  noise : List Nat
  lag : Nat
  deriving DecidableEq, Repr

/-- What a calibration found (R208, R210): baselines by 8192 × frequency + node, and compensation codes by 2048 × frequency + 128 ×
step + sense line. -/
structure TouchCal where
  base : List (Nat × Int)
  comp : List (Nat × Nat)
  deriving DecidableEq, Repr

/-- What a bridge measured during a drive sample (R223, R224): the coil current in mA, VHAP in mV, and the current in mA to which each
PWM cycle of the sample would rise without the limit. -/
structure HapMeas where
  ma : Nat
  vhap : Nat
  cycles : List Nat
  deriving DecidableEq, Repr


/-! ### What the LP5X devices report -/

/-- What training finds (R262, R277, R280 to R283): the capacity in GiB, the vendor and density of every device, the data rate in
MT/s and the junction temperature in °C, the activations after which the devices ask for refresh management (none: they do not), the
channels whose verification pattern fails on the fast path and those that fail full training, and the results of the channels that train
in full, by channel. -/
structure Training where
  size : Nat
  devices : List (Nat × Nat)
  rate : Nat
  temp : Int
  rfm : Option Nat
  patternBad : List Nat
  failed : List Nat
  results : List (Nat × List Byte)
  deriving DecidableEq, Repr

/-- For what an agent makes a request (R267, R268): a line of a head, an audio stream or capture, or anything else. -/
inductive ReqFor where
  | line (head n : Nat)
  | stream
  | other
  deriving DecidableEq, Repr

/-- The part of a request in one line of a bank (R269): its address and bytes, a write of `data` when it is given. -/
structure BankPart where
  pa : Nat
  n : Nat
  data : Option (List (BitVec 8))
  deriving DecidableEq, Repr

/-- A request that reaches a bank arbiter (R267, R269): its input, what it is for, its lines, and whether it is an atomic. -/
structure BankReq where
  input : Nat
  what : ReqFor
  parts : List BankPart
  atomic : Bool
  deriving DecidableEq, Repr

/-- What the checks of R346 find in an access: nothing, a corrected or an uncorrectable error of the data that a bank holds, or an
uncorrectable error of its tag array. -/
inductive MemCheck where
  | clean
  | corrected
  | poison
  | tag
  deriving DecidableEq, Repr

/-- What happens to an access on the LP5X link: nothing, or an error that link ECC corrects or does not correct (R279). -/
inductive LinkCheck where
  | clean
  | corrected
  | bad
  deriving DecidableEq, Repr

/-- What a `PST` carries beside its registers: the offset of its address and its port time (R54). -/
structure PortPut where
  imm : BitVec 18
  lat : Nat
  deriving DecidableEq, Repr

/-- The wave that meets a word, and the word. -/
structure WaveWord where
  wave : Nat
  word : BitVec 64
  deriving DecidableEq, Repr

/-! ### Test and debug -/

/-- What a debugger asks at the debug port (R312): a register or LP5X memory of a world read or written, the fault log read, and a
sequencer halted, stepped by an instruction, let go, traced or loaded with words of its IMEM or its DMEM. -/
inductive DebugOp where
  | readReg (secure : Bool) (addr : Nat)
  | writeReg (secure : Bool) (addr : Nat) (value : BitVec 32)
  | readMem (secure : Bool) (addr n : Nat)
  | writeMem (secure : Bool) (addr : Nat) (data : List (BitVec 8))
  | readLog (entry : Nat)
  | halt (sq : Nat)
  | step (sq : Nat)
  | go (sq : Nat)
  | trace (sq : Nat)
  | load (sq : Nat) (imem : Bool) (index : Nat) (words : List (BitVec 32))
  deriving DecidableEq, Repr

/-- An IEEE 1149.1 instruction (R312). -/
inductive JtagOp where
  | bypass
  | idcode
  | sample
  | extest
  | intest
  deriving DecidableEq, Repr

/-- A PCIe configuration request (R296, R443, R476): a read, or a write of MSI-X Enable, Interrupt Disable, ATS Enable or anything else. -/
inductive ConfigOp where
  | read (offset : Nat)
  | msixEnable (on : Bool)
  | intDisable (on : Bool)
  | atsEnable (on : Bool)
  | write (offset : Nat) (value : BitVec 32)
  deriving DecidableEq, Repr

/-! ### Engines -/

/-- What the heartbeats and the carrier's checks find lost (R14, R361): a die, or the carrier with both dies and the bridge. -/
inductive DieLoss where
  | mixed
  | compute
  | carrier
  deriving DecidableEq, Repr

/-- An engine, level 3 of R14: a shader cluster, a traversal unit or the compositor of a channel, a touch front end, a haptic
bridge, or an LP5X controller. -/
inductive Engine where
  | cluster (c k : Nat)
  | traversal (c t : Nat)
  | compositor (c : Nat)
  | front (n : Nat)
  | bridge (n : Nat)
  | controller (b : Nat)
  deriving DecidableEq, Repr

end Sys2Proof
end

