-- ==== Sys2Proof/Syntax.lean ====
section
/-!
DEFINITION. The commands of the D8: one constructor per row of the opcode table, the instructions of the two instruction sets first. Operands are what
the sender names (registers, numbers, addresses, values) and what the outside world supplies with an event (measured
values, results of training, the tick at which it happens).
-/

namespace Sys2Proof

/-- The commands. -/
inductive Instr where
  /-- ADD (R54). rd := ra + rb with flags. -/
  | add (sq rd ra rb : Nat)
  /-- SUB (R54). rd := ra − rb with flags. -/
  | sub (sq rd ra rb : Nat)
  /-- AND (R54). Bitwise AND of two registers. -/
  | andR (sq rd ra rb : Nat)
  /-- OR (R54). Bitwise OR of two registers. -/
  | orR (sq rd ra rb : Nat)
  /-- XOR (R54). Bitwise XOR of two registers. -/
  | xor (sq rd ra rb : Nat)
  /-- SHL (R54). Shift left by rb[4:0]. -/
  | shl (sq rd ra rb : Nat)
  /-- SHR (R54). Logical shift right by rb[4:0]. -/
  | shr (sq rd ra rb : Nat)
  /-- SRA (R54). Arithmetic shift right by rb[4:0]. -/
  | sra (sq rd ra rb : Nat)
  /-- MUL (R54). Low 32 bits of ra × rb. -/
  | mul (sq rd ra rb : Nat)
  /-- MULHU (R54). High 32 bits of the unsigned product. -/
  | mulhu (sq rd ra rb : Nat)
  /-- MULH (R54). High 32 bits of the signed product. -/
  | mulh (sq rd ra rb : Nat)
  /-- DIVU (R54). Unsigned division, with all ones and v set for a zero divisor. -/
  | divu (sq rd ra rb : Nat)
  /-- REMU (R54). Unsigned remainder, with ra and v set for a zero divisor. -/
  | remu (sq rd ra rb : Nat)
  /-- MIN (R54). Signed minimum. -/
  | min (sq rd ra rb : Nat)
  /-- MAX (R54). Signed maximum. -/
  | max (sq rd ra rb : Nat)
  /-- MINU (R54). Unsigned minimum. -/
  | minu (sq rd ra rb : Nat)
  /-- MAXU (R54). Unsigned maximum. -/
  | maxu (sq rd ra rb : Nat)
  /-- CMP (R54). Sets flags from ra − rb. -/
  | cmp (sq ra rb : Nat)
  /-- ADDI (R54). rd := ra + sext(imm18). -/
  | addi (sq rd ra : Nat) (imm : BitVec 18)
  /-- ANDI (R54). Bitwise AND with a zero-extended immediate. -/
  | andi (sq rd ra : Nat) (imm : BitVec 18)
  /-- ORI (R54). Bitwise OR with a zero-extended immediate. -/
  | ori (sq rd ra : Nat) (imm : BitVec 18)
  /-- XORI (R54). Bitwise XOR with a zero-extended immediate. -/
  | xori (sq rd ra : Nat) (imm : BitVec 18)
  /-- SHLI (R54). Shift left by an immediate. -/
  | shli (sq rd ra k : Nat)
  /-- SHRI (R54). Logical shift right by an immediate. -/
  | shri (sq rd ra k : Nat)
  /-- SRAI (R54). Arithmetic shift right by an immediate. -/
  | srai (sq rd ra k : Nat)
  /-- CMPI (R54). Sets flags from ra − sext(imm18). -/
  | cmpi (sq ra : Nat) (imm : BitVec 18)
  /-- LUI (R54). rd := imm22 << 10. -/
  | lui (sq rd : Nat) (imm : BitVec 22)
  /-- LDW (R55). Loads a DMEM word, with range, alignment and ECC traps. -/
  | ldw (sq rd ra : Nat) (imm : BitVec 18) (ecc : Ecc)
  /-- LDH (R55). Loads a signed DMEM half-word. -/
  | ldh (sq rd ra : Nat) (imm : BitVec 18) (ecc : Ecc)
  /-- LDHU (R55). Loads an unsigned DMEM half-word. -/
  | ldhu (sq rd ra : Nat) (imm : BitVec 18) (ecc : Ecc)
  /-- LDB (R55). Loads a signed DMEM byte. -/
  | ldb (sq rd ra : Nat) (imm : BitVec 18) (ecc : Ecc)
  /-- LDBU (R55). Loads an unsigned DMEM byte. -/
  | ldbu (sq rd ra : Nat) (imm : BitVec 18) (ecc : Ecc)
  /-- STW (R55). Stores a word to DMEM. -/
  | stw (sq rd ra : Nat) (imm : BitVec 18)
  /-- STH (R55). Stores a half-word to DMEM. -/
  | sth (sq rd ra : Nat) (imm : BitVec 18)
  /-- STB (R55). Stores a byte to DMEM. -/
  | stb (sq rd ra : Nat) (imm : BitVec 18)
  /-- PLD (R57). Reads a port word from the register map in program order. -/
  | pld (sq rd ra : Nat) (imm : BitVec 18) (lat : Nat) (ans : PortAnswer)
  /-- PST (R57). Writes a port word, stalling on posted-block BUSY or at a ninth write in flight. -/
  | pst (sq rd ra : Nat) (put : PortPut)
  /-- MFS (R49). Reads a special register. -/
  | mfs (sq rd : Nat) (num : BitVec 18)
  /-- MTS (R49). Writes a writable special register. -/
  | mts (sq ra : Nat) (num : BitVec 18)
  /-- B (R53). Branches when its condition holds. -/
  | br (sq cond : Nat) (off : BitVec 22)
  /-- JAL (R54). Jumps pc-relative and links. -/
  | jal (sq rd : Nat) (off : BitVec 22)
  /-- JALR (R54). Jumps to a register address and links. -/
  | jalr (sq rd ra : Nat) (imm : BitVec 18)
  /-- POST_PICK (R62). Posts a PICK block that runs the head of an instance's queue on granted clusters. -/
  | postPick (sq rd ra : Nat)
  /-- POST_CTX (R112). Posts a CTX block that runs an item in the channel's compositor context. -/
  | postCtx (sq rd ra : Nat)
  /-- POST_COPY (R284). Posts a copy chain to a copy engine. -/
  | postCopy (sq rd ra : Nat)
  /-- POST_HAP (R228). Posts a stored haptic effect to a channel under its retrigger policy. -/
  | postHap (sq rd ra : Nat)
  /-- POST_AUD (R253). Starts or stops a tone and chime generator. -/
  | postAud (sq rd ra : Nat)
  /-- WAITB (R63). Ends the pass or sleeps until a wake tick. -/
  | waitb (sq ra : Nat)
  /-- WAITF (R64). Waits for masked events or a deadline, returning and clearing the events. -/
  | waitf (sq rd ra rb : Nat)
  /-- COMMIT (R65). Presents a commit of shadow groups to a head's commit port and returns its serial. -/
  | commit (sq rd ra rb : Nat)
  /-- ASWAP (R66). Requests a crosspoint bank swap at a target beat with a ramp. -/
  | aswap (sq rd ra rb : Nat)
  /-- SEEDW (R67). Requests a write of a seed register and returns its acceptance. -/
  | seedw (sq rd ra rb : Nat)
  /-- LOCKA (R68). Acquires a lock cell. -/
  | locka (sq rd ra : Nat)
  /-- LOCKR (R68). Releases a lock cell. -/
  | lockr (sq rd ra : Nat)
  /-- RAYQ (R69). Issues a ray query to a traversal unit. -/
  | rayq (sq rd ra : Nat)
  /-- TRAP (R70). Software trap with a code, entering the trap handler. -/
  | trap (sq : Nat) (code : BitVec 22)
  /-- ERET (R71). Returns from a trap, restoring flags. -/
  | eret (sq : Nat)
  /-- FADD (R146). Vector binary32 add. -/
  | fadd (w : Nat) (a : VArith)
  /-- FSUB (R146). Vector binary32 subtract. -/
  | fsub (w : Nat) (a : VArith)
  /-- FMUL (R146). Vector binary32 multiply. -/
  | fmul (w : Nat) (a : VArith)
  /-- FFMA (R146). Vector binary32 fused multiply-add. -/
  | ffma (w : Nat) (a : VArith)
  /-- FMIN (R146). Vector binary32 minimum. -/
  | fmin (w : Nat) (a : VArith)
  /-- FMAX (R146). Vector binary32 maximum. -/
  | fmax (w : Nat) (a : VArith)
  /-- FRND (R146). Round to nearest even integral. -/
  | frnd (w : Nat) (a : VArith)
  /-- FFLR (R146). Round down to integral. -/
  | fflr (w : Nat) (a : VArith)
  /-- FCEIL (R146). Round up to integral. -/
  | fceil (w : Nat) (a : VArith)
  /-- FTRUNC (R146). Round toward zero to integral. -/
  | ftrunc (w : Nat) (a : VArith)
  /-- FFRACT (R146). a − floor(a). -/
  | ffract (w : Nat) (a : VArith)
  /-- FCMP_EQ (R146). Float compare equal to a mask. -/
  | fcmpEq (w : Nat) (a : VArith)
  /-- FCMP_NE (R146). Float compare not equal or unordered to a mask. -/
  | fcmpNe (w : Nat) (a : VArith)
  /-- FCMP_LT (R146). Float compare less than to a mask. -/
  | fcmpLt (w : Nat) (a : VArith)
  /-- FCMP_LE (R146). Float compare less or equal to a mask. -/
  | fcmpLe (w : Nat) (a : VArith)
  /-- FCMP_GT (R146). Float compare greater than to a mask. -/
  | fcmpGt (w : Nat) (a : VArith)
  /-- FCMP_GE (R146). Float compare greater or equal to a mask. -/
  | fcmpGe (w : Nat) (a : VArith)
  /-- FCMP_ORD (R146). Float compare ordered to a mask. -/
  | fcmpOrd (w : Nat) (a : VArith)
  /-- FCMP_UNORD (R146). Float compare unordered to a mask. -/
  | fcmpUnord (w : Nat) (a : VArith)
  /-- FRCP (R145). Approximate reciprocal. -/
  | frcp (w : Nat) (a : VArith)
  /-- FRSQ (R145). Approximate reciprocal square root. -/
  | frsq (w : Nat) (a : VArith)
  /-- FSQRT (R145). Correctly rounded square root. -/
  | fsqrt (w : Nat) (a : VArith)
  /-- FEXP2 (R145). Approximate 2^a. -/
  | fexp2 (w : Nat) (a : VArith)
  /-- FLOG2 (R145). Approximate log2 a. -/
  | flog2 (w : Nat) (a : VArith)
  /-- FSINR (R145). Approximate sin 2πa. -/
  | fsinr (w : Nat) (a : VArith)
  /-- FCOSR (R145). Approximate cos 2πa. -/
  | fcosr (w : Nat) (a : VArith)
  /-- F2I (R144). Float to signed integer, saturating. -/
  | f2i (w : Nat) (a : VArith)
  /-- F2U (R144). Float to unsigned integer, saturating. -/
  | f2u (w : Nat) (a : VArith)
  /-- I2F (R144). Signed integer to float. -/
  | i2f (w : Nat) (a : VArith)
  /-- U2F (R144). Unsigned integer to float. -/
  | u2f (w : Nat) (a : VArith)
  /-- F2H (R143). binary32 to binary16. -/
  | f2h (w : Nat) (a : VArith)
  /-- H2F (R143). binary16 to binary32. -/
  | h2f (w : Nat) (a : VArith)
  /-- F2H2 (R143). Two binary32 values packed to binary16 halves. -/
  | f2h2 (w : Nat) (a : VArith)
  /-- HADD2 (R143). Packed binary16 add. -/
  | hadd2 (w : Nat) (a : VArith)
  /-- HMUL2 (R143). Packed binary16 multiply. -/
  | hmul2 (w : Nat) (a : VArith)
  /-- HFMA2 (R143). Packed binary16 fused multiply-add. -/
  | hfma2 (w : Nat) (a : VArith)
  /-- HMIN2 (R143). Packed binary16 minimum. -/
  | hmin2 (w : Nat) (a : VArith)
  /-- HMAX2 (R143). Packed binary16 maximum. -/
  | hmax2 (w : Nat) (a : VArith)
  /-- IADD (R146). Vector integer add modulo 2^32. -/
  | iadd (w : Nat) (a : VArith)
  /-- ISUB (R146). Vector integer subtract modulo 2^32. -/
  | isub (w : Nat) (a : VArith)
  /-- IMUL (R146). Low 32 bits of a vector product. -/
  | imul (w : Nat) (a : VArith)
  /-- IMULHU (R146). High 32 bits of an unsigned vector product. -/
  | imulhu (w : Nat) (a : VArith)
  /-- IMULH (R146). High 32 bits of a signed vector product. -/
  | imulh (w : Nat) (a : VArith)
  /-- IMAD (R146). Low 32 bits of a × b + c. -/
  | imad (w : Nat) (a : VArith)
  /-- VEC_AND (R146). Vector bitwise AND. -/
  | vecAnd (w : Nat) (a : VArith)
  /-- VEC_OR (R146). Vector bitwise OR. -/
  | vecOr (w : Nat) (a : VArith)
  /-- VEC_XOR (R146). Vector bitwise XOR. -/
  | vecXor (w : Nat) (a : VArith)
  /-- VEC_SHL (R146). Vector shift left. -/
  | vecShl (w : Nat) (a : VArith)
  /-- VEC_SHR (R146). Vector logical shift right. -/
  | vecShr (w : Nat) (a : VArith)
  /-- VEC_SRA (R146). Vector arithmetic shift right. -/
  | vecSra (w : Nat) (a : VArith)
  /-- IMIN (R146). Vector signed minimum. -/
  | imin (w : Nat) (a : VArith)
  /-- IMAX (R146). Vector signed maximum. -/
  | imax (w : Nat) (a : VArith)
  /-- UMIN (R146). Vector unsigned minimum. -/
  | umin (w : Nat) (a : VArith)
  /-- UMAX (R146). Vector unsigned maximum. -/
  | umax (w : Nat) (a : VArith)
  /-- BFE (R146). Unsigned bit-field extract. -/
  | bfe (w : Nat) (a : VArith)
  /-- BFI (R146). Bit-field insert. -/
  | bfi (w : Nat) (a : VArith)
  /-- POPC (R146). Vector count of ones. -/
  | popc (w : Nat) (a : VArith)
  /-- FMSB (R146). Index of the highest one. -/
  | fmsb (w : Nat) (a : VArith)
  /-- ICMP_EQ (R146). Integer compare equal to a mask. -/
  | icmpEq (w : Nat) (a : VArith)
  /-- ICMP_NE (R146). Integer compare not equal to a mask. -/
  | icmpNe (w : Nat) (a : VArith)
  /-- ICMP_LT (R146). Signed compare less than to a mask. -/
  | icmpLt (w : Nat) (a : VArith)
  /-- ICMP_LE (R146). Signed compare less or equal to a mask. -/
  | icmpLe (w : Nat) (a : VArith)
  /-- ICMP_GT (R146). Signed compare greater than to a mask. -/
  | icmpGt (w : Nat) (a : VArith)
  /-- ICMP_GE (R146). Signed compare greater or equal to a mask. -/
  | icmpGe (w : Nat) (a : VArith)
  /-- ICMP_LTU (R146). Unsigned compare less than to a mask. -/
  | icmpLtu (w : Nat) (a : VArith)
  /-- ICMP_GEU (R146). Unsigned compare greater or equal to a mask. -/
  | icmpGeu (w : Nat) (a : VArith)
  /-- MOV (R146). Vector move. -/
  | mov (w : Nat) (a : VArith)
  /-- SEL (R146). Per-lane select by a mask. -/
  | sel (w : Nat) (a : VArith)
  /-- LGET (R146). Scalar value of one lane. -/
  | lget (w : Nat) (a : VArith)
  /-- SHUF (R146). Lane shuffle. -/
  | shuf (w : Nat) (a : VArith)
  /-- VINTERP (R146). Interpolates an attribute component with barycentrics. -/
  | vinterp (w : Nat) (a : VArith)
  /-- DDX (R146). Horizontal derivative within a quad. -/
  | ddx (w : Nat) (a : VArith)
  /-- DDY (R146). Vertical derivative within a quad. -/
  | ddy (w : Nat) (a : VArith)
  /-- SADD (R146). Scalar add with carry into q. -/
  | sadd (w : Nat) (a : VArith)
  /-- SSUB (R146). Scalar subtract with borrow into q. -/
  | ssub (w : Nat) (a : VArith)
  /-- SMUL (R146). Scalar multiply, low 32 bits. -/
  | smul (w : Nat) (a : VArith)
  /-- SAND (R146). Scalar AND. -/
  | sand (w : Nat) (a : VArith)
  /-- SOR (R146). Scalar OR. -/
  | sor (w : Nat) (a : VArith)
  /-- SXOR (R146). Scalar XOR. -/
  | sxor (w : Nat) (a : VArith)
  /-- SBIC (R146). Scalar a AND NOT b. -/
  | sbic (w : Nat) (a : VArith)
  /-- SSHL (R146). Scalar shift left. -/
  | sshl (w : Nat) (a : VArith)
  /-- SSHR (R146). Scalar logical shift right. -/
  | sshr (w : Nat) (a : VArith)
  /-- SSRA (R146). Scalar arithmetic shift right. -/
  | ssra (w : Nat) (a : VArith)
  /-- SMOV (R146). Scalar move, including to amask or predicate masks. -/
  | smov (w : Nat) (a : VArith)
  /-- SPOPC (R146). Scalar count of ones. -/
  | spopc (w : Nat) (a : VArith)
  /-- SLSB (R146). Index of the lowest one. -/
  | slsb (w : Nat) (a : VArith)
  /-- SCMP_EQ (R146). Scalar compare equal into q. -/
  | scmpEq (w : Nat) (a : VArith)
  /-- SCMP_NE (R146). Scalar compare not equal into q. -/
  | scmpNe (w : Nat) (a : VArith)
  /-- SCMP_LT (R146). Scalar signed less than into q. -/
  | scmpLt (w : Nat) (a : VArith)
  /-- SCMP_LE (R146). Scalar signed less or equal into q. -/
  | scmpLe (w : Nat) (a : VArith)
  /-- SCMP_GT (R146). Scalar signed greater than into q. -/
  | scmpGt (w : Nat) (a : VArith)
  /-- SCMP_GE (R146). Scalar signed greater or equal into q. -/
  | scmpGe (w : Nat) (a : VArith)
  /-- SCMP_LTU (R146). Scalar unsigned less than into q. -/
  | scmpLtu (w : Nat) (a : VArith)
  /-- SCMP_GEU (R146). Scalar unsigned greater or equal into q. -/
  | scmpGeu (w : Nat) (a : VArith)
  /-- SSEL (R146). Scalar select by q. -/
  | ssel (w : Nat) (a : VArith)
  /-- BRA (R146). Wave branch always. -/
  | bra (w : Nat) (imm : Word)
  /-- BQ1 (R146). Wave branch when q = 1. -/
  | bq1 (w : Nat) (imm : Word)
  /-- BQ0 (R146). Wave branch when q = 0. -/
  | bq0 (w : Nat) (imm : Word)
  /-- BAZ (R146). Wave branch when amask = 0. -/
  | baz (w : Nat) (imm : Word)
  /-- BANZ (R146). Wave branch when amask ≠ 0. -/
  | banz (w : Nat) (imm : Word)
  /-- WGBAR (R154). Workgroup barrier. -/
  | wgbar (w : Nat)
  /-- MEMBAR (R150). Memory barrier at workgroup, channel or device scope. -/
  | membar (w : Nat) (imm : Word)
  /-- VEC_NOP (R146). Vector no-operation. -/
  | vecNop (w : Nat)
  /-- VEC_END (R146). The wave ends and frees its registers. -/
  | vecEnd (w : Nat)
  /-- SLD (R147). Scalar load of dwords from an address pair. -/
  | sld (w : Nat) (a : VMem)
  /-- BLD (R148). Buffer load into vector registers, zero when out of range. -/
  | bld (w : Nat) (a : VMem)
  /-- BST (R148). Buffer store from vector registers. -/
  | bst (w : Nat) (a : VMem)
  /-- BATOM_ADD (R149). Buffer atomic add. -/
  | batomAdd (w : Nat) (a : VMem)
  /-- BATOM_SMIN (R149). Buffer atomic signed minimum. -/
  | batomSmin (w : Nat) (a : VMem)
  /-- BATOM_SMAX (R149). Buffer atomic signed maximum. -/
  | batomSmax (w : Nat) (a : VMem)
  /-- BATOM_UMIN (R149). Buffer atomic unsigned minimum. -/
  | batomUmin (w : Nat) (a : VMem)
  /-- BATOM_UMAX (R149). Buffer atomic unsigned maximum. -/
  | batomUmax (w : Nat) (a : VMem)
  /-- BATOM_AND (R149). Buffer atomic AND. -/
  | batomAnd (w : Nat) (a : VMem)
  /-- BATOM_OR (R149). Buffer atomic OR. -/
  | batomOr (w : Nat) (a : VMem)
  /-- BATOM_XOR (R149). Buffer atomic XOR. -/
  | batomXor (w : Nat) (a : VMem)
  /-- BATOM_XCHG (R149). Buffer atomic exchange. -/
  | batomXchg (w : Nat) (a : VMem)
  /-- BATOM_CMPXCHG (R149). Buffer atomic compare-exchange. -/
  | batomCmpxchg (w : Nat) (a : VMem)
  /-- WLD (R147). Workgroup memory load. -/
  | wld (w : Nat) (a : VMem)
  /-- WST (R147). Workgroup memory store. -/
  | wst (w : Nat) (a : VMem)
  /-- WATOM_ADD (R147). Workgroup atomic add. -/
  | watomAdd (w : Nat) (a : VMem)
  /-- WATOM_SMIN (R147). Workgroup atomic signed minimum. -/
  | watomSmin (w : Nat) (a : VMem)
  /-- WATOM_SMAX (R147). Workgroup atomic signed maximum. -/
  | watomSmax (w : Nat) (a : VMem)
  /-- WATOM_UMIN (R147). Workgroup atomic unsigned minimum. -/
  | watomUmin (w : Nat) (a : VMem)
  /-- WATOM_UMAX (R147). Workgroup atomic unsigned maximum. -/
  | watomUmax (w : Nat) (a : VMem)
  /-- WATOM_AND (R147). Workgroup atomic AND. -/
  | watomAnd (w : Nat) (a : VMem)
  /-- WATOM_OR (R147). Workgroup atomic OR. -/
  | watomOr (w : Nat) (a : VMem)
  /-- WATOM_XOR (R147). Workgroup atomic XOR. -/
  | watomXor (w : Nat) (a : VMem)
  /-- WATOM_XCHG (R147). Workgroup atomic exchange. -/
  | watomXchg (w : Nat) (a : VMem)
  /-- WATOM_CMPXCHG (R147). Workgroup atomic compare-exchange. -/
  | watomCmpxchg (w : Nat) (a : VMem)
  /-- SAMPLE (R152). Filtered texture sample with implicit level of detail. -/
  | sample (w : Nat) (a : VTex)
  /-- SAMPLE_L (R151). Texture sample at a given level of detail. -/
  | sampleL (w : Nat) (a : VTex)
  /-- SAMPLE_B (R151). Texture sample with a bias. -/
  | sampleB (w : Nat) (a : VTex)
  /-- FETCH (R151). Unfiltered texel fetch by integer coordinates. -/
  | fetch (w : Nat) (a : VTex)
  /-- QUERY (R151). Returns the size and levels of a texture level. -/
  | query (w : Nat) (a : VTex)
  /-- TRACE (R153). Issues one ray query per active lane. -/
  | trace (w : Nat) (a : VRay)
  /-- EXPC (R154). Exports colour to an attachment through blend. -/
  | expc (w : Nat) (a : VExp)
  /-- EXPZ (R154). Exports fragment depth. -/
  | expz (w : Nat) (a : VExp)
  /-- EXPP (R154). Exports clip-space position. -/
  | expp (w : Nat) (a : VExp)
  /-- EXPA (R154). Exports an attribute slot. -/
  | expa (w : Nat) (a : VExp)
  /-- KILL (R154). Removes lanes from live, leaving them as helpers. -/
  | kill (w : Nat)
  /-- RESET_N_RISE (R475). The rising edge of RESET_N starts the start-up path, with mode sampling and the beat generator starting to count. -/
  | resetNRise (mode1 mode0 : List Bool)
  /-- RESET_N_FALL (R456). A low pulse of at least 1 µs on RESET_N puts pins in reset state, completes accepted seed writes and resets the device. -/
  | resetNFall
  /-- VHOLD_GOOD (R452). VHOLD reaching 4.7 V releases the device from the always-on domain's own hold. -/
  | vholdGood
  /-- SEED_MIRROR_READY (R328). The seed mirror finishes loading from MRAM, sets ready and lets the mode and boot settings be decided. -/
  | seedMirrorReady
  /-- TRAINING_DONE (R280). LP5X training by the fast or full path ends, reports the path and writes a new training record if needed. -/
  | trainingDone (t : Training)
  /-- BOOT_IMAGE_CHECK (R474). The boot loader reads the container copies, chooses and verifies one, places data entries and loads draft images. -/
  | bootImageCheck
  /-- BOOT_CMD_GO (R479). A write of GLB_BOOT_CMD.go in HOST_WAIT makes the loader check a host-supplied container. -/
  | bootCmdGo (ag : Agent)
  /-- PERST_N_ASSERT (R477). PERST_N after phase SEED resets only the host interface, as a function-level reset of PF0. -/
  | perstNAssert
  /-- BEAT_EDGE (R25). The beat generator's count of samples expires and the device runs the ordered steps of a beat edge on both dies. -/
  | beatEdge (ticks arrived : Nat) (ins : List (Nat × List Nat)) (bad : List Nat)
  /-- CFGCRC_PASS_END (R350). The checker's pass ends, writes its result, compares with the reference and guard twins, and raises CFG records on mismatch. -/
  | cfgcrcPassEnd
  /-- CFGCRC_HOLD_EXPIRE (R351). Hold set for 64 beat edges is cleared, comparison resumes against the old reference and a CFG record is raised. -/
  | cfgcrcHoldExpire
  /-- BEAT_PERIOD_WRITE (R19). A write to BEAT_PERIOD sets the length of the next or following beat, or sets bad_period when out of range. -/
  | beatPeriodWrite (ag : Agent) (value : Word)
  /-- BEAT_NOW_READ (R45). A read of BEAT_NOW_LO returns the low beat-time word and captures the high word. -/
  | beatNowRead
  /-- AMCLK_LOST (R21). Loss of AMCLK puts the beat generator in holdover on the REFCLK-derived clock and raises a fault record. -/
  | amclkLost
  /-- HOLDOVER_EXIT (R22). After 1,024 good AMCLK cycles the beat generator returns to AMCLK at the next sample-aligned edge. -/
  | holdoverExit
  /-- FALLOW_OPEN (R28). The fallow window opens and every running pick is preempted. -/
  | fallowOpen
  /-- PICK_FINISH (R29). An item's work finishes in a pick, releasing the clusters and deciding its completion. -/
  | pickFinish (sq slot : Nat)
  /-- PICK_BUDGET_EXPIRE (R29). A pick's budget expires and the pick is preempted with its item left queued. -/
  | pickBudgetExpire (sq slot : Nat)
  /-- PREEMPT_RELEASE (R30). Every cluster of a preempted pick has saved its state and been released. -/
  | preemptRelease (sq slot after : Nat)
  /-- CLUSTER_OVERSTAY (R32). A cluster not released 16,000 ticks after a preemption request is stopped, its item fails and it resets. -/
  | clusterOverstay (sq slot k : Nat)
  /-- ENGINE_RESET (R345). An engine that contains a fault resets within 12 µs, failing its current work. -/
  | engineReset (e : Engine)
  /-- CHANNEL_RESET (R425). A committed GLB_RST.channel bit, or a contained channel fault, resets a channel at level 4 and abandons its items. -/
  | channelReset (c : Nat) (reason : Option Agent)
  /-- DEVICE_RESET (R425). A committed GLB_RST.device from the secure world resets the device as RESET_N does. -/
  | deviceReset (ag : Agent)
  /-- PASS_OVERRUN (R34). A pass reaches its budget without WAITB and the sequencer acts by its overrun policy. -/
  | passOverrun (sq : Nat)
  /-- OVERRUN_GRACE_EXPIRE (R73). A pass that does not end within 2,000 cycles after its OVERRUN trap is stopped. -/
  | overrunGraceExpire (sq : Nat)
  /-- PLD_TIMEOUT (R58). A PLD not answered within 4,000 cycles takes a PORT_ERROR trap. -/
  | pldTimeout (sq : Nat)
  /-- WAITB_WAKE (R63). stick reaches the wake tick of a sleeping pass and it continues. -/
  | waitbWake (sq : Nat)
  /-- WAITF_RETURN (R64). A masked event arrives or the deadline passes during a WAITF and it returns. -/
  | waitfReturn (sq tick : Nat)
  /-- RAY_QUERY_END (R118). A traversal query ends, writing its result words and setting the RAY event. -/
  | rayQueryEnd (sq slot : Nat)
  /-- SEQ_ILLEGAL (R51). An instruction word with an unlisted or malformed encoding takes an ILLEGAL trap. -/
  | seqIllegal (sq : Nat) (why : FetchFault)
  /-- CSQ_LOAD_GO (R77). A write of CSQ_LOAD.go starts loading a draft image into the idle banks. -/
  | csqLoadGo (ag : Agent) (q : Nat)
  /-- IMAGE_VERIFY_DONE (R77). The loader finishes copying and verifying an image and sets the load result. -/
  | imageVerifyDone (q : Nat)
  /-- CSQ_RESTART (R79). A write of CSQ_CTL.restart leaves the halted state for a fresh pass at the next edge. -/
  | csqRestart (ag : Agent) (q : Nat)
  /-- CSQ_RUN (R79). A write of CSQ_CTL.run enables or stops new passes at beat edges. -/
  | csqRun (ag : Agent) (q : Nat) (run : Bool)
  /-- CSQ_MAIL (R79). A write of CSQ_MAIL sets MAIL in the sequencer's sevent. -/
  | csqMail (ag : Agent) (q : Nat) (value : Word)
  /-- CSQ_VOTE (R383). A write of CSQ_VOTE is copied to the sequencer's power vote word. -/
  | csqVote (ag : Agent) (c : Nat) (value : Word)
  /-- DOORBELL (R82). A write of INST_Q_n_DOORBELL publishes a new producer index or sets bad_doorbell. -/
  | doorbell (i n : Nat) (value : Word)
  /-- DESCRIPTOR_ADMIT (R83). With an item entry and harvest slot free, the D8 reads, checks, rate-limits and admits one descriptor. -/
  | descriptorAdmit (i : Nat)
  /-- HRV_WRITE_FAULT_CLEAR (R94). Clearing write_fault writes the held records in order and resumes admission. -/
  | hrvWriteFaultClear (i : Nat)
  /-- HRV_IRQ_AGE (R96). An unsignalled harvest record reaching the age threshold signals the harvest vector. -/
  | hrvIrqAge (i : Nat)
  /-- INST_Q_CFG_WRITE (R96). A write of INST_Q_n_CFG enables a queue or disables it, cancelling its unstarted items. -/
  | instQCfgWrite (i n : Nat) (value : Word)
  /-- INST_HRV_CFG_WRITE (R96). A write of INST_HRV_CFG configures or enables the harvest ring, refused while items are admitted. -/
  | instHrvCfgWrite (i : Nat) (value : Word)
  /-- HRV_CONS_WRITE (R96). A write of INST_HRV_CONS frees harvest slots or is ignored and sets bad_cons. -/
  | hrvConsWrite (i : Nat) (value : Word)
  /-- FENCE (R85). A FENCE item completes when every earlier item of its queue has completed. -/
  | fence (i n : Nat)
  /-- SEED_ITEM (R85). The queue front end submits a SEED item to the seed store and completes it when persistent. -/
  | seedItem (i n : Nat)
  /-- POWER_WITHDRAW (R372). A POWER item clears the manager's vote for a domain. -/
  | powerWithdraw (i : Nat) (n : Nat)
  /-- POWER_HOLD (R372). A POWER item sets the manager's vote and completes when the domain is ON. -/
  | powerHold (i : Nat) (n : Nat)
  /-- POWER_DROP (R372). A POWER item drops a domain unless another client's vote holds it. -/
  | powerDrop (i : Nat) (n : Nat)
  /-- NOP (R98). Command packet that does nothing. -/
  | nop (u : Nat)
  /-- STATE (R98). Command packet that sets programs, raster, depth, stencil and blend state. -/
  | state (u : Nat)
  /-- PASS_BEGIN (R99). Command packet that starts a render pass. -/
  | passBegin (u : Nat)
  /-- ATTACH (R98). Command packet that binds an attachment to the pass. -/
  | attach (u : Nat)
  /-- DRAW (R97). Command packet that draws primitives through the pipeline. -/
  | draw (u : Nat) (cover : List Prim)
  /-- DRAW_INDIRECT (R98). Command packet that draws with arguments from memory. -/
  | drawIndirect (u : Nat) (covers : List (List Prim))
  /-- DISPATCH (R98). Command packet that dispatches compute workgroups. -/
  | dispatch (u : Nat)
  /-- DISPATCH_INDIRECT (R98). Command packet that dispatches with arguments from memory. -/
  | dispatchIndirect (u : Nat)
  /-- PASS_END (R107). Command packet that ends a pass and stores remaining tiles. -/
  | passEnd (u : Nat)
  /-- CACHE (R103). Command packet that invalidates L1 or cleans and invalidates an L2 range. -/
  | cache (u : Nat)
  /-- BARRIER (R98). Command packet that waits for earlier packets to finish and reach L2. -/
  | barrier (u : Nat)
  /-- BIND (R98). Command packet that binds resource, vertex buffer and constant tables. -/
  | bind (u : Nat)
  /-- TIMESTAMP (R98). Command packet that writes the beat time once earlier packets finish. -/
  | timestamp (u : Nat)
  /-- END (R104). Command packet that ends the buffer, cleans dirty lines and decides completion. -/
  | endC (u : Nat)
  /-- CTX_LIMIT_EXPIRE (R113). A compositor context exceeding RAS_CTX_LIMIT is stopped and its item fails. -/
  | ctxLimitExpire (c : Nat)
  /-- RAS_PIN_LOAD (R121). A write of RAS_PIN_SIZE loads and pins a range into L2. -/
  | rasPinLoad (ch : Nat) (value : Word)
  /-- RPJ_LEAD_POINT (R124). At the reprojection lead point the engine starts a reprojection pass or shows the last frame. -/
  | rpjLeadPoint (h : Nat)
  /-- RPJ_PASS_END (R124). A reprojection pass ends and commits its target to the layer. -/
  | rpjPassEnd (h after : Nat)
  /-- WAVE_START (R130). A cluster starts a wave or workgroup when registers, waves and memory fit. -/
  | waveStart (u k : Nat) (what : WaveKind)
  /-- VEC_ILLEGAL (R141). An ILLEGAL vector instruction stops the item and raises a fault record. -/
  | vecIllegal (w : WaveWord)
  /-- COMMIT_CHECK_END (R162). A commit's 256-tick check ends, landing it in a pending set or rejecting it. -/
  | commitCheckEnd (h : Nat)
  /-- TAKE (R166). A write of CMP_HEAD_m_TAKE loads a FLIP item's shadow block into the shadow sets. -/
  | take (h i n : Nat)
  /-- HEAD_CUTOFF (R184). The commit cut-off line closes the coming frame's pending set. -/
  | headCutoff (h : Nat)
  /-- VRR_LINE_INSERT (R187). An Adaptive-Sync head with an empty pending set inserts a front-porch line. -/
  | vrrLineInsert (h : Nat)
  /-- HEAD_LATCH_LINE (R184). At its latch line a head increments the frame counter, stamps the flip and applies the pending set. -/
  | headLatchLine (h : Nat)
  /-- HEAD_CLOCK_LOCKED (R190). The restarted head's clock locks and the new timing starts. -/
  | headClockLocked (h after : Nat)
  /-- HEAD_START (R188). A stopped head given a valid enabled timing starts at its latch line. -/
  | headStart (h after : Nat)
  /-- RETIRE_RECORD_WRITE (R176). A due retire record is written to its owner's ring once fetches return and the ring has room. -/
  | retireRecordWrite (c i : Nat)
  /-- COMPOSE_LINE (R172). The compositor fetches, culls and blends one output line from the layers. -/
  | composeLine (h : Nat)
  /-- UNDERRUN (R194). A line with no pixel when the port needs it is sent as background and counted. -/
  | underrun (h col : Nat)
  /-- WRITEBACK_FRAME_DONE (R174). The last writeback of a frame reaches the system cache and WB_STAT.done is set. -/
  | writebackFrameDone (h : Nat)
  /-- RECT_CHECK_RESULT (R192). A rectangle's CRC is decided, compared with its expectation and may trigger its action. -/
  | rectCheckResult (h k : Nat)
  /-- TIMING_CHK (R183). A write of HEAD_n_TIMING_CHK.go checks the shadow timing set. -/
  | timingChk (h : Nat)
  /-- CLEAR_FALLBACK (R193). A secure write ends FALLBACK at the next latch line. -/
  | clearFallback (h : Nat)
  /-- CLEAR_BLANK (R193). A secure write ends BLANK at the next latch line. -/
  | clearBlank (h : Nat)
  /-- GENLOCK_IN_PULSE (R197). A rising edge on GENLOCK_IN gives the latch reference. -/
  | genlockInPulse (tick : Nat)
  /-- DP_APPLY (R198). A write of DP_p_CTL.apply checks bandwidth, trains the link and allocates streams. -/
  | dpApply (p : Nat) (sink : DpSink)
  /-- DP_LINK_LOST (R200). Loss of link lock or HPD stops the port and sets link_lost. -/
  | dpLinkLost (p : Nat) (hpd : Bool)
  /-- HPD_IRQ (R200). A short HPD pulse sets hpd_irq. -/
  | hpdIrq (p : Nat)
  /-- TCH_ENABLE (R210). Enabling a front end loads its newest valid baseline image or calibrates. -/
  | tchEnable (n : Nat)
  /-- TOUCH_READY (R210). Image load or calibration ends and the front end sets ready and starts frames. -/
  | touchReady (n : Nat) (cal : TouchCal)
  /-- TOUCH_FRAME_END (R215). At the end of a frame the front end updates baselines, finds and tracks contacts and writes reports. -/
  | touchFrameEnd (n : Nat) (m : TouchFrame) (tick : Nat)
  /-- CONTACT_HOLD_EXPIRE (R216). A contact's hold timer reaches the limit and it becomes STUCK or is absorbed. -/
  | contactHoldExpire (n id : Nat)
  /-- BASELINE_STORE_TIMER (R214). The automatic store interval of powered hours expires and a store becomes due. -/
  | baselineStoreTimer (n : Nat)
  /-- TCH_STORE_NOW (R214). A write of TCH_n_STORE.now requests a store, refused within 60 s of the last. -/
  | tchStoreNow (n : Nat)
  /-- RO_GATE_END (R221). A relaxation channel's gate ends, updating baseline and activation and writing records. -/
  | roGateEnd (n : Nat) (count : Nat) (tick : Nat)
  /-- RO_HOLD_EXPIRE (R222). A channel active beyond hold writes one HELD record. -/
  | roHoldExpire (n : Nat)
  /-- HAP_SAMPLE (R224). Each drive sample sums effect and sink, applies limits and updates ΔT. -/
  | hapSample (n : Nat) (m : HapMeas)
  /-- EFFECT_END (R229). An effect's segments and brake end, it reports PLAYED and any queued effect starts. -/
  | effectEnd (n : Nat)
  /-- SPLICE_START (R231). At the velocity zero crossing the new effect starts and the old reports SPLICED. -/
  | spliceStart (n after : Nat)
  /-- CUT_VOLT (R223). Clipping for 2 ms or VHAP below 3.0 V stops the effect. -/
  | cutVolt (n : Nat) (low : Bool)
  /-- CUT_TIME (R223). Continuous drive reaching max_ms stops all drive and starts a rest. -/
  | cutTime (n : Nat)
  /-- REST_END (R223). The rest of max_ms ends and the channel drives again. -/
  | restEnd (n : Nat)
  /-- HAP_CAL_GO (R226). A write of HAP_n_CAL.go on an idle channel starts a resonance calibration. -/
  | hapCalGo (n : Nat)
  /-- HAP_CAL_DONE (R226). The calibration chirp ends, giving f0, Q and Re or cal_fail. -/
  | hapCalDone (n f0 q re : Nat)
  /-- TRIG_EDGE (R232). A trigger pin edge starts its stored effect on its haptic channel. -/
  | trigEdge (t : Nat) (rising : Bool) (tick : Nat)
  /-- TRIG_HOLD_EXPIRE (R232). A trigger level held beyond hold sets held and writes a fault record. -/
  | trigHoldExpire (t : Nat)
  /-- AUD_SWAP_REQ (R249). A write of AUD_SWAP_REQ.go requests a bank swap under the rules of ASWAP. -/
  | audSwapReq (ag : Agent) (ramp : Nat)
  /-- SWAP_RAMP_END (R248). The swap's ramp count ends and the swap is no longer pending. -/
  | swapRampEnd
  /-- AUD_COPY (R245). A write of AUD_COPY.go copies the active bank into the idle bank. -/
  | audCopy
  /-- AUD_COPY_DONE (R245). The bank copy ends and BUSY clears. -/
  | audCopyDone
  /-- AUD_BANK_WRITE (R245). A write to a crosspoint node or sink block lands in the idle bank or is ignored with bank_locked. -/
  | audBankWrite (ag : Agent) (addr : Nat) (value : Word)
  /-- AUD_STORE (R259). A write of AUD_STORE.now stores a bank as the default audio image. -/
  | audStore
  /-- GEN_FINISH (R253). A generator finishes its repeats and falls silent. -/
  | genFinish (n : Nat)
  /-- TDM_CLK_LOST (R258). A target port without BCLK for two frames sets clk_lost and silences. -/
  | tdmClkLost (p : Nat)
  /-- TDM_LOCK (R256). A converted or returning port locks to its clock and passes samples. -/
  | tdmLock (p : Nat)
  /-- TDM_SLIP (R256). A drifting synchronous port repeats or drops a frame. -/
  | tdmSlip (p : Nat)
  /-- SC_ACCESS (R263). A memory request is served by a system-cache bank, hitting or allocating per its class. -/
  | scAccess (input pa n : Nat) (data : Option (List Byte)) (what : ReqFor) (chk : MemCheck) (link : LinkCheck)
  /-- SC_FILL (R270). LP5X data returns for a miss and the fill takes a hold of the bank. -/
  | scFill (b : Nat)
  /-- ARBITER_GRANT (R269). A bank arbiter grants the data array to the first requesting input of the highest tier. -/
  | arbiterGrant (b : Nat) (new : List BankReq)
  /-- TIER_B_PROMOTE (R269). A request waiting 256 cycles at a bank becomes tier B. -/
  | tierBPromote (b input : Nat)
  /-- QUOTA_WINDOW (R269). A 64-cycle window starts and the tier-A quota renews. -/
  | quotaWindow
  /-- CONTROLLER_ISSUE (R273). An LP5X controller issues the first command of its scheduling order in a slot. -/
  | controllerIssue (b : Nat)
  /-- ROW_CLOSE (R276). A bank's idle timer expires and its open row closes. -/
  | rowClose (b bank : Nat)
  /-- REFRESH_DUE (R277). A per-bank refresh or RFM falls due. -/
  | refreshDue (b bank : Nat) (rfm : Bool)
  /-- NEIGHBOUR_REFRESH (R278). A scheduled neighbour refresh falls due 4 µs after its activate. -/
  | neighbourRefresh (b : Nat)
  /-- PNR_RESEED (R278). Each neighbour-refresh generator is reseeded once a second. -/
  | pnrReseed
  /-- DQS_CHECK (R282). Every 64 ms the controller reads the DQS oscillator and corrects drift. -/
  | dqsCheck (b : Nat) (drift : Int)
  /-- COPY_CHAIN_START (R284). A copy engine starts its next waiting chain once the previous ends. -/
  | copyChainStart (n : Nat)
  /-- COPY_CHAIN_END (R287). A chain ends, writing its check value and completion status. -/
  | copyChainEnd (n whole pages : Nat)
  /-- MED_CALL (R298). A write of INST_MED_CALL decides a mediation call by its checks. -/
  | medCall (code : Nat)
  /-- SETUP (R299). Records an instance's channels, quota, root and PASID. -/
  | setup
  /-- START (R299). Makes a set-up instance RUNNING or PARKED. -/
  | start
  /-- SHARE (R302). Sets an instance's weight, rate and burst from the next edge. -/
  | share
  /-- INVAL (R297). Removes cached translations of a range and waits for accesses using them. -/
  | inval
  /-- FREEZE (R304). Starts freezing an instance. -/
  | freeze
  /-- FREEZE_DONE (R304). The freeze sequence drains and the instance becomes FROZEN. -/
  | freezeDone (i : Nat)
  /-- SAVE (R306). Writes a frozen instance's image to the manager's buffer. -/
  | save
  /-- RESTORE (R307). Reads an instance image into a stopped instance, rebasing deadlines. -/
  | restore
  /-- THAW (R299). Returns a frozen instance to RUNNING or PARKED. -/
  | thaw
  /-- RESET (R303). Resets an instance, cancelling and abandoning its items. -/
  | reset
  /-- RESET_DRAIN_DONE (R93). After the reset instance's clusters are released, its records are written and its queue page is cleared. -/
  | resetDrainDone (i : Nat)
  /-- CANCEL (R299). Cancels the unstarted items of a queue. -/
  | cancel
  /-- DLOG (R308). Configures the dirty log of an instance. -/
  | dlog
  /-- HEADVEC (R299). Routes a head's events to an instance's vector. -/
  | headvec
  /-- FUNCTION_LEVEL_RESET (R299). A PCIe FLR of a VF or PF0 acts as RESET of the instance or of all instances. -/
  | functionLevelReset (fn : Nat)
  /-- ENCLAVE_CFG_WRITE (R310). A write of WLD_ENC_e_CFG enables, locks or refuses an enclave. -/
  | enclaveCfgWrite (ag : Agent) (e : Nat) (value : Word)
  /-- WLD_DBG_WRITE (R312). A write of the debug enables clears them at once or sets them at the next reset. -/
  | wldDbgWrite (ag : Agent) (value : Word)
  /-- HANDOVER_START (R314). A secure write of an owner field starts a hand-over of the block. -/
  | handoverStart (ag : Agent) (kind unit : Nat) (secure : Bool)
  /-- HANDOVER_DONE (R314). The hand-over's work ends, the block resets and the new owner takes it. -/
  | handoverDone (kind unit : Nat)
  /-- LOCK_ACQUIRE (R316). WLD_LOCK_k_CMD acquire from the manager or SSQ. -/
  | lockAcquire (ag : Agent) (k : Nat)
  /-- LOCK_RELEASE (R316). WLD_LOCK_k_CMD release. -/
  | lockRelease (ag : Agent) (k : Nat)
  /-- LOCK_FORCE_RELEASE (R317). WLD_LOCK_k_CMD force release marks a held cell abandoned. -/
  | lockForceRelease (ag : Agent) (k : Nat)
  /-- HOST_ATS_INVAL (R296). A host invalidation removes cached host-frame translations. -/
  | hostAtsInval (fn pasid page pages : Nat)
  /-- SEED_REGISTER_WRITE (R326). The seed store performs a queued register write into a slot pair and informs the writer. -/
  | seedRegisterWrite (how : WriteEnd)
  /-- RWP_WRITE (R329). A write to an RWP field is accepted or refused as a write of its backing seed register. -/
  | rwpWrite (ag : Agent) (addr : Nat) (value : Word)
  /-- POWER_FAIL_TRIP (R330). The power-fail detector trips, refusing new writes and completing queued ones on VHOLD. -/
  | powerFailTrip (pin : Bool) (chunks : Nat)
  /-- MRAM_PARK (R330). Queued writes and the hour-meter cell done, the MRAM is parked. -/
  | mramPark (sec t75 t90 : Nat)
  /-- PFAIL_RECOVER (R333). Supply above threshold for 10 ms without reset lets the seed store accept writes again. -/
  | pfailRecover
  /-- SCRUB_PASS (R337). Every 24 powered hours the seed store reads and repairs the whole MRAM. -/
  | scrubPass (corrected bad : List Nat)
  /-- RECORD_WRITE (R339). A record is written into its kind's oldest or invalid slot and committed by its header CRC. -/
  | recordWrite
  /-- SEED_REC_CMD (R340). A write of SEED_REC_CMD.go stores the head timing presets as a record. -/
  | seedRecCmd (ag : Agent)
  /-- HOUR_METER_WRITE (R341). After 60 s of powered time the next hour-meter cell is written. -/
  | hourMeterWrite (t75 t90 : Nat)
  /-- LOG_ROOM_REFILL (R342). The fault log regains four entries of room each second. -/
  | logRoomRefill
  /-- CFGCRC_COMMIT (R351). A write of FLT_CFGCRC_COMMIT.go makes the reference active and clears hold. -/
  | cfgcrcCommit (ag : Agent)
  /-- COMPOSITOR_WATCHDOG (R358). A compositor control mismatch resets it and resumes with G alone. -/
  | compositorWatchdog (c : Nat)
  /-- LOCKSTEP_MISMATCH (R360). An SSQ core mismatch stops both cores and reloads the image, or holds it halted at the third. -/
  | lockstepMismatch
  /-- BRIDGE_REPLAY (R361). A bridge flit failing CRC is replayed and a failing lane is spared. -/
  | bridgeReplay (up spared : Bool)
  /-- DIE_HEARTBEAT_LOST (R361). Eight missed heartbeats declare the other die lost; a fault of the carrier takes both (R14, R458). -/
  | dieHeartbeatLost (lost : DieLoss)
  /-- DOMAIN_UP_DONE (R368). A domain finishes powering up within its up time. -/
  | domainUpDone (k : Nat)
  /-- DOMAIN_DOWN_DONE (R368). A domain finishes powering down. -/
  | domainDownDone (k : Nat)
  /-- PWR_VOTE_WRITE (R369). A client writes its vote word. -/
  | pwrVoteWrite (ag : Agent) (c : Nat) (value : Word)
  /-- SUPPLY_LOST (R373). A wanted domain's supply is lost, its work fails and a POWER record is raised. -/
  | supplyLost (k sec t75 t90 : Nat)
  /-- DVFS_REQUEST (R374). A write of PWR_DVFS_n requests a shader clock point, granted at the next edge. -/
  | dvfsRequest (ag : Agent) (n : Nat) (mhz : Nat)
  /-- THERMAL_OVER (R374). Tj above the grade's range holds all channels at point 3 and raises THERMAL. -/
  | thermalOver
  /-- THERMAL_SHUTDOWN (R468). A sensor at 125 °C logs THERMAL, runs the power-fail sequence and holds reset. -/
  | thermalShutdown (sec t75 t90 : Nat)
  /-- STATE_REQUEST (R376). A write of PWR_STATE.req requests D-RUN, D-DIM or D-NAP at the next edge. -/
  | stateRequest (ag : Agent) (st : Nat)
  /-- STATE_ENTRY (R377). The entry sequence stops heads, cleans caches and drops domains. -/
  | stateEntry
  /-- WAKE_EVENT (R378). An enabled wake source latches a cause and starts the exit. -/
  | wakeEvent (src : Nat)
  /-- WAKE_EXIT (R379). Domains return and passes and admission resume, replaying latched events. -/
  | wakeExit
  /-- I3C0_WRITE (R381). A controller write to I3C_0 fills PWR_I3C0_IN and sets MAIL, or wakes the device. -/
  | i3c0Write (addr : Nat) (bs : List Byte)
  /-- I3C0_READ (R381). A controller read of I3C_0 returns PWR_I3C0_OUT. -/
  | i3c0Read (addr : Nat) (n : Nat)
  /-- I3C1_TRANSFER (R381). A write of PWR_I3C1_CMD.go runs one controller transfer. -/
  | i3c1Transfer (ag : Agent) (value : Word)
  /-- I3C1_TRANSFER_DONE (R381). The I3C_1 transfer ends and sets done and nack. -/
  | i3c1TransferDone (nack : Bool) (data : Word)
  /-- WFT_LINK_TRAIN (R385). An enabled Weft link trains with its peer and reports its latency. -/
  | wftLinkTrain (n : Nat) (latency : Nat) (right : Bool)
  /-- WFT_LANE_FAIL (R385). A failed lane makes the link retrain on two lanes or fail. -/
  | wftLaneFail (n : Nat) (pair : Bool)
  /-- FLIT_RECEIVE (R386). A flit arrives, is checked, acknowledged or nak'd and delivered or forwarded. -/
  | flitReceive (n : Nat) (bs : List Byte) (member : Bool)
  /-- WFT_LINK_FAIL (R388). Repeated replay failure or silence declares a link failed and floods LINK_DOWN. -/
  | wftLinkFail (n : Nat)
  /-- LINK_DOWN (R392). A LINK_DOWN flit updates the fault map and reroutes traffic. -/
  | linkDown (n : Nat) (i : Nat) (bad : Bool)
  /-- WFT_RETRAIN (R388). A write of retrain retrains a failed link and removes it from the maps. -/
  | wftRetrain (ag : Agent) (n : Nat)
  /-- NUMBERING (R390). A numbering CTRL flit gives a node its number and the wall's size. -/
  | numbering (n : Nat) (node : Nat) (sizeX : Nat) (sizeY : Nat)
  /-- BEAT_BLOCK (R394). A BEAT control block places the node's beat edge and is forwarded. -/
  | beatBlock (n : Nat) (number : Nat) (samples : Nat) (delay : Nat) (hops : Nat) (accum : Nat) (tick : Nat)
  /-- BEAT_BLOCK_MISSING (R397). No BEAT block by the predicted edge places the edge by prediction and counts missing. -/
  | beatBlockMissing
  /-- FRAME_TIMER (R399). Node 0's frame timer fires, incrementing the wall frame and sending a FRAME block. -/
  | frameTimer
  /-- FRAME_BLOCK (R399). A FRAME block gives each node its frame-lock reference. -/
  | frameBlock (n : Nat) (frame : Nat) (hops : Nat) (accum : Nat) (tick : Nat)
  /-- WAKE_BLOCK (R406). A WAKE block is forwarded and may wake the node. -/
  | wakeBlock (n : Nat)
  /-- WINDOW_ACCESS (R402). A host access through a BAR4 slice acts on a remote node as its manager. -/
  | windowAccess (o n : Nat) (data : Option (List Byte))
  /-- WINDOW_TIMEOUT (R402). A window access unanswered within 20 µs fails and sets win_err. -/
  | windowTimeout (tag : Nat)
  /-- EVENT (R403). An EVENT flit makes node 0 signal a remote instance's MSI-X vector. -/
  | event (n : Nat) (inst : Nat) (vec : Nat)
  /-- BCAST_GO (R404). A write of WFT_BC_CMD.go starts a scene broadcast. -/
  | bcastGo (ag : Agent)
  /-- BCAST_END (R404). The broadcast ends with acknowledgements or a failure status. -/
  | bcastEnd (acked : List Nat) (discarded : List Nat)
  /-- REGISTER_WRITE (R410). A write to a register without a row of its own, including holes and forbidden writes. -/
  | registerWrite (ag : Agent) (addr be : Nat) (values : List Word)
  /-- SET_ALIAS (R412). A write through the set alias ORs into RW, RWS and RWB fields. -/
  | setAlias (ag : Agent) (addr : Nat) (value : Word)
  /-- CLEAR_ALIAS (R412). A write through the clear alias clears bits of writable fields. -/
  | clearAlias (ag : Agent) (addr : Nat) (value : Word)
  /-- TOGGLE_ALIAS (R412). A write through the toggle alias XORs writable fields. -/
  | toggleAlias (ag : Agent) (addr : Nat) (value : Word)
  /-- POSTED_WRITE (R414). A posted block accepts a write and sets BUSY, or drops a host write while busy. -/
  | postedWrite (ag : Agent) (addr : Nat) (value : Word)
  /-- POSTED_WRITE_DONE (R414). The posted write takes effect and BUSY clears. -/
  | postedWriteDone (k : Nat)
  /-- GUARDED_WRITE (R417). A write to an RWG register opens a held sequence. -/
  | guardedWrite (ag : Agent) (value : Word) (twin : Option Word)
  /-- GUARD_TWIN_WRITE (R417). A complementary twin write commits the sequence, or aborts it. -/
  | guardTwinWrite (ag : Agent) (value : Word)
  /-- GUARD_TIMEOUT (R418). A guarded sequence without its twin within the window is discarded. -/
  | guardTimeout
  /-- HEAD_FRAME_READ (R186). A read of HEAD_n_FRAME_LO or FLIP_LO captures the high word. -/
  | headFrameRead (h : Nat) (flip : Bool)
  /-- LPW_ACCESS (R424). A host access through BAR4 reaches LP5X or reads all ones out of range. -/
  | lpwAccess (o n : Nat) (data : Option (List Byte))
  /-- UDC_WRITE (R430). A write to the UDC-4 map sets busy and lands within 1 µs, or is dropped with ovr. -/
  | udcWrite (a be : Nat) (value : Word)
  /-- UDC_WRITE_LAND (R430). A UDC-4 write lands, busy clears and the front end acts on the value. -/
  | udcWriteLand
  /-- UDC_UPDATE (R434). A write of UDC_Hh_CTL.update makes the draft commit the head's landed values. -/
  | udcUpdate (h : Nat)
  /-- UDC_RESET_ALL (R444). A committed UDC_RST.all resets the legacy partition. -/
  | udcResetAll
  /-- UDC_RESET_HEAD (R444). A committed UDC_RST.head bit stops a head and clears its planes and regions. -/
  | udcResetHead (h : Nat)
  /-- UDC_HEAD_OFF (R445). UDC_PWR.head_off stops or re-enables a legacy head. -/
  | udcHeadOff (off : Nat)
  /-- UDC_CLKDIV (R445). UDC_PWR.clkdiv requests a shader clock point for CH0 and CH1. -/
  | udcClkdiv (code : Nat)
  /-- UDC_STANDBY (R445). UDC_PWR.standby stops or resumes the legacy partition. -/
  | udcStandby (on : Bool)
  /-- UDC_BLIT_GO (R439). A write of UDC_BLT_CTL.go builds and submits a blit chain to CPY3. -/
  | udcBlitGo
  /-- UDC_BLIT_END (R439). The blit chain ends, clearing busy and raising the blit interrupt. -/
  | udcBlitEnd
  /-- UDC_MIX_APPLY (R440). A write of UDC_MIX_CTL.apply loads the legacy gains and swaps at the next edge. -/
  | udcMixApply
  /-- MIXED_SWAP_REQUEST (R440). A manager mail to CH0 in MIXED mode makes the draft issue a swap. -/
  | mixedSwapRequest (value : Word)
  /-- UDC_CHIME_GO (R441). A write of chime go writes its preset and starts the generator. -/
  | udcChimeGo (c : Nat)
  /-- UDC_CHIME_STOP (R441). A write of chime stop starts its release. -/
  | udcChimeStop (c : Nat)
  /-- UDC_TCH_FIFO_READ (R442). A read of UDC_TCH_p_FIFO returns and removes the oldest entry. -/
  | udcTchFifoRead (p : Nat)
  /-- UDC_VSYNC (R443). At line vactive + vfront a legacy head sets its vsync event and may assert INTA. -/
  | udcVsync (h : Nat)
  /-- REFCLK_LOST (R460). REFCLK leaves its monitor window or stops for 100 ns, raising CLOCK cause 0x02 outside the single-fault bound. -/
  | refclkLost
  /-- PLL_UNLOCK (R346). The monitor of an FCLK or SCLK PLL sees it lose lock and raises CLOCK cause 0x03 against the unit it clocks. -/
  | pllUnlock (sclk : Option Nat)
  /-- SUPPLY_RETURN (R373). A lost domain or core supply returns to range, so the domain can come up at the next edge or the brown-out reset hold ends. -/
  | supplyReturn (k : Nat)
  /-- VHAP_GOOD (R459). VHAP rises to 3.0 V or more, turning both low sides on, letting start-up calibration begin and letting sound play again. -/
  | vhapGood
  /-- THERMAL_RECOVER (R374). Tj returns 5 °C inside the grade's range and the channels leave shader clock point 3. -/
  | thermalRecover
  /-- THERMAL_RESTART (R468). Every sensor reads 10 °C below the grade maximum and the device starts as at power-up. -/
  | thermalRestart
  /-- SAVE_DONE (R306). The continuing SAVE call finishes writing the instance image, sets op_done with its result and signals vector 2. -/
  | saveDone (i : Nat)
  /-- RESTORE_DONE (R307). The continuing RESTORE call ends, having restored items and rebased deadlines, making the instance RUNNING or PARKED, or ending with INVALID or BUSY. -/
  | restoreDone (i : Nat)
  /-- PME_TURN_OFF_HANDSHAKE (R377). The host completes the PME_Turn_Off handshake and the PCIe link enters L2 during entry to D-NAP. -/
  | pmeTurnOffHandshake
  /-- PCIE_LINK_L0 (R379). After a wake from D-NAP the PCIe link reaches L0 and the D8 releases WAKE_N. -/
  | pcieLinkL0
  /-- PCIE_REPLAY_LIMIT (R346). The PCIe link reaches its replay limit and raises LINK cause 0x01. -/
  | pcieReplayLimit
  /-- CONFIGURATION_REQUEST (R476). A PCIe configuration request to PF0 is answered with Configuration Request Retry Status until phase SEED ends, and normally after that. -/
  | configurationRequest (fn : Nat) (op : ConfigOp)
  /-- DYNAMIC_ADDRESSING (R381). An ENTDAA or SETDASA command on the I3C_0 bus assigns the target its dynamic address. -/
  | dynamicAddressing (setdasa : Bool) (static : Nat) (addr : Nat)
  /-- DEBUG_PORT_ACCESS (R312). A command on the debug port reads counters or trace, or halts, steps or loads sequencers, as the debug enables in effect permit. -/
  | debugPortAccess (op : DebugOp)
  /-- JTAG_INSTRUCTION (R312). An IEEE 1149.1 instruction is loaded, with EXTEST and INTEST allowed only while RESET_N is low or both invasive enables are in effect. -/
  | jtagInstruction (op : JtagOp)
  deriving DecidableEq, Repr

end Sys2Proof
end

