-- ==== Sys2Proof/Decode.lean ====
section
/-!
DEFINITION. What a word of the opcode table spells.
-/

namespace Sys2Proof

/-- The command that a word spells by the opcode table's bits. The table gives none of its rows bits: the commands of this
block come from outside, each with its operands, and no word spells one. -/
def decodeTableWord (_nbits _w : Nat) : Option Instr := none

end Sys2Proof
end

