-- ==== Sys2Proof/Config.lean ====
section
/-!
DEFINITION. What the manual leaves free. Each opaque constant is a value that the manual does not state: nothing in Lean
can evaluate it, so whatever is proved holds for every value of it. Each is named in the assumption log.
-/

namespace Sys2Proof.Config

/-- A value that the manual leaves open, fresh at every draw: the device counts its draws (Device.draws). -/
opaque freeNat : Nat → Nat

/-- The 16-bit draw number `i` of a neighbour-refresh generator after a reseed with `seed` (R278). -/
opaque pnrDraw : Nat → Nat → BitVec 16

/-- The binary32 result of an approximate vector function, by the number of the function and its operand, where R145
gives only a bound. The model takes it when it keeps the bound. -/
opaque approx : Nat → BitVec 32 → BitVec 32

/-- A blend factor that the manual names and gives no source for: the constant colour and second-source factors of
VkBlendFactor, which R98 lists and for which STATE has no constant. By factor code. -/
opaque blendConst : Nat → BitVec 32

/-- Where sample `i` of `n` anisotropic samples lies along the major axis, as a binary32 fraction of the derivative vector
(R152 gives their number and order only). -/
opaque anisoPos : Nat → Nat → BitVec 32

/-- The gain, in units of 2^-15, at sample `i` of an attack (0) or of a release (1) of `n` samples of a generator: R252 gives
the length of each and not its shape. -/
opaque envelope : Nat → Nat → Nat → Nat

/-- The set of a channel's L2 in which the line of a number lies, modulo the 1,024 sets (R102). -/
opaque l2Set : Nat → Nat

/-- The set of a cluster's texture L1 in which the line of a number lies, modulo the 32 sets (R102). -/
opaque l1Set : Nat → Nat

/-- How many granules of 256 bytes a row of an LP5X channel holds (R262). -/
opaque rowGranules : Nat

/-- The bank and the row in which run `i` of a channel's granules lies (R262). -/
opaque rowPlace : Nat → Nat × Nat

/-- Byte `k` of what the raster engine writes into a bin pool or a save area for the content that the list gives: R106 and R109 say what a
block or a save area holds and not how it is laid out. -/
opaque poolByte : List Nat → Nat → BitVec 8

/-- Value number `n` that the manual leaves open and that is one for given operands: what a ray query (R117) or a texture coordinate (R152)
that is not finite gives. -/
opaque openOf : Nat → List Nat → Nat

end Sys2Proof.Config
end

