-- ==== Sys2Proof/Machine/Bits.lean ====
section
/-!
DEFINITION. Bit-field, sign-extension, byte-order and check-value helpers that every family uses. Field numbers follow R9:
`hi` and `lo` are the ends of NAME.field[hi:lo].
-/

namespace Sys2Proof.Machine

/-- Bits [hi:lo] of a number. -/
def bits (v hi lo : Nat) : Nat := (v >>> lo) % 2 ^ (hi + 1 - lo)

/-- Whether bit `i` of a number is one. -/
def bitOn (v i : Nat) : Bool := v.testBit i

/-- `v` with bits [hi:lo] replaced by the low bits of `x`. -/
def putBits (v hi lo x : Nat) : Nat :=
  v - (bits v hi lo <<< lo) + ((x % 2 ^ (hi + 1 - lo)) <<< lo)

/-- A number as a 32-bit word, modulo 2^32. -/
def w32 (n : Nat) : Word := BitVec.ofNat 32 n

/-- A number as a byte, modulo 256. -/
def b8 (n : Nat) : Byte := BitVec.ofNat 8 n

/-- Field [hi:lo] of a word. -/
def wbits (w : Word) (hi lo : Nat) : Nat := bits w.toNat hi lo

/-- A Bool as a number. -/
def b2n (b : Bool) : Nat := if b then 1 else 0

/-- The bits below bit 12 of `a` that are not in `b`. -/
def without (a b : Nat) : Nat := a &&& (b ^^^ (b ||| 0xFFF))

/-- The difference of two ring indices modulo `m` (R81). -/
def ringDiff (m a b : Nat) : Nat := (a % m + (m - b % m)) % m

/-- The `n`-bit two's complement number `v`, as an integer (sext of R51). -/
def sextNat (n v : Nat) : Int :=
  let u := v % 2 ^ n
  if u < 2 ^ (n - 1) then (u : Int) else (u : Int) - (2 ^ n : Nat)

/-- Integers as natural numbers, two each. -/
def intKey (xs : List Int) : List Nat := xs.flatMap (fun v => [v.toNat, (-v).toNat])

/-- An integer modulo 2^n, as a number. -/
def wrapInt (n : Nat) (x : Int) : Nat := (x % ((2 ^ n : Nat) : Int)).toNat

/-- The sum of a 32-bit word and a signed offset, modulo 2^32. -/
def addOff (w : Word) (x : Int) : Word := w32 (wrapInt 32 ((w.toNat : Int) + x))

/-- `v` limited to at most `m`. -/
def satAt (m v : Nat) : Nat := if v ≤ m then v else m

/-- An integer limited to the range `lo` to `hi`. -/
def clampInt (lo hi x : Int) : Int := if x < lo then lo else if x > hi then hi else x

/-- The `n` little-endian bytes of a number (R46). -/
def leBytes : Nat → Nat → List Byte
  | 0, _ => []
  | n + 1, v => b8 v :: leBytes n (v / 256)

/-- The number that little-endian bytes spell. -/
def leNat : List Byte → Nat
  | [] => 0
  | b :: bs => b.toNat + 256 * leNat bs

/-- The number that big-endian bytes spell. -/
def beNat (bs : List Byte) : Nat := bs.foldl (fun a b => a * 256 + b.toNat) 0

/-- The `n` big-endian bytes of a number. -/
def beBytes (n v : Nat) : List Byte := (leBytes n v).reverse

/-- `n` bytes of `bs` from offset `o`, read little-endian; bytes past the end read 0. -/
def leAt (bs : List Byte) (o n : Nat) : Nat := leNat ((bs.drop o).take n)

/-- The low `n` bits of `v` in reverse order. -/
def revBits : Nat → Nat → Nat
  | 0, _ => 0
  | n + 1, v => (v % 2) * 2 ^ n + revBits n (v / 2)

/-- One bit through a CRC register of `width` bits (the common parametric model of R286). -/
def crcBit (width poly reg : Nat) (b : Bool) : Nat :=
  let r := (reg * 2) % 2 ^ width
  if (reg.testBit (width - 1)) != b then r ^^^ poly else r

/-- One byte through a CRC register; `refin` takes the byte from its least significant bit. -/
def crcByte (width poly : Nat) (refin : Bool) (reg : Nat) (b : Byte) : Nat :=
  let v := if refin then b.toNat else revBits 8 b.toNat
  (List.range 8).foldl (fun r i => crcBit width poly r (v.testBit i)) reg

/-- The check value after the last byte: reflection under `refout`, then the final XOR. -/
def crcEnd (width : Nat) (refout : Bool) (xorout reg : Nat) : Nat :=
  ((if refout then revBits width reg else reg) ^^^ xorout) % 2 ^ width

/-- A CRC by the parametric model of R286 over a list of bytes. -/
def crcOf (width poly init : Nat) (refin refout : Bool) (xorout : Nat) (bs : List Byte) : Nat :=
  crcEnd width refout xorout (bs.foldl (crcByte width poly refin) (init % 2 ^ width))

/-- CRC-32C, as the worked example after R289 gives its parameters. -/
def crc32c (bs : List Byte) : Nat := crcOf 32 0x1EDC6F41 0xFFFFFFFF true true 0xFFFFFFFF bs

/-- CRC-16/CCITT-FALSE of R437. -/
def crc16ccitt (bs : List Byte) : Nat := crcOf 16 0x1021 0xFFFF false false 0 bs

/-- The bit mask of the positions in `l`. -/
def maskOf (l : List Nat) : Nat := l.foldl (fun a i => a ||| 2 ^ i) 0

/-- The bit positions below `n` that are one in `v`, ascending. -/
def onesBelow (n v : Nat) : List Nat := (List.range n).filter (v.testBit ·)

/-- Element `i` of a list, replaced by the result of `f` when it exists. -/
def modAt {α : Type} (l : List α) (i : Nat) (f : α → α) : List α :=
  match l, i with
  | [], _ => []
  | a :: as, 0 => f a :: as
  | a :: as, k + 1 => a :: modAt as k f

end Sys2Proof.Machine
end

