-- ==== Sys2Proof/Machine/Float.lean ====
section
/-!
DEFINITION. IEEE 754 arithmetic of the raster engine (R142 to R145, R123, R116): binary32 and binary16 by exact dyadic
numbers and one rounding, in any of four directions; conversions; and the approximate functions with their bounds.
-/

namespace Sys2Proof.Machine

open Sys2Proof

/-- A binary floating-point format: exponent bits and stored significand bits. -/
structure Fmt where
  eb : Nat
  mb : Nat
  deriving DecidableEq, Repr

/-- binary32. -/
def f32 : Fmt := ⟨8, 23⟩

/-- binary16. -/
def f16 : Fmt := ⟨5, 10⟩

/-- The exponent of the lowest normal binade. -/
def Fmt.emin (f : Fmt) : Int := 2 - (2 ^ (f.eb - 1) : Nat)

/-- The pattern of positive infinity. -/
def Fmt.inf (f : Fmt) : Nat := (2 ^ f.eb - 1) * 2 ^ f.mb

/-- The quiet NaN that every NaN result is (R142, R143). -/
def Fmt.nan (f : Fmt) : Nat := f.inf + 2 ^ (f.mb - 1)

/-- The sign bit of a pattern. -/
def Fmt.signBit (f : Fmt) : Nat := 2 ^ (f.eb + f.mb)

/-- What a pattern stands for: a NaN, an infinity, or (−1)^s × m × 2^e. -/
inductive Fp where
  | nan
  | inf (s : Bool)
  | fin (s : Bool) (m : Nat) (e : Int)
  deriving DecidableEq, Repr

/-- A pattern decoded. -/
def Fmt.decode (f : Fmt) (n : Nat) : Fp :=
  let s := bitOn n (f.eb + f.mb)
  let m := n % 2 ^ f.mb
  let x := n / 2 ^ f.mb % 2 ^ f.eb
  if x = 2 ^ f.eb - 1 then (if m = 0 then .inf s else .nan)
  else if x = 0 then .fin s m (f.emin - f.mb)
  else .fin s (m + 2 ^ f.mb) (f.emin - f.mb + (x - 1 : Nat))

/-- The rounding directions that the manual uses. -/
inductive Rnd where
  | near
  | down
  | up
  | zero
  deriving DecidableEq, Repr

/-- Whether a magnitude rounds away from zero: `s` the sign, `odd` the last kept bit, `r` against `h` the discarded part
against half a unit, `st` whether more is discarded below. -/
def roundsUp (d : Rnd) (s odd : Bool) (r h : Nat) (st : Bool) : Bool :=
  match d with
  | .near => decide (h < r) || (r == h && (st || odd))
  | .down => s && (r != 0 || st)
  | .up => !s && (r != 0 || st)
  | .zero => false

/-- The result of an overflow. -/
def Fmt.overflow (f : Fmt) (d : Rnd) (s : Bool) : Nat :=
  let big := f.inf - 1
  match d with
  | .near => f.inf
  | .down => if s then f.inf else big
  | .up => if s then big else f.inf
  | .zero => big

/-- (−1)^s × (m + δ) × 2^e rounded to a pattern, with 0 < δ < 1 when `st` holds and δ = 0 otherwise. With `st`, `m` has
more bits than the format keeps. -/
def Fmt.round (f : Fmt) (d : Rnd) (s : Bool) (m : Nat) (e : Int) (st : Bool) : Nat :=
  let sg := if s then f.signBit else 0
  if m = 0 && !st then sg
  else
    let q := max ((m.log2 : Int) + e - f.mb) (f.emin - f.mb)
    let k := q - e
    let mant :=
      if k ≤ 0 then m * 2 ^ (-k).toNat
      else
        let k := k.toNat
        let a := m >>> k
        -- a shift far past the number keeps only that something is discarded
        let r := m % 2 ^ k
        if roundsUp d s (a % 2 == 1) r (2 ^ (k - 1)) st then a + 1 else a
    let pat := (q - (f.emin - f.mb)).toNat * 2 ^ f.mb + mant
    sg + (if f.inf ≤ pat then f.overflow d s else pat)

/-- A rational magnitude num / den × 2^e rounded to a pattern. -/
def Fmt.roundQ (f : Fmt) (d : Rnd) (s : Bool) (num den : Nat) (e : Int) : Nat :=
  let k := den.log2 + f.mb + 4
  let a := num * 2 ^ k
  f.round d s (a / den) (e - k) (a % den != 0)

/-- An integer times 2^e rounded; a zero takes the sign `zs`. -/
def Fmt.roundInt (f : Fmt) (d : Rnd) (x : Int) (e : Int) (zs : Bool) : Nat :=
  if x = 0 then (if zs then f.signBit else 0) else f.round d (decide (x < 0)) x.natAbs e false

/-! ### Arithmetic -/

/-- A signed significand. -/
def sgn (s : Bool) (m : Nat) : Int := if s then -(m : Int) else m

/-- a + b. -/
def Fmt.addR (f : Fmt) (d : Rnd) (a b : Nat) : Nat :=
  match f.decode a, f.decode b with
  | .nan, _ => f.nan
  | _, .nan => f.nan
  | .inf s, .inf t => if s = t then (if s then f.signBit + f.inf else f.inf) else f.nan
  | .inf s, _ => if s then f.signBit + f.inf else f.inf
  | _, .inf t => if t then f.signBit + f.inf else f.inf
  | .fin s m e, .fin t n g =>
    let l := min e g
    let x := sgn s m * 2 ^ (e - l).toNat + sgn t n * 2 ^ (g - l).toNat
    f.roundInt d x l (if s = t then s else d == .down)

/-- −a. -/
def Fmt.negate (f : Fmt) (a : Nat) : Nat := a ^^^ f.signBit

/-- a × b + c, rounded once. -/
def Fmt.fmaR (f : Fmt) (d : Rnd) (a b c : Nat) : Nat :=
  match f.decode a, f.decode b, f.decode c with
  | .nan, _, _ => f.nan
  | _, .nan, _ => f.nan
  | _, _, .nan => f.nan
  | .inf s, .fin _ 0 _, _ => if s then f.nan else f.nan
  | .fin _ 0 _, .inf _, _ => f.nan
  | .inf s, .inf t, z => infPlus f (s != t) z
  | .inf s, .fin t _ _, z => infPlus f (s != t) z
  | .fin s _ _, .inf t, z => infPlus f (s != t) z
  | .fin _ _ _, .fin _ _ _, .inf u => if u then f.signBit + f.inf else f.inf
  | .fin s m e, .fin t n g, .fin u o h =>
    let ps := s != t
    let l := min (e + g) h
    let x := sgn ps (m * n) * 2 ^ (e + g - l).toNat + sgn u o * 2 ^ (h - l).toNat
    f.roundInt d x l (if ps = u then ps else d == .down)
where
  /-- An infinite product plus a third operand. -/
  infPlus (f : Fmt) (s : Bool) (z : Fp) : Nat :=
    match z with
    | .nan => f.nan
    | .inf u => if s = u then (if s then f.signBit + f.inf else f.inf) else f.nan
    | .fin _ _ _ => if s then f.signBit + f.inf else f.inf

/-- a × b. -/
def Fmt.mulR (f : Fmt) (d : Rnd) (a b : Nat) : Nat :=
  match f.decode a, f.decode b with
  | .nan, _ => f.nan
  | _, .nan => f.nan
  | .inf _, .fin _ 0 _ => f.nan
  | .fin _ 0 _, .inf _ => f.nan
  | .inf s, .inf t => if s = t then f.inf else f.signBit + f.inf
  | .inf s, .fin t _ _ => if s = t then f.inf else f.signBit + f.inf
  | .fin s _ _, .inf t => if s = t then f.inf else f.signBit + f.inf
  | .fin s m e, .fin t n g => f.round d (s != t) (m * n) (e + g) false

/-- a / b. -/
def Fmt.divR (f : Fmt) (d : Rnd) (a b : Nat) : Nat :=
  match f.decode a, f.decode b with
  | .nan, _ => f.nan
  | _, .nan => f.nan
  | .inf _, .inf _ => f.nan
  | .inf s, .fin t _ _ => if s = t then f.inf else f.signBit + f.inf
  | .fin s _ _, .inf t => if s = t then 0 else f.signBit
  | .fin _ 0 _, .fin _ 0 _ => f.nan
  | .fin s _ _, .fin t 0 _ => if s = t then f.inf else f.signBit + f.inf
  | .fin s m e, .fin t n g => f.roundQ d (s != t) m n (e - g)

/-- The integer square root, bit by bit from bit `k` down. -/
def isqrtFrom (n : Nat) : Nat → Nat → Nat
  | 0, r => r
  | k + 1, r => isqrtFrom n k (if (r + 2 ^ k) * (r + 2 ^ k) ≤ n then r + 2 ^ k else r)

/-- The integer square root. -/
def isqrt (n : Nat) : Nat := isqrtFrom n (n.log2 / 2 + 1) 0

/-- √a, correctly rounded. -/
def Fmt.sqrtR (f : Fmt) (a : Nat) : Nat :=
  match f.decode a with
  | .nan => f.nan
  | .inf s => if s then f.nan else f.inf
  | .fin s m e =>
    if m = 0 then a
    else if s then f.nan
    else
      let odd := e % 2 == 1
      let m := if odd then 2 * m else m
      let e := if odd then e - 1 else e
      let k := f.mb + 4
      let r := isqrt (m * 2 ^ (2 * k))
      f.round .near false r (e / 2 - k) (r * r != m * 2 ^ (2 * k))

/-! ### Comparison -/

/-- Whether a pattern is a NaN. -/
def Fmt.isNan (f : Fmt) (a : Nat) : Bool := f.decode a == .nan

/-- A key that orders the patterns that are not NaN, with −0 below +0. -/
def Fmt.key (f : Fmt) (a : Nat) : Int :=
  if bitOn a (f.eb + f.mb) then -((a % f.signBit : Nat) : Int) - 1 else ((a % f.signBit : Nat) : Int)

/-- A key in which −0 and +0 are equal. -/
def Fmt.numKey (f : Fmt) (a : Nat) : Int :=
  if bitOn a (f.eb + f.mb) then -((a % f.signBit : Nat) : Int) else ((a % f.signBit : Nat) : Int)

/-- a < b, false when unordered. -/
def Fmt.lt (f : Fmt) (a b : Nat) : Bool := !f.isNan a && !f.isNan b && decide (f.numKey a < f.numKey b)

/-- a ≤ b, false when unordered. -/
def Fmt.le (f : Fmt) (a b : Nat) : Bool := !f.isNan a && !f.isNan b && decide (f.numKey a ≤ f.numKey b)

/-- a = b, false when unordered. -/
def Fmt.eq (f : Fmt) (a b : Nat) : Bool := !f.isNan a && !f.isNan b && decide (f.numKey a = f.numKey b)

/-- `FMIN` (R142): the other operand when one is a NaN. -/
def Fmt.minR (f : Fmt) (a b : Nat) : Nat :=
  if f.isNan a then (if f.isNan b then f.nan else b)
  else if f.isNan b then a
  else if f.key a ≤ f.key b then a else b

/-- `FMAX` (R142). -/
def Fmt.maxR (f : Fmt) (a b : Nat) : Nat :=
  if f.isNan a then (if f.isNan b then f.nan else b)
  else if f.isNan b then a
  else if f.key a ≤ f.key b then b else a

/-- The result clamped to [0.0, 1.0], a NaN as +0.0 (R138). -/
def Fmt.sat (f : Fmt) (a : Nat) : Nat :=
  let one := (2 ^ (f.eb - 1) - 1) * 2 ^ f.mb
  if f.isNan a || bitOn a (f.eb + f.mb) then 0 else if one < a then one else a

/-! ### Integers -/

/-- The integer nearest to a finite number in a direction. -/
def toIntR (d : Rnd) (s : Bool) (m : Nat) (e : Int) : Int :=
  if 0 ≤ e then sgn s (m * 2 ^ e.toNat)
  else
    let k := (-e).toNat
    let a := m >>> k
    let r := m % 2 ^ k
    sgn s (if roundsUp d s (a % 2 == 1) r (2 ^ (k - 1)) false then a + 1 else a)

/-- Rounded to an integral value, keeping the sign of a zero result. -/
def Fmt.integral (f : Fmt) (d : Rnd) (a : Nat) : Nat :=
  match f.decode a with
  | .nan => f.nan
  | .inf _ => a
  | .fin s m e => if 0 ≤ e then a else f.roundInt .near (toIntR d s m e) 0 s

/-- A number converted to an integer with saturation at `lo` and `hi`, rounding toward zero (R144). -/
def Fmt.toInt (f : Fmt) (lo hi : Int) (a : Nat) : Int :=
  match f.decode a with
  | .nan => 0
  | .inf s => if s then lo else hi
  | .fin s m e => clampInt lo hi (toIntR .zero s m e)

/-- A pattern of one format converted to another. -/
def Fmt.conv (f g : Fmt) (a : Nat) : Nat :=
  match f.decode a with
  | .nan => g.nan
  | .inf s => if s then g.signBit + g.inf else g.inf
  | .fin s m e => g.round .near s m e false

/-! ### Approximate functions -/

/-- A real number held as a fixed-point integer with 96 fraction bits. -/
def fixBits : Nat := 96

/-- A finite number in fixed point. -/
def fixOf (s : Bool) (m : Nat) (e : Int) : Int :=
  let k := e + fixBits
  sgn s (if 0 ≤ k then m * 2 ^ k.toNat else m >>> (-k).toNat)

/-- 2^(2^−k) for k = 1 to n in fixed point, by repeated square roots. -/
def rootsOfTwo : Nat → Nat → List Nat
  | 0, _ => []
  | n + 1, x => let r := isqrt (x * 2 ^ fixBits); r :: rootsOfTwo n r

/-- 2^y in fixed point for a fixed-point fraction y in [0, 1). -/
def exp2Frac (y : Nat) : Nat :=
  ((rootsOfTwo fixBits (2 ^ (fixBits + 1))).zipIdx).foldl
    (fun a p => if y.testBit (fixBits - 1 - p.2) then a * p.1 / 2 ^ fixBits else a) (2 ^ fixBits)

/-- log2 of a fixed-point number in [1, 2), bit by bit. -/
def log2Frac : Nat → Nat → Nat → Nat
  | 0, _, r => r
  | n + 1, x, r =>
    let y := x * x / 2 ^ fixBits
    if 2 ^ (fixBits + 1) ≤ y then log2Frac n (y / 2) (2 * r + 1) else log2Frac n y (2 * r)

/-- π in fixed point. -/
def piFix : Int := 248902613312231085230521944622

/-- The terms of the series of sine or cosine in fixed point: `t` the last term, `k` its power. -/
def trigSeries : Nat → Int → Int → Int → Int → Int
  | 0, _, _, _, acc => acc
  | n + 1, x2, t, k, acc =>
    let t' := -(t * x2 / (2 ^ fixBits : Nat)) / ((k + 1) * (k + 2))
    trigSeries n x2 t' (k + 2) (acc + t')

/-- sin 2πr or cos 2πr in fixed point for a fixed-point r in [−1/2, 1/2]. -/
def trigFix (cosine : Bool) (r : Int) : Int :=
  let x := 2 * piFix * r / (2 ^ fixBits : Nat)
  let x2 := x * x / (2 ^ fixBits : Nat)
  if cosine then trigSeries 30 x2 (2 ^ fixBits : Nat) 0 (2 ^ fixBits : Nat) else trigSeries 30 x2 x 1 x

/-- A free binary32 value `c` where it lies within `bound` of the exact value `v`, all in fixed point; else the rounded
exact value. -/
def within (c : Word) (v bound : Int) : Word :=
  match f32.decode c.toNat with
  | .fin s m e =>
    if (fixOf s m e - v).natAbs ≤ bound.natAbs then c else w32 (f32.roundInt .near v (-(fixBits : Int)) false)
  | _ => w32 (f32.roundInt .near v (-(fixBits : Int)) false)

/-- One unit in the last place of the binade of a rational num / den × 2^e. -/
def ulpExp (num den : Nat) (e : Int) : Int :=
  let l : Int := ((num * 2 ^ (den.log2 + 2) / den).log2 : Int) - (den.log2 + 2 : Nat)
  max (l + e - 23) (-149)

/-- Whether a binary32 value lies within `k` ULP of num / den × 2^e. -/
def withinUlps (c : Word) (s : Bool) (k num den : Nat) (e : Int) : Bool :=
  match f32.decode c.toNat with
  | .fin t m g =>
    let u := ulpExp num den e
    let l := min (min g e) u
    let x := sgn t m * (2 ^ (g - l).toNat * den : Nat) - sgn s (num * 2 ^ (e - l).toNat)
    decide (x.natAbs ≤ k * 2 ^ (u - l).toNat * den)
  | _ => false

/-- `FRCP` (R145): within 1 ULP of 1 / a. -/
def fRcp (a : Word) : Word :=
  match f32.decode a.toNat with
  | .nan => w32 f32.nan
  | .inf s => if s then 0x80000000#32 else 0#32
  | .fin s m e =>
    if m = 0 then (if s then 0xFF800000#32 else 0x7F800000#32)
    else
      let c := Config.approx 0 a
      if withinUlps c s 1 1 m (-e) then c else w32 (f32.roundQ .near s 1 m (-e))

/-- `FRSQ` (R145): within 2 ULP of 1 / √a. -/
def fRsq (a : Word) : Word :=
  match f32.decode a.toNat with
  | .nan => w32 f32.nan
  | .inf s => if s then w32 f32.nan else 0#32
  | .fin s m e =>
    if m = 0 then (if s then 0xFF800000#32 else 0x7F800000#32)
    else if s then w32 f32.nan
    else
      let odd := e % 2 == 1
      let m := if odd then 2 * m else m
      let e := if odd then e - 1 else e
      -- 1 / √m with 120 fraction bits, times 2^(−e/2)
      let r := isqrt (2 ^ 240 / m)
      let c := Config.approx 1 a
      if withinUlps c false 2 r 1 (-(e / 2) - 120) then c else w32 (f32.round .near false r (-(e / 2) - 120) true)

/-- `FEXP2` (R145): within 2 ULP of 2^a, exact for an integer a. -/
def fExp2 (a : Word) : Word :=
  match f32.decode a.toNat with
  | .nan => w32 f32.nan
  | .inf s => if s then 0#32 else 0x7F800000#32
  | .fin s m e =>
    let n := toIntR .down s m e
    if 2 ^ 20 ≤ n.natAbs then (if s then 0#32 else 0x7F800000#32)
    else
      let y := min (fixOf s m e - n * (2 ^ fixBits : Nat)).toNat (2 ^ fixBits - 1)
      let r := exp2Frac y
      if y = 0 then w32 (f32.round .near false 1 n false)
      else
        let c := Config.approx 2 a
        if withinUlps c false 2 r 1 (n - fixBits) then c else w32 (f32.round .near false r (n - fixBits) true)

/-- log2 of a positive m × 2^e in fixed point. -/
def log2Fix (m : Nat) (e : Int) : Int :=
  let l := m.log2
  ((l : Int) + e) * (2 ^ fixBits : Nat) + log2Frac fixBits (m * 2 ^ fixBits / 2 ^ l) 0

/-- `FLOG2` (R145): within 2^−22 of log2 a for a in 0.5 to 2.0, within 2 ULP elsewhere. -/
def fLog2 (a : Word) : Word :=
  match f32.decode a.toNat with
  | .nan => w32 f32.nan
  | .inf s => if s then w32 f32.nan else 0x7F800000#32
  | .fin s m e =>
    if m = 0 then 0xFF800000#32
    else if s then w32 f32.nan
    else
      let v := log2Fix m e
      let c := Config.approx 3 a
      if 0x3F000000 ≤ a.toNat && a.toNat ≤ 0x40000000 then within c v (2 ^ (fixBits - 22) : Nat)
      else if withinUlps c (decide (v < 0)) 2 v.natAbs 1 (-(fixBits : Int)) then c
      else w32 (f32.roundInt .near v (-(fixBits : Int)) false)

/-- `FSINR` and `FCOSR` (R145): within 2^−20 of sin 2πa or cos 2πa, the argument reduced exactly. -/
def fTrig (cosine : Bool) (a : Word) : Word :=
  match f32.decode a.toNat with
  | .nan => w32 f32.nan
  | .inf _ => w32 f32.nan
  | .fin s m e =>
    let r := if 0 ≤ e then 0 else fixOf s m e - toIntR .near s m e * (2 ^ fixBits : Nat)
    within (Config.approx (if cosine then 5 else 4) a) (trigFix cosine r) (2 ^ (fixBits - 20) : Nat)

end Sys2Proof.Machine
end

