-- ==== Sys2Proof/Machine/Regs.lean ====
section
/-!
DEFINITION. The register map of R408: one row per register (or array of registers) of the register tables
of the manual, with its base offset, its index strides and counts, its reset value and, per access code of R10,
the mask of its bits; then the offset of every register as a function of its indices, and every field as a
`Fld`. Offsets from 0x8000_0000 up stand for the UDC-4 map of R430, which is a map of its own.
-/

namespace Sys2Proof.Machine

/-- One register, or one array of registers, of the map. `dims` lists the stride and the count of each index, widest
stride first. The masks follow the access codes of R10; `w1cWhole` holds the multi-bit counts that any written one clears
whole. Bits in no mask are RO or RSV. -/
structure RegRow where
  base : Nat
  dims : List (Nat × Nat)
  reset : Nat
  rw : Nat
  rws : Nat
  rwb : Nat
  rwp : Nat
  rwg : Nat
  wo : Nat
  w1c : Nat
  w1cWhole : List Nat
  deriving DecidableEq, Repr

/-- A field of a register: NAME.field[hi:lo] of R9. -/
structure Fld where
  addr : Nat
  hi : Nat
  lo : Nat
  deriving DecidableEq, Repr

def regRows0_0 : List RegRow := [
  ⟨0, [], 0xD0080101, 0, 0, 0, 0, 0, 0, 0, []⟩, -- GLB_ID
  ⟨4, [], 0, 0, 0, 0, 0, 0, 0, 0, []⟩, -- GLB_BUSY
  ⟨8, [], 0, 0, 0, 0, 0, 0, 0, 0, []⟩, -- GLB_MODE
  ⟨0xC, [], 0, 0, 0, 0, 0, 0, 0, 0x3F, []⟩, -- GLB_STATUS
  ⟨0x10, [], 0, 0, 0, 0, 0, 0, 0, 0, [0xFFFF0000]⟩, -- GLB_POSTERR
  ⟨0x20, [], 0, 0, 0, 0, 0, 0x8000000F, 0, 0, []⟩, -- GLB_RST
  ⟨0x24, [], 0xFFFFFFFF, 0, 0, 0, 0, 0, 0, 0, []⟩, -- GLB_RST_G
  ⟨0x30, [], 0, 0x3F, 0, 0, 0, 0, 0, 0, []⟩, -- GLB_LPW_BASE
  ⟨0x8000, [], 0, 0, 0, 0xC0000003, 0, 0, 0, 0, []⟩, -- GLB_INTPIN
  ⟨0x40, [], 0, 0, 0, 0, 0, 0, 0, 0, []⟩, -- GLB_BOOT
  ⟨0x44, [], 0, 0xFFFFF000, 0, 0, 0, 0, 0, 0, []⟩, -- GLB_BOOT_IMG_LO
  ⟨0x48, [], 0, 0xFFFFFFFF, 0, 0, 0, 0, 0, 0, []⟩, -- GLB_BOOT_IMG_HI
  ⟨0x4C, [], 0, 0, 0, 0, 0, 0, 0x80000000, 0, []⟩] -- GLB_BOOT_CMD

def regRows0 : List RegRow := regRows0_0

def regRows1_0 : List RegRow := [
  ⟨0x100000, [], 0, 0, 3, 0, 0, 0, 0, 0, []⟩, -- BEAT_CTL
  ⟨0x100008, [], 0x30, 0, 0xFF, 0, 0, 0, 0, 0, []⟩, -- BEAT_PERIOD
  ⟨0x10000C, [], 0, 0, 0, 0, 0, 0, 0, 0x46, []⟩, -- BEAT_STATUS
  ⟨0x100010, [], 0, 0, 0, 0, 0, 0, 0, 0, []⟩, -- BEAT_NOW_LO
  ⟨0x100014, [], 0, 0, 0, 0, 0, 0, 0, 0, []⟩, -- BEAT_NOW_HI
  ⟨0x100018, [], 0xC3500, 0, 0, 0, 0, 0, 0, 0, []⟩, -- BEAT_LAST_TICKS
  ⟨0x10001C, [], 0xBB800, 0, 0, 0, 0, 0, 0, 0, []⟩, -- BEAT_FALLOW
  ⟨0x100020, [], 0xC3500, 0, 0, 0, 0, 0, 0, 0, []⟩, -- BEAT_PRED
  ⟨0x100100, [(0x10, 8)], 0xFFFFFFFF, 0, 0, 0, 0, 0, 0, 0, []⟩, -- BEAT_HEAD_LATCH
  ⟨0x100104, [(0x10, 8)], 0xFFFFFFFF, 0, 0, 0, 0, 0, 0, 0, []⟩, -- BEAT_HEAD_CUTOFF
  ⟨0x100108, [(0x10, 8)], 0, 0, 3, 0, 0, 0, 0, 0, []⟩, -- BEAT_HEAD_LATEPOL
  ⟨0x100200, [(0x10, 4)], 0, 0, 0, 0, 0, 0, 0, 0, [0xFF000000, 0xFFFFFF]⟩, -- BEAT_CH_PICKSTAT
  ⟨0x100300, [(0x10, 5)], 0x13880, 0, 0x33FFFFF, 0, 0, 0, 0, 0, []⟩, -- BEAT_SQ_BUDGET
  ⟨0x100304, [(0x10, 5)], 0, 0, 0, 0, 0, 0, 0, 0, []⟩, -- BEAT_SQ_LAST
  ⟨0x100308, [(0x10, 5)], 0, 0, 0, 0, 0, 0, 0, 0, [0xFFFF0000, 0xFFFF]⟩] -- BEAT_SQ_OVR

def regRows1 : List RegRow := regRows1_0

def regRows2_0 : List RegRow := [
  ⟨0x200004, [], 0, 0, 0, 0, 0, 0, 0, 0, []⟩, -- PWR_BUSY
  ⟨0x200000, [], 0, 0, 0, 0, 0, 0, 3, 0, []⟩, -- PWR_STATE
  ⟨0x200008, [], 0x80020000, 0, 0, 0x803FFFFF, 0, 0, 0, 0, []⟩, -- PWR_WAKE_EN
  ⟨0x20000C, [], 0, 0, 0, 0, 0, 0, 0, 0x803FFFFF, []⟩, -- PWR_WAKE
  ⟨0x200010, [], 0x7FC, 0, 0, 0x7FC, 0, 0, 0, 0, []⟩, -- PWR_VOTE
  ⟨0x200014, [(4, 7)], 0, 0, 0, 0x7FC, 0, 0, 0, 0, []⟩, -- PWR_VOTE
  ⟨0x200040, [(4, 11)], 0, 0, 0, 0, 0, 0, 0, 0x80000000, []⟩, -- PWR_DOM
  ⟨0x200080, [(4, 4)], 0x640, 0, 0, 0xFFFFFFF, 0, 0, 0, 0, []⟩, -- PWR_DVFS
  ⟨0x200100, [], 0, 0, 0, 0x8000007F, 0, 0, 0, 0, []⟩, -- PWR_I3C0_CFG
  ⟨0x200104, [], 0, 0, 0, 0, 0, 0, 0, 0, []⟩, -- PWR_I3C0_IN
  ⟨0x200108, [], 0, 0, 0, 0xFFFFFFFF, 0, 0, 0, 0, []⟩, -- PWR_I3C0_OUT
  ⟨0x200110, [], 0, 0, 0, 0x1F7F, 0, 0, 0x80000000, 0, []⟩, -- PWR_I3C1_CMD
  ⟨0x200114, [], 0, 0, 0, 0xFFFFFFFF, 0, 0, 0, 0, []⟩] -- PWR_I3C1_DATA

def regRows2 : List RegRow := regRows2_0

def regRows3_0 : List RegRow := [
  ⟨0x300000, [], 0, 0xFFFFFFFF, 0, 0, 0, 0, 0, 0, []⟩, -- FLT_CFGCRC_REF
  ⟨0x300004, [], 0, 0, 0, 0, 0, 0, 1, 0, []⟩, -- FLT_CFGCRC_COMMIT
  ⟨0x300008, [], 0, 0, 0, 0, 0, 0, 0, 0, []⟩, -- FLT_CFGCRC_CUR
  ⟨0x30000C, [], 0x80000000, 0xC0000000, 0, 0, 0, 0, 0, 0, []⟩, -- FLT_CFGCRC_CTL
  ⟨0x300010, [], 0x4321, 0xFFFFFFFF, 0, 0, 0, 0, 0, 0, []⟩, -- FLT_CFGCRC_MASK
  ⟨0x300014, [], 0, 0, 0, 0, 0, 0, 0, 0, [0xFFFF]⟩, -- FLT_CFGCRC_STAT
  ⟨0x300020, [], 0x7FFFC, 0x7FFFE, 0, 0, 0, 0, 0, 0, []⟩, -- FLT_LOG_MASK
  ⟨0x300030, [], 0, 0, 0, 0, 0, 0, 0, 0, []⟩, -- FLT_SSQ
  ⟨0x300034, [], 0, 0, 0, 0, 0, 0, 0, 0, []⟩, -- FLT_BRIDGE
  ⟨0x300100, [(0x10, 33)], 0, 0xFFFFF000, 0, 0, 0, 0, 0, 0, []⟩, -- FLT_RING_LO
  ⟨0x300104, [(0x10, 33)], 0, 0xFFFFFFFF, 0, 0, 0, 0, 0, 0, []⟩, -- FLT_RING_HI
  ⟨0x300108, [(0x10, 33)], 6, 0x8000001F, 0, 0, 0, 0, 0, 0, []⟩, -- FLT_RING_CFG
  ⟨0x30010C, [(0x10, 33)], 0, 0, 0, 0, 0, 0, 0, 0, [0xFFFF0000]⟩, -- FLT_RING_PROD
  ⟨0x300404, [(4, 18)], 0, 0, 0, 0, 0, 0, 0, 0, [0xFFFFFFFF]⟩] -- FLT_COUNT

def regRows3 : List RegRow := regRows3_0

def regRows4_0 : List RegRow := [
  ⟨0x400004, [], 0, 0, 0, 0, 0, 0, 0, 0, []⟩, -- SEED_BUSY
  ⟨0x400008, [], 0, 0, 0, 0, 0, 0, 0, 0x38000000, []⟩, -- SEED_STATUS
  ⟨0x40000C, [], 0, 0, 0, 0, 0, 0, 0, 0, []⟩, -- SEED_SPARE
  ⟨0x400010, [], 0, 0, 0, 0, 0, 0, 0, 0, []⟩, -- SEED_LASTRES_0
  ⟨0x400014, [], 0, 0, 0, 0, 0, 0, 0, 0, []⟩, -- SEED_LASTRES_1
  ⟨0x400020, [(4, 3)], 0, 0, 0, 0, 0, 0, 0, 0, []⟩, -- SEED_HOUR
  ⟨0x400030, [], 0, 0, 0, 0, 0, 0, 0, 0, [0xFFFF0000]⟩, -- SEED_LOG
  ⟨0x400034, [], 0, 0, 0, 0, 0, 0, 0, 0, [0xFFFF0000, 0xFFFF]⟩, -- SEED_SCRUB
  ⟨0x400040, [], 0, 0, 0, 0xFFFFFFC0, 0, 0, 0, 0, []⟩, -- SEED_REC_SRC_LO
  ⟨0x400044, [], 0, 0, 0, 0xFFFFFFFF, 0, 0, 0, 0, []⟩, -- SEED_REC_SRC_HI
  ⟨0x400048, [], 0, 0, 0, 0, 0, 0, 0x80000000, 0, []⟩, -- SEED_REC_CMD
  ⟨0x400050, [], 0, 0, 0, 0x3F, 0, 0, 0, 0, []⟩] -- SEED_WIN

def regRows4 : List RegRow := regRows4_0

def regRows5_0 : List RegRow := [
  ⟨0x500000, [], 0, 0, 0, 0, 0, 0, 0, 0xC0000000, []⟩, -- WLD_STATUS
  ⟨0x500004, [], 0, 0, 0, 0, 0, 0, 0, 0, []⟩, -- WLD_HO_STAT
  ⟨0x500010, [], 0, 0, 0, 0, 0xF, 0, 0, 0, []⟩, -- WLD_DBG
  ⟨0x500100, [(0x10, 16)], 0, 0xFFE00000, 0, 0, 0, 0, 0, 0, []⟩, -- WLD_ENC_LO
  ⟨0x500104, [(0x10, 16)], 0, 0xFFFFFFFF, 0, 0, 0, 0, 0, 0, []⟩, -- WLD_ENC_HI
  ⟨0x500108, [(0x10, 16)], 0, 0xC000FFFF, 0, 0, 0, 0, 0, 0, []⟩, -- WLD_ENC_CFG
  ⟨0x500400, [(4, 2)], 0, 0xFFFFFFFF, 0, 0, 0, 0, 0, 0, []⟩, -- WLD_LOCK_WORLD
  ⟨0x501000, [(8, 64)], 0, 0, 0, 0, 0, 0, 0, 0, []⟩, -- WLD_LOCK_STAT
  ⟨0x501004, [(8, 64)], 0, 0, 0, 0, 0, 0, 3, 0, []⟩] -- WLD_LOCK_CMD

def regRows5 : List RegRow := regRows5_0

def regRows6_0 : List RegRow := [
  ⟨0x610000, [(0x1000, 32), (0x20, 16)], 0, 0xFFFFF000, 0, 0, 0, 0, 0, 0, []⟩, -- INST_Q_BASE_LO
  ⟨0x610004, [(0x1000, 32), (0x20, 16)], 0, 0xFFFFFFFF, 0, 0, 0, 0, 0, 0, []⟩, -- INST_Q_BASE_HI
  ⟨0x610008, [(0x1000, 32), (0x20, 16)], 6, 0x8000001F, 0, 0, 0, 0, 0, 0, []⟩, -- INST_Q_CFG
  ⟨0x61000C, [(0x1000, 32), (0x20, 16)], 0, 0, 0, 0, 0, 0, 0x1FFFF, 0, []⟩, -- INST_Q_DOORBELL
  ⟨0x610010, [(0x1000, 32), (0x20, 16)], 0, 0, 0, 0, 0, 0, 0, 0, []⟩, -- INST_Q_CONS
  ⟨0x610014, [(0x1000, 32), (0x20, 16)], 0, 0, 0, 0, 0, 0, 0, 3, []⟩, -- INST_Q_STATUS
  ⟨0x610400, [(0x1000, 32)], 0, 0xFFFFF000, 0, 0, 0, 0, 0, 0, []⟩, -- INST_HRV_BASE_LO
  ⟨0x610404, [(0x1000, 32)], 0, 0xFFFFFFFF, 0, 0, 0, 0, 0, 0, []⟩, -- INST_HRV_BASE_HI
  ⟨0x610408, [(0x1000, 32)], 6, 0x8000001F, 0, 0, 0, 0, 0, 0, []⟩, -- INST_HRV_CFG
  ⟨0x61040C, [(0x1000, 32)], 0, 0x1FFFF, 0, 0, 0, 0, 0, 0, []⟩, -- INST_HRV_CONS
  ⟨0x610410, [(0x1000, 32)], 0, 0, 0, 0, 0, 0, 0, 0, []⟩, -- INST_HRV_PROD
  ⟨0x610414, [(0x1000, 32)], 1, 0x80FFFFFF, 0, 0, 0, 0, 0, 0, []⟩, -- INST_HRV_IRQ
  ⟨0x610418, [(0x1000, 32)], 0, 0, 0, 0, 0, 0, 0, 7, []⟩, -- INST_HRV_STATUS
  ⟨0x600000, [(4, 6)], 0, 0xFFFFFFFF, 0, 0, 0, 0, 0, 0, []⟩, -- INST_MED_ARG
  ⟨0x600018, [], 0, 0, 0, 0, 0, 0, 0x800000FF, 0, []⟩, -- INST_MED_CALL
  ⟨0x60001C, [], 0, 0, 0, 0, 0, 0, 0, 0, []⟩, -- INST_MED_STAT
  ⟨0x601000, [(0x40, 32)], 0, 0, 0, 0, 0, 0, 0, 0x10000, []⟩, -- INST_STATE
  ⟨0x601004, [(0x40, 32)], 0, 0, 0, 0, 0, 0, 0, 0, []⟩, -- INST_SHARE
  ⟨0x601008, [(0x40, 32)], 0, 0, 0, 0, 0, 0, 0, 0, []⟩, -- INST_RATE
  ⟨0x60100C, [(0x40, 32)], 0, 0, 0, 0, 0, 0, 0, 0, []⟩, -- INST_QUOTA
  ⟨0x601010, [(0x40, 32), (4, 4)], 0, 0, 0, 0, 0, 0, 0, 0, []⟩, -- INST_CREDIT
  ⟨0x601020, [(0x40, 32)], 0, 0, 0, 0, 0, 0, 0, 0, []⟩, -- INST_REBASE_LO
  ⟨0x601024, [(0x40, 32)], 0, 0, 0, 0, 0, 0, 0, 0, []⟩, -- INST_REBASE_HI
  ⟨0x601028, [(0x40, 32)], 0, 0, 0, 0, 0, 0, 0, 0x40000000, []⟩] -- INST_DLOG

def regRows6 : List RegRow := regRows6_0

def regRows7_0 : List RegRow := [
  ⟨0x700000, [], 0, 0, 1, 0, 0, 0, 0, 0, []⟩] -- HIF_CTL

def regRows7 : List RegRow := regRows7_0

def regRows8_0 : List RegRow := [
  ⟨0x800000, [], 0xC0000008, 0xC00000FF, 0, 0, 0, 0, 0, 0, []⟩, -- MEM_CFG
  ⟨0x800004, [], 0x40, 0xFFFF, 0, 0, 0, 0, 0, 0, []⟩, -- MEM_PNR
  ⟨0x800008, [], 0, 0, 0, 0, 0, 0, 0, 0, []⟩, -- MEM_PNR_CNT
  ⟨0x80000C, [], 0x1B, 0x3F, 0, 0, 0, 0, 0, 0, []⟩, -- MEM_SCAN
  ⟨0x800100, [], 0x190, 0xFFFF, 0, 0, 0, 0, 0, 0, []⟩, -- MEM_QOS
  ⟨0x800104, [], 0x190, 0xFFFF, 0, 0, 0, 0, 0, 0, []⟩, -- MEM_QOS
  ⟨0x800108, [], 0x190, 0xFFFF, 0, 0, 0, 0, 0, 0, []⟩, -- MEM_QOS
  ⟨0x80010C, [], 0x190, 0xFFFF, 0, 0, 0, 0, 0, 0, []⟩, -- MEM_QOS
  ⟨0x800110, [], 0x7D0, 0xFFFF, 0, 0, 0, 0, 0, 0, []⟩, -- MEM_QOS
  ⟨0x800114, [], 0x7D0, 0xFFFF, 0, 0, 0, 0, 0, 0, []⟩, -- MEM_QOS
  ⟨0x800118, [], 0x7D0, 0xFFFF, 0, 0, 0, 0, 0, 0, []⟩, -- MEM_QOS
  ⟨0x80011C, [], 0x7D0, 0xFFFF, 0, 0, 0, 0, 0, 0, []⟩, -- MEM_QOS
  ⟨0x800120, [], 0x640, 0xFFFF, 0, 0, 0, 0, 0, 0, []⟩, -- MEM_QOS
  ⟨0x800124, [], 0x4B0, 0xFFFF, 0, 0, 0, 0, 0, 0, []⟩, -- MEM_QOS
  ⟨0x800128, [], 0xFA0, 0xFFFF, 0, 0, 0, 0, 0, 0, []⟩, -- MEM_QOS
  ⟨0x80012C, [], 0x320, 0xFFFF, 0, 0, 0, 0, 0, 0, []⟩, -- MEM_QOS
  ⟨0x800180, [(4, 12)], 0, 0, 0, 0, 0, 0, 0, 0, [0xFFFF]⟩, -- MEM_LAT
  ⟨0x800200, [], 0, 0, 0, 0, 0x8000, 0, 0, 0x4000, []⟩, -- MEM_TRAIN
  ⟨0x800204, [], 0, 0, 0, 0, 0, 0, 0, 0, []⟩] -- MEM_TRAIN_FULL

def regRows8 : List RegRow := regRows8_0

def regRows9_0 : List RegRow := [
  ⟨0x900100, [(4, 12)], 0xFFFF, 0x3FFFF, 0, 0, 0, 0, 0, 0, []⟩, -- SC_CLASS_CFG
  ⟨0x900200, [(8, 16)], 0, 0, 0, 0, 0, 0, 0, 0, []⟩, -- SC_BANK_HIT
  ⟨0x900204, [(8, 16)], 0, 0, 0, 0, 0, 0, 0, 0, []⟩] -- SC_BANK_MISS

def regRows9 : List RegRow := regRows9_0

def regRows10_0 : List RegRow := [
  ⟨0xA00000, [(0x10, 4)], 0, 0, 0, 0, 0, 0, 0, 0, []⟩, -- CPY_STAT
  ⟨0xA00004, [(0x10, 4)], 0, 0, 0, 0, 0, 0, 0, 0, []⟩, -- CPY_CHAIN_LO
  ⟨0xA00008, [(0x10, 4)], 0, 0, 0, 0, 0, 0, 0, 0, []⟩] -- CPY_CHAIN_HI

def regRows10 : List RegRow := regRows10_0

def regRows11_0 : List RegRow := [
  ⟨0xB00000, [], 0x80000000, 0, 0, 0x80000000, 0, 0, 0, 0, []⟩, -- AUD_CTL
  ⟨0xB00008, [], 0, 0, 0, 0, 0, 0, 0, 0xD, []⟩, -- AUD_STATUS
  ⟨0xB0000C, [], 0, 0, 0, 0, 0, 0, 0, 0, []⟩, -- AUD_SWAP_TGT
  ⟨0xB00004, [], 0, 0, 0, 0, 0, 0, 0, 0, []⟩, -- AUD_BUSY
  ⟨0xB00010, [], 0, 0, 0, 0x1FFF, 0, 0, 0x80000000, 0, []⟩, -- AUD_SWAP_REQ
  ⟨0xB00014, [], 0, 0, 0, 0xFFFFFFFF, 0, 0, 0, 0, []⟩, -- AUD_SWAP_BEAT
  ⟨0xB00018, [], 0, 0, 0, 0, 0, 0, 0, 0, []⟩, -- AUD_SWAP_RES
  ⟨0xB0001C, [], 0, 0, 0, 0, 0, 0, 1, 0, []⟩, -- AUD_COPY
  ⟨0xB00020, [], 0, 0, 0, 1, 0, 0, 0x80000000, 0, []⟩, -- AUD_STORE
  ⟨0xB00100, [(4, 32)], 0, 0, 0, 0, 0xFFFEFFFF, 0, 0, 0, []⟩, -- AUD_GUARD
  ⟨0xB00200, [(0x10, 6)], 0, 0, 0, 0xF8000000, 0, 0, 0, 0, []⟩, -- AUD_TDM_CFG
  ⟨0xB00204, [(0x10, 6)], 0, 0, 0, 0, 0, 0, 0, 0x40000000, [0xFFFF]⟩, -- AUD_TDM_STAT
  ⟨0xB00400, [(0x20, 16)], 0, 0, 0, 0xFFFFF000, 0, 0, 0, 0, []⟩, -- AUD_MS_LO
  ⟨0xB00404, [(0x20, 16)], 0, 0, 0, 0xFFFFFFFF, 0, 0, 0, 0, []⟩, -- AUD_MS_HI
  ⟨0xB00408, [(0x20, 16)], 0xA, 0, 0, 0x80001F3F, 0, 0, 0, 0, []⟩, -- AUD_MS_CFG
  ⟨0xB0040C, [(0x20, 16)], 0, 0, 0, 0xFFFF0000, 0, 0, 0, 0, []⟩, -- AUD_MS_IDX
  ⟨0xB00410, [(0x20, 16)], 0, 0, 0, 0, 0, 0, 0, 0x80000000, [0xFFFF]⟩, -- AUD_MS_STAT
  ⟨0xB00414, [(0x20, 16)], 0, 0, 0, 0x1FFFFF, 0, 0, 0, 0, []⟩, -- AUD_MS_OWN
  ⟨0xB00418, [(0x20, 16)], 0, 0, 0, 0, 0, 0, 0, 0, []⟩, -- AUD_MS_DEV
  ⟨0xB00600, [(0x20, 16)], 0, 0, 0, 0xFFFFF000, 0, 0, 0, 0, []⟩, -- AUD_MC_LO
  ⟨0xB00604, [(0x20, 16)], 0, 0, 0, 0xFFFFFFFF, 0, 0, 0, 0, []⟩, -- AUD_MC_HI
  ⟨0xB00608, [(0x20, 16)], 0xA, 0, 0, 0x80001F3F, 0, 0, 0, 0, []⟩, -- AUD_MC_CFG
  ⟨0xB0060C, [(0x20, 16)], 0, 0, 0, 0xFFFF0000, 0, 0, 0, 0, []⟩, -- AUD_MC_IDX
  ⟨0xB00610, [(0x20, 16)], 0, 0, 0, 0, 0, 0, 0, 0x80000000, [0xFFFF]⟩, -- AUD_MC_STAT
  ⟨0xB00614, [(0x20, 16)], 0, 0, 0, 0x1FFFFF, 0, 0, 0, 0, []⟩, -- AUD_MC_OWN
  ⟨0xB00618, [(0x20, 16)], 0, 0, 0, 0, 0, 0, 0, 0, []⟩, -- AUD_MC_DEV
  ⟨0xB00800, [(0x10, 8)], 0, 0, 0, 0x80000000, 0, 0, 0, 0, []⟩, -- AUD_GEN_CFG
  ⟨0xB01000, [(4, 128)], 0, 0, 0, 0, 0, 0, 0, 0, [0xFFFF]⟩, -- AUD_SINK_STAT
  ⟨0xB08000, [(4, 2048)], 0, 0, 0, 0xFFFFFFFF, 0, 0, 0, 0, []⟩, -- AUD_PRESET
  ⟨0xB10000, [(0x10000, 2), (4, 16384)], 0, 0, 0, 0xFFFFFFFF, 0, 0, 0, 0, []⟩] -- AUD_NODE

def regRows11_1 : List RegRow := [
  ⟨0xB30000, [(0x4000, 2), (4, 4096)], 0, 0, 0, 0xFFFFFFFF, 0, 0, 0, 0, []⟩] -- AUD_SINKBLK

def regRows11 : List RegRow := regRows11_0 ++ regRows11_1

def regRows12_0 : List RegRow := [
  ⟨0xC00004, [], 0, 0, 0, 0, 0, 0, 0, 0, []⟩, -- TCH_BUSY
  ⟨0xC00008, [], 0xE10, 0, 0, 0xFFFF, 0, 0, 0, 0, []⟩, -- TCH_HOLD_LIMIT
  ⟨0xC00100, [(0x40, 4)], 1, 0, 0, 0xF8000003, 0, 0, 0, 0, []⟩, -- TCH_CFG
  ⟨0xC00104, [(0x40, 4)], 0x118, 0, 0, 0x17F, 0, 0, 0, 0, []⟩, -- TCH_SCAN
  ⟨0xC00108, [(0x40, 4)], 0x967D4B64, 0, 0, 0xFFFFFFFF, 0, 0, 0, 0, []⟩, -- TCH_FREQ
  ⟨0xC0010C, [(0x40, 4)], 0x1900320, 0, 0, 0xFFFFFFFF, 0, 0, 0, 0, []⟩, -- TCH_THRESH
  ⟨0xC00110, [(0x40, 4)], 0x1001, 0, 0, 0xFFFFFF, 0, 0, 0, 0, []⟩, -- TCH_DRIFT
  ⟨0xC00114, [(0x40, 4)], 0x1000000, 0, 0, 0xFFFFFFFF, 0, 0, 0, 0, []⟩, -- TCH_MAP_X
  ⟨0xC00118, [(0x40, 4)], 0x1000000, 0, 0, 0xFFFFFFFF, 0, 0, 0, 0, []⟩, -- TCH_MAP_Y
  ⟨0xC0011C, [(0x40, 4)], 0x4000000, 0, 0, 0xFF00FFF0, 0, 0, 0, 0, []⟩, -- TCH_RPT
  ⟨0xC00120, [(0x40, 4)], 1, 0, 0, 0xFF, 0, 0, 0x80000000, 0, []⟩, -- TCH_STORE
  ⟨0xC00124, [(0x40, 4)], 0, 0, 0, 0, 0, 0, 0, 0x7800, []⟩, -- TCH_STATUS
  ⟨0xC00400, [(0x10, 8)], 0x140040, 0, 0, 0xFCFFFFFF, 0, 0, 0, 0, []⟩, -- RO_CFG
  ⟨0xC00404, [(0x10, 8)], 0x321388, 0, 0, 0xFFFFFFFF, 0, 0, 0, 0, []⟩, -- RO_TIME
  ⟨0xC00408, [(0x10, 8)], 0, 0, 0, 0x870001FF, 0, 0, 0, 0, []⟩, -- RO_FX
  ⟨0xC0040C, [(0x10, 8)], 0, 0, 0, 0, 0, 0, 0, 0x40000000, [0x3FFF0000]⟩] -- RO_STAT

def regRows12 : List RegRow := regRows12_0

def regRows13_0 : List RegRow := [
  ⟨0xD00004, [], 0, 0, 0, 0, 0, 0, 0, 0, []⟩, -- HAP_BUSY
  ⟨0xD00100, [(0x40, 8)], 0x80, 0, 0, 0xC00000FF, 0, 0, 0, 0, []⟩, -- HAP_CFG
  ⟨0xD00104, [(0x40, 8)], 0x78C803E8, 0, 0, 0xFFFFFFFF, 0, 0, 0, 0, []⟩, -- HAP_LIMIT
  ⟨0xD00108, [(0x40, 8)], 0x281E2800, 0, 0, 0xFFFFFFFF, 0, 0, 0, 0, []⟩, -- HAP_THERM
  ⟨0xD0010C, [(0x40, 8)], 0, 0, 0, 0, 0, 0, 0, 0, []⟩, -- HAP_RES
  ⟨0xD00110, [(0x40, 8)], 0, 0, 0, 0, 0, 0, 0, 0, []⟩, -- HAP_RES2
  ⟨0xD00114, [(0x40, 8)], 0, 0, 0, 0, 0, 0, 0, 0x4000000, [0xFFFF00]⟩, -- HAP_STATUS
  ⟨0xD00118, [(0x40, 8)], 0, 0, 0, 0, 0, 0, 1, 0, []⟩, -- HAP_CAL
  ⟨0xD00400, [(0x10, 8)], 0, 0, 0, 0xFF0001FF, 0, 0, 0, 0, []⟩, -- HAP_TRIG_CFG
  ⟨0xD00404, [(0x10, 8)], 0x321388, 0, 0, 0xFFFFFFFF, 0, 0, 0, 0, []⟩, -- HAP_TRIG_TIME
  ⟨0xD00408, [(0x10, 8)], 0, 0, 0, 0, 0, 0, 0, 0x40000000, [0xFFFF]⟩, -- HAP_TRIG_STAT
  ⟨0xD10000, [(4, 16384)], 0, 0, 0, 0xFFFFFFFF, 0, 0, 0, 0, []⟩] -- HAP_EFFECT_RAM

def regRows13 : List RegRow := regRows13_0

def regRows14_0 : List RegRow := [
  ⟨0xE00000, [], 0, 0x80000707, 0, 0, 0, 0, 0, 0, []⟩, -- WFT_MESH
  ⟨0xE00004, [], 0, 0, 0, 0, 0, 0, 0, 0x40000000, []⟩, -- WFT_STATUS
  ⟨0xE00010, [(4, 4)], 0, 0, 0, 0, 0, 0, 0, 0, []⟩, -- WFT_FMAP
  ⟨0xE00100, [(0x10, 4)], 0x40000000, 0xC0000000, 0, 0, 0, 0, 0x20000000, 0, []⟩, -- WFT_LINK_CTL
  ⟨0xE00104, [(0x10, 4)], 0, 0, 0, 0, 0, 0, 0, 0x10000000, [0x3FFF]⟩, -- WFT_LINK_STAT
  ⟨0xE00200, [], 0xBB8, 0x3FFF, 0, 0, 0, 0, 0, 0, []⟩, -- WFT_BEAT_CFG
  ⟨0xE00204, [], 0, 0, 0, 0, 0, 0, 0, 0x10000000, []⟩, -- WFT_BEAT_STAT
  ⟨0xE00208, [], 0, 0, 0, 0, 0, 0, 0, 0, [0xFFFF0000, 0xFFFF]⟩, -- WFT_BEAT_SLIP
  ⟨0xE00300, [], 0, 0x80000000, 0, 0, 0, 0, 0, 0, []⟩, -- WFT_FLOCK_CFG
  ⟨0xE00304, [], 0x32DCD555, 0xFFFFFFFF, 0, 0, 0, 0, 0, 0, []⟩, -- WFT_FLOCK_PERIOD
  ⟨0xE00308, [], 0, 0, 0, 0, 0, 0, 0, 0, []⟩, -- WFT_FLOCK_FRAME
  ⟨0xE00320, [(4, 8)], 0, 0, 0, 0, 0, 0, 0, 0, []⟩, -- WFT_HEAD_WALL
  ⟨0xE00400, [(0x10, 16)], 0, 0xE03F0000, 0, 0, 0, 0, 0, 0, []⟩, -- WFT_WIN_CFG
  ⟨0xE00404, [(0x10, 16)], 0, 0xFC000000, 0, 0, 0, 0, 0, 0, []⟩, -- WFT_WIN_BASE_LO
  ⟨0xE00408, [(0x10, 16)], 0, 0xFFFFFFFF, 0, 0, 0, 0, 0, 0, []⟩, -- WFT_WIN_BASE_HI
  ⟨0xE00500, [], 0, 0xFFFFFFC0, 0, 0, 0, 0, 0, 0, []⟩, -- WFT_BC_SRC_LO
  ⟨0xE00504, [], 0, 0xFFFFFFFF, 0, 0, 0, 0, 0, 0, []⟩, -- WFT_BC_SRC_HI
  ⟨0xE00508, [], 0, 0xFFFFFFC0, 0, 0, 0, 0, 0, 0, []⟩, -- WFT_BC_DST_LO
  ⟨0xE0050C, [], 0, 0xFFFFFFFF, 0, 0, 0, 0, 0, 0, []⟩, -- WFT_BC_DST_HI
  ⟨0xE00510, [], 0, 0xFFFFFFFF, 0, 0, 0, 0, 0, 0, []⟩, -- WFT_BC_LEN
  ⟨0xE00514, [], 0, 0xFFFFFFFF, 0, 0, 0, 0, 0, 0, []⟩, -- WFT_BC_MASK_LO
  ⟨0xE00518, [], 0, 0xFFFFFFFF, 0, 0, 0, 0, 0, 0, []⟩, -- WFT_BC_MASK_HI
  ⟨0xE0051C, [], 0, 0x1F0000, 0, 0, 0, 0, 0x80000000, 0, []⟩, -- WFT_BC_CMD
  ⟨0xE00520, [], 0, 0, 0, 0, 0, 0, 0, 0, []⟩, -- WFT_BC_FAIL_LO
  ⟨0xE00524, [], 0, 0, 0, 0, 0, 0, 0, 0, []⟩] -- WFT_BC_FAIL_HI

def regRows14 : List RegRow := regRows14_0

def regRows16_0 : List RegRow := [
  ⟨0x1000000, [(0x400000, 5)], 0, 1, 0, 0, 0, 0, 2, 0, []⟩, -- CSQ_CTL
  ⟨0x1000004, [(0x400000, 5)], 0, 0, 0, 0, 0, 0, 0, 0, []⟩, -- CSQ_STATUS
  ⟨0x1000008, [(0x400000, 5)], 0, 0, 0, 0, 0, 0, 0, 0, []⟩, -- CSQ_TRAP_PC
  ⟨0x100000C, [(0x400000, 5)], 0, 0, 0, 0, 0, 0, 0, 0, []⟩, -- CSQ_TRAP_VAL
  ⟨0x1000010, [(0x400000, 5)], 0, 0xFFFFF000, 0, 0, 0, 0, 0, 0, []⟩, -- CSQ_IMG_LO
  ⟨0x1000014, [(0x400000, 5)], 0, 0xFFFFFFFF, 0, 0, 0, 0, 0, 0, []⟩, -- CSQ_IMG_HI
  ⟨0x1000018, [(0x400000, 5)], 0, 0, 0, 0, 0, 0, 1, 0, []⟩, -- CSQ_LOAD
  ⟨0x100001C, [(0x400000, 5)], 0, 0xFFFFFFFF, 0, 0, 0, 0, 0, 0, []⟩, -- CSQ_MAIL
  ⟨0x1000020, [(0x400000, 4)], 0, 0x7FC, 0, 0, 0, 0, 0, 0, []⟩] -- CSQ_VOTE

def regRows16 : List RegRow := regRows16_0

def regRows17_0 : List RegRow := [
  ⟨0x1100000, [(0x400000, 4)], 1, 1, 0, 0, 0, 0, 0, 0, []⟩, -- RAS_CTL
  ⟨0x1100004, [(0x400000, 4)], 0, 0, 0, 0, 0, 0, 0, 4, []⟩, -- RAS_STATUS
  ⟨0x1100010, [(0x400000, 4)], 0, 0xFFFF0000, 0, 0, 0, 0, 0, 0, []⟩, -- RAS_SLOT_LO
  ⟨0x1100014, [(0x400000, 4)], 0, 0xFFFFFFFF, 0, 0, 0, 0, 0, 0, []⟩, -- RAS_SLOT_HI
  ⟨0x1100018, [(0x400000, 4)], 0x10, 0x3FFF, 0, 0, 0, 0, 0, 0, []⟩, -- RAS_SLOT_CFG
  ⟨0x110001C, [(0x400000, 4)], 0, 0, 0, 0, 0, 0, 0, 0, []⟩, -- RAS_SLOT_FREE
  ⟨0x1100020, [(0x400000, 4)], 0, 0xFFFF0000, 0, 0, 0, 0, 0, 0, []⟩, -- RAS_CTXPOOL_LO
  ⟨0x1100024, [(0x400000, 4)], 0, 0xFFFFFFFF, 0, 0, 0, 0, 0, 0, []⟩, -- RAS_CTXPOOL_HI
  ⟨0x1100028, [(0x400000, 4)], 9, 0xFF, 0, 0, 0, 0, 0, 0, []⟩, -- RAS_CTXPOOL_SIZE
  ⟨0x110002C, [(0x400000, 4)], 0x27100, 0x3FFFFF, 0, 0, 0, 0, 0, 0, []⟩, -- RAS_CTX_LIMIT
  ⟨0x1100030, [(0x400000, 4)], 0, 0xFFFF0000, 0, 0, 0, 0, 0, 0, []⟩, -- RAS_PIN_LO
  ⟨0x1100034, [(0x400000, 4)], 0, 0xFFFFFFFF, 0, 0, 0, 0, 0, 0, []⟩, -- RAS_PIN_HI
  ⟨0x1100038, [(0x400000, 4)], 0, 0x1F0F, 0, 0, 0, 0, 0, 0, []⟩, -- RAS_PIN_SIZE
  ⟨0x1100040, [(0x400000, 4)], 0x20000400, 0xFFFFFFFF, 0, 0, 0, 0, 0, 0, []⟩, -- RAS_TRAV_LIMIT
  ⟨0x1100044, [(0x400000, 4)], 0, 0, 0, 0, 0, 0, 0, 0, [0xFFFF0000, 0xFFFF]⟩, -- RAS_TRAV_STAT
  ⟨0x1100050, [(0x400000, 4)], 0, 0, 0, 0, 0, 0, 0, 0, []⟩, -- RAS_CMD_ERR_POS
  ⟨0x1100054, [(0x400000, 4)], 0, 0, 0, 0, 0, 0, 0, 0x80000000, []⟩, -- RAS_CMD_ERR_SRC
  ⟨0x1100058, [(0x400000, 4)], 0, 0, 0, 0, 0, 0, 0, 0, []⟩, -- RAS_OVF_TOTAL
  ⟨0x1100100, [(0x400000, 4), (0x40, 2)], 0x20FFF00, 0xFFFFFF8F, 0, 0, 0, 0, 0, 0, []⟩, -- RAS_RPJ_CFG
  ⟨0x1100104, [(0x400000, 4), (0x40, 2)], 0, 0xFFFFFFC0, 0, 0, 0, 0, 0, 0, []⟩, -- RAS_RPJ_VIEW_LO
  ⟨0x1100108, [(0x400000, 4), (0x40, 2)], 0, 0xFFFFFFFF, 0, 0, 0, 0, 0, 0, []⟩, -- RAS_RPJ_VIEW_HI
  ⟨0x110010C, [(0x400000, 4), (0x40, 2)], 0, 0xFFFFF000, 0, 0, 0, 0, 0, 0, []⟩, -- RAS_RPJ_TGT0_LO
  ⟨0x1100110, [(0x400000, 4), (0x40, 2)], 0, 0xFFFFFFFF, 0, 0, 0, 0, 0, 0, []⟩, -- RAS_RPJ_TGT0_HI
  ⟨0x1100114, [(0x400000, 4), (0x40, 2)], 0, 0xFFFFF000, 0, 0, 0, 0, 0, 0, []⟩, -- RAS_RPJ_TGT1_LO
  ⟨0x1100118, [(0x400000, 4), (0x40, 2)], 0, 0xFFFFFFFF, 0, 0, 0, 0, 0, 0, []⟩, -- RAS_RPJ_TGT1_HI
  ⟨0x110011C, [(0x400000, 4), (0x40, 2)], 0, 0xFFFFF000, 0, 0, 0, 0, 0, 0, []⟩, -- RAS_RPJ_DEPTH_LO
  ⟨0x1100120, [(0x400000, 4), (0x40, 2)], 0, 0xFFFFFFFF, 0, 0, 0, 0, 0, 0, []⟩, -- RAS_RPJ_DEPTH_HI
  ⟨0x1100124, [(0x400000, 4), (0x40, 2)], 0, 0xFFFFFFFF, 0, 0, 0, 0, 0, 0, []⟩, -- RAS_RPJ_FILL
  ⟨0x1100128, [(0x400000, 4), (0x40, 2)], 0x3F800004, 0xFFFFFFFF, 0, 0, 0, 0, 0, 0, []⟩, -- RAS_RPJ_AGE
  ⟨0x110012C, [(0x400000, 4), (0x40, 2)], 0, 0, 0, 0, 0, 0, 0, 0x80000000, [0x7F000000, 0xFF0000, 0xFF00, 0xFF]⟩] -- RAS_RPJ_STAT

def regRows17 : List RegRow := regRows17_0

def regRows18_0 : List RegRow := [
  ⟨0x1201000, [(0x400000, 4), (0x1000, 2), (0x20, 17)], 0xFFF00000, 0, 0xFFF00FF1, 0, 0, 0, 0, 0, []⟩, -- CMP_LAYER_CTL
  ⟨0x1201800, [(0x400000, 4), (0x1000, 2), (0x20, 17)], 0xFFF00000, 0, 0, 0, 0, 0, 0, 0, []⟩, -- CMP_ACTIVE_CTL
  ⟨0x1201004, [(0x400000, 4), (0x1000, 2), (0x20, 17)], 0, 0, 0x3FFF3FFF, 0, 0, 0, 0, 0, []⟩, -- CMP_LAYER_POS
  ⟨0x1201804, [(0x400000, 4), (0x1000, 2), (0x20, 17)], 0, 0, 0, 0, 0, 0, 0, 0, []⟩, -- CMP_ACTIVE_POS
  ⟨0x1201008, [(0x400000, 4), (0x1000, 2), (0x20, 17)], 0, 0, 0x3FFF3FFF, 0, 0, 0, 0, 0, []⟩, -- CMP_LAYER_SIZE
  ⟨0x1201808, [(0x400000, 4), (0x1000, 2), (0x20, 17)], 0, 0, 0, 0, 0, 0, 0, 0, []⟩, -- CMP_ACTIVE_SIZE
  ⟨0x120100C, [(0x400000, 4), (0x1000, 2), (0x20, 17)], 0, 0, 0x3FFF3FFF, 0, 0, 0, 0, 0, []⟩, -- CMP_LAYER_SRC
  ⟨0x120180C, [(0x400000, 4), (0x1000, 2), (0x20, 17)], 0, 0, 0, 0, 0, 0, 0, 0, []⟩, -- CMP_ACTIVE_SRC
  ⟨0x1201010, [(0x400000, 4), (0x1000, 2), (0x20, 17)], 0, 0, 0xFFFFFFC0, 0, 0, 0, 0, 0, []⟩, -- CMP_LAYER_ADDR_LO
  ⟨0x1201810, [(0x400000, 4), (0x1000, 2), (0x20, 17)], 0, 0, 0, 0, 0, 0, 0, 0, []⟩, -- CMP_ACTIVE_ADDR_LO
  ⟨0x1201014, [(0x400000, 4), (0x1000, 2), (0x20, 17)], 0, 0, 0xFFFFFFFF, 0, 0, 0, 0, 0, []⟩, -- CMP_LAYER_ADDR_HI
  ⟨0x1201814, [(0x400000, 4), (0x1000, 2), (0x20, 17)], 0, 0, 0, 0, 0, 0, 0, 0, []⟩, -- CMP_ACTIVE_ADDR_HI
  ⟨0x1201018, [(0x400000, 4), (0x1000, 2), (0x20, 17)], 0, 0, 0xFFFF, 0, 0, 0, 0, 0, []⟩, -- CMP_LAYER_PITCH
  ⟨0x1201818, [(0x400000, 4), (0x1000, 2), (0x20, 17)], 0, 0, 0, 0, 0, 0, 0, 0, []⟩, -- CMP_ACTIVE_PITCH
  ⟨0x120101C, [(0x400000, 4), (0x1000, 2), (0x20, 17)], 0, 0, 0xFFFFFFFF, 0, 0, 0, 0, 0, []⟩, -- CMP_LAYER_SOLID
  ⟨0x120181C, [(0x400000, 4), (0x1000, 2), (0x20, 17)], 0, 0, 0, 0, 0, 0, 0, 0, []⟩, -- CMP_ACTIVE_SOLID
  ⟨0x1200004, [(0x400000, 4)], 0, 0, 0, 0, 0, 0, 0, 1, [0xFF00]⟩, -- CMP_STATUS
  ⟨0x1200010, [(0x400000, 4)], 0x400000, 0x807FFFF0, 0, 0, 0, 0, 0, 0, []⟩, -- CMP_RCPT_CSQ
  ⟨0x1200014, [(0x400000, 4)], 0x400000, 0x807FFFF0, 0, 0, 0, 0, 0, 0, []⟩, -- CMP_RCPT_SSQ
  ⟨0x1200020, [(0x400000, 4), (8, 2)], 0, 0, 0, 0, 0, 0, 0xF1F, 0, []⟩, -- CMP_TAKE
  ⟨0x1200024, [(0x400000, 4), (8, 2)], 0, 0, 0, 0, 0, 0, 0, 0, []⟩, -- CMP_TAKE_STAT
  ⟨0x1200040, [(0x400000, 4), (0x20, 2)], 0, 0, 0x3FFFFFFF, 0, 0, 0, 0, 0, []⟩, -- CMP_BG
  ⟨0x1200044, [(0x400000, 4), (0x20, 2)], 0, 0, 0, 0, 0, 0, 0, 0, []⟩, -- CMP_HEAD_STATUS
  ⟨0x1200048, [(0x400000, 4), (0x20, 2)], 0, 0, 0, 0, 0, 0, 0, 0, []⟩, -- CMP_WITHHELD
  ⟨0x120004C, [(0x400000, 4), (0x20, 2)], 0, 0, 0, 0, 0, 0, 0, 0, []⟩, -- CMP_LOAD
  ⟨0x1200100, [(0x400000, 4), (0x20, 2), (4, 4)], 0, 0, 0x9F9F9F9F, 0, 0, 0, 0, 0, []⟩, -- CMP_OWN
  ⟨0x1200110, [(0x400000, 4), (0x20, 2)], 0, 0, 0x1F, 0, 0, 0, 0, 0, []⟩, -- CMP_GOWN
  ⟨0x1200200, [(0x400000, 4), (0x20, 2)], 0x400, 0, 0x1F0F13, 0, 0, 0, 0, 0, []⟩, -- CMP_WB_CFG
  ⟨0x1200204, [(0x400000, 4), (0x20, 2)], 0, 0, 0xFFFFFFC0, 0, 0, 0, 0, 0, []⟩, -- CMP_WB_LO
  ⟨0x1200208, [(0x400000, 4), (0x20, 2)], 0, 0, 0xFFFFFFFF, 0, 0, 0, 0, 0, []⟩] -- CMP_WB_HI

def regRows18_1 : List RegRow := [
  ⟨0x120020C, [(0x400000, 4), (0x20, 2)], 0, 0, 0xFFFF, 0, 0, 0, 0, 0, []⟩, -- CMP_WB_PITCH
  ⟨0x1200210, [(0x400000, 4), (0x20, 2)], 0, 0, 0, 0, 0, 0, 0, 0xC0000000, []⟩, -- CMP_WB_STAT
  ⟨0x1200214, [(0x400000, 4), (0x20, 2)], 0, 0, 0, 0, 0, 0, 0, 0, []⟩, -- CMP_WB_FRAME
  ⟨0x1200400, [(0x400000, 4), (0x10, 33)], 0, 0xFFFFF000, 0, 0, 0, 0, 0, 0, []⟩, -- CMP_RET_LO
  ⟨0x1200404, [(0x400000, 4), (0x10, 33)], 0, 0xFFFFFFFF, 0, 0, 0, 0, 0, 0, []⟩, -- CMP_RET_HI
  ⟨0x1200408, [(0x400000, 4), (0x10, 33)], 6, 0x8000001F, 0, 0, 0, 0, 0, 0, []⟩, -- CMP_RET_CFG
  ⟨0x120040C, [(0x400000, 4), (0x10, 33)], 0, 0, 0, 0, 0, 0, 0, 0, []⟩, -- CMP_RET_PROD
  ⟨0x1200700, [(0x400000, 4), (0x20, 2)], 0, 0, 0xFFFFF000, 0, 0, 0, 0, 0, []⟩, -- CMP_GMIR_LO
  ⟨0x1200704, [(0x400000, 4), (0x20, 2)], 0, 0, 0xFFFFFFFF, 0, 0, 0, 0, 0, []⟩, -- CMP_GMIR_HI
  ⟨0x1200708, [(0x400000, 4), (0x20, 2)], 0, 0, 0xFFFFFFFC, 0, 0, 0, 0, 0, []⟩, -- CMP_GLCRC_LO
  ⟨0x120070C, [(0x400000, 4), (0x20, 2)], 0, 0, 0xFFFFFFFF, 0, 0, 0, 0, 0, []⟩, -- CMP_GLCRC_HI
  ⟨0x1200710, [(0x400000, 4), (0x20, 2)], 0, 0, 0x80000000, 0, 0, 0, 0, 0x20000000, [0xFFFF]⟩] -- CMP_GCHK

def regRows18 : List RegRow := regRows18_0 ++ regRows18_1

def regRows19_0 : List RegRow := [
  ⟨0x1300000, [(0x400000, 4), (0x1000, 2)], 0, 0, 0x3FFF3FFF, 0, 0, 0, 0, 0, []⟩, -- HEAD_HTIME
  ⟨0x1300800, [(0x400000, 4), (0x1000, 2)], 0, 0, 0, 0, 0, 0, 0, 0, []⟩, -- HEAD_ACTIVE_HTIME
  ⟨0x1300004, [(0x400000, 4), (0x1000, 2)], 0, 0, 0xBFFF3FFF, 0, 0, 0, 0, 0, []⟩, -- HEAD_HSYNC
  ⟨0x1300804, [(0x400000, 4), (0x1000, 2)], 0, 0, 0, 0, 0, 0, 0, 0, []⟩, -- HEAD_ACTIVE_HSYNC
  ⟨0x1300008, [(0x400000, 4), (0x1000, 2)], 0, 0, 0x3FFF3FFF, 0, 0, 0, 0, 0, []⟩, -- HEAD_VTIME
  ⟨0x1300808, [(0x400000, 4), (0x1000, 2)], 0, 0, 0, 0, 0, 0, 0, 0, []⟩, -- HEAD_ACTIVE_VTIME
  ⟨0x130000C, [(0x400000, 4), (0x1000, 2)], 0, 0, 0xBFFF3FFF, 0, 0, 0, 0, 0, []⟩, -- HEAD_VSYNC
  ⟨0x130080C, [(0x400000, 4), (0x1000, 2)], 0, 0, 0, 0, 0, 0, 0, 0, []⟩, -- HEAD_ACTIVE_VSYNC
  ⟨0x1300010, [(0x400000, 4), (0x1000, 2)], 0, 0, 0x3FFFFF, 0, 0, 0, 0, 0, []⟩, -- HEAD_PCLK
  ⟨0x1300810, [(0x400000, 4), (0x1000, 2)], 0, 0, 0, 0, 0, 0, 0, 0, []⟩, -- HEAD_ACTIVE_PCLK
  ⟨0x1300014, [(0x400000, 4), (0x1000, 2)], 0, 0, 0x3FFF, 0, 0, 0, 0, 0, []⟩, -- HEAD_LATCH
  ⟨0x1300814, [(0x400000, 4), (0x1000, 2)], 0, 0, 0, 0, 0, 0, 0, 0, []⟩, -- HEAD_ACTIVE_LATCH
  ⟨0x1300018, [(0x400000, 4), (0x1000, 2)], 0, 0, 0x80003FFF, 0, 0, 0, 0, 0, []⟩, -- HEAD_VRR
  ⟨0x1300818, [(0x400000, 4), (0x1000, 2)], 0, 0, 0, 0, 0, 0, 0, 0, []⟩, -- HEAD_ACTIVE_VRR
  ⟨0x130001C, [(0x400000, 4), (0x1000, 2)], 0x20, 0, 0x80000030, 0, 0, 0, 0, 0, []⟩, -- HEAD_OUT
  ⟨0x130081C, [(0x400000, 4), (0x1000, 2)], 0x20, 0, 0, 0, 0, 0, 0, 0, []⟩, -- HEAD_ACTIVE_OUT
  ⟨0x1300040, [(0x400000, 4), (0x1000, 2)], 4, 0, 0x3F, 0, 0, 0, 0, 0, []⟩, -- HEAD_HORIZON
  ⟨0x1300044, [(0x400000, 4), (0x1000, 2)], 0, 1, 0, 0, 0, 0, 0, 0, []⟩, -- HEAD_SEC
  ⟨0x130004C, [(0x400000, 4), (0x1000, 2)], 0, 0, 0, 0, 0, 0, 0x80000000, 0, []⟩, -- HEAD_TIMING_CHK
  ⟨0x1300048, [(0x400000, 4), (0x1000, 2)], 0, 0, 0, 0, 0, 0, 0, 0x108, []⟩, -- HEAD_STATUS
  ⟨0x1300050, [(0x400000, 4), (0x1000, 2)], 0, 0, 0, 0, 0, 0, 0, 0, []⟩, -- HEAD_FRAME_LO
  ⟨0x1300054, [(0x400000, 4), (0x1000, 2)], 0, 0, 0, 0, 0, 0, 0, 0, []⟩, -- HEAD_FRAME_HI
  ⟨0x1300058, [(0x400000, 4), (0x1000, 2)], 0, 0, 0, 0, 0, 0, 0, 0, []⟩, -- HEAD_FLIP_LO
  ⟨0x130005C, [(0x400000, 4), (0x1000, 2)], 0, 0, 0, 0, 0, 0, 0, 0, []⟩, -- HEAD_FLIP_HI
  ⟨0x1300060, [(0x400000, 4), (0x1000, 2)], 0, 0, 0, 0, 0, 0, 0, 0x1FF, []⟩, -- HEAD_EVENT
  ⟨0x1300064, [(0x400000, 4), (0x1000, 2)], 0, 0x1FF, 0, 0, 0, 0, 0, 0, []⟩, -- HEAD_EVENT_EN
  ⟨0x1300068, [(0x400000, 4), (0x1000, 2)], 0, 0, 0, 0, 0, 0, 0, 0, [0xFFFF0000, 0xFFFF]⟩, -- HEAD_UNDERRUN
  ⟨0x130006C, [(0x400000, 4), (0x1000, 2)], 0, 0x1FF73, 0, 0, 0, 0, 0, 0, []⟩, -- HEAD_SYNC
  ⟨0x1300070, [(0x400000, 4), (0x1000, 2)], 2, 0xC00000FF, 0, 0, 0, 0, 0, 0, []⟩, -- HEAD_PSR
  ⟨0x1300074, [(0x400000, 4), (0x1000, 2)], 0, 0xB3FF1FFF, 0, 0, 0, 0, 0, 0, []⟩] -- HEAD_DSC

def regRows19_1 : List RegRow := [
  ⟨0x1300078, [(0x400000, 4), (0x1000, 2)], 0, 0, 0, 0, 0, 0, 3, 0, []⟩, -- HEAD_RC_ACT
  ⟨0x1300100, [(0x400000, 4), (0x1000, 2), (0x20, 16)], 0, 0, 0x3FFF3FFF, 0, 0, 0, 0, 0, []⟩, -- HEAD_RC_POS
  ⟨0x1300900, [(0x400000, 4), (0x1000, 2), (0x20, 16)], 0, 0, 0, 0, 0, 0, 0, 0, []⟩, -- HEAD_RC_ACTIVE_POS
  ⟨0x1300104, [(0x400000, 4), (0x1000, 2), (0x20, 16)], 0, 0, 0x3FFF3FFF, 0, 0, 0, 0, 0, []⟩, -- HEAD_RC_SIZE
  ⟨0x1300904, [(0x400000, 4), (0x1000, 2), (0x20, 16)], 0, 0, 0, 0, 0, 0, 0, 0, []⟩, -- HEAD_RC_ACTIVE_SIZE
  ⟨0x1300108, [(0x400000, 4), (0x1000, 2), (0x20, 16)], 0, 0, 0xFFFFFFFF, 0, 0, 0, 0, 0, []⟩, -- HEAD_RC_EXP
  ⟨0x1300908, [(0x400000, 4), (0x1000, 2), (0x20, 16)], 0, 0, 0, 0, 0, 0, 0, 0, []⟩, -- HEAD_RC_ACTIVE_EXP
  ⟨0x130010C, [(0x400000, 4), (0x1000, 2), (0x20, 16)], 1, 0, 0x8000030F, 0, 0, 0, 0, 0, []⟩, -- HEAD_RC_CTL
  ⟨0x130090C, [(0x400000, 4), (0x1000, 2), (0x20, 16)], 1, 0, 0, 0, 0, 0, 0, 0, []⟩, -- HEAD_RC_ACTIVE_CTL
  ⟨0x1300300, [(0x400000, 4), (0x1000, 2), (8, 16)], 0, 0, 0, 0, 0, 0, 0, 0, []⟩, -- HEAD_RC_GOT
  ⟨0x1300304, [(0x400000, 4), (0x1000, 2), (8, 16)], 0, 0, 0, 0, 0, 0, 0, 0, [0xFFFF]⟩, -- HEAD_RC_STAT
  ⟨0x1302000, [(0x400000, 4), (0x100, 2)], 0x20000000, 0xFF000002, 0, 0, 0, 0, 1, 0, []⟩, -- DP_CTL
  ⟨0x1302008, [(0x400000, 4), (0x100, 2)], 0, 0, 0, 0, 0, 0, 0, 0xF0, []⟩, -- DP_STATUS
  ⟨0x1302004, [(0x400000, 4), (0x100, 2)], 0, 0x87878787, 0, 0, 0, 0, 0, 0, []⟩] -- DP_STREAM

def regRows19 : List RegRow := regRows19_0 ++ regRows19_1

def regRows20_0 : List RegRow := [
  ⟨0x80000000, [], 0xD04000C, 0, 0, 0, 0, 0, 0, 0, []⟩, -- UDC_ID
  ⟨0x80000004, [], 0, 0, 0, 0, 0, 0, 0, 0x1E, []⟩, -- UDC_STAT
  ⟨0x80000008, [], 0, 0, 0, 0x20000001, 0, 0, 0, 0, []⟩, -- UDC_CTL
  ⟨0x80000010, [], 0, 0, 0, 0, 0, 0, 0, 0x7FFF, []⟩, -- UDC_INT_STAT
  ⟨0x80000014, [], 0, 0, 0, 0x7FFF, 0, 0, 0, 0, []⟩, -- UDC_INT_EN
  ⟨0x80000020, [], 0, 0, 0, 0, 0, 0x8000000F, 0, 0, []⟩, -- UDC_RST
  ⟨0x80000024, [], 0xFFFFFFFF, 0, 0, 0, 0, 0, 0, 0, []⟩, -- UDC_RST_G
  ⟨0x80000028, [], 0, 0, 0, 0, 0, 0x8000003F, 0, 0, []⟩, -- UDC_PWR
  ⟨0x8000002C, [], 0xFFFFFFFF, 0, 0, 0, 0, 0, 0, 0, []⟩, -- UDC_PWR_G
  ⟨0x80001000, [(0x400, 4)], 0, 0, 0, 0x80000001, 0, 0, 2, 8, []⟩, -- UDC_H_CTL
  ⟨0x80001004, [(0x400, 4)], 0, 0, 0, 0x3FFF3FFF, 0, 0, 0, 0, []⟩, -- UDC_H_HTIME
  ⟨0x80001008, [(0x400, 4)], 0, 0, 0, 0xBFFF3FFF, 0, 0, 0, 0, []⟩, -- UDC_H_HSYNC
  ⟨0x8000100C, [(0x400, 4)], 0, 0, 0, 0x3FFF3FFF, 0, 0, 0, 0, []⟩, -- UDC_H_VTIME
  ⟨0x80001010, [(0x400, 4)], 0, 0, 0, 0xBFFF3FFF, 0, 0, 0, 0, []⟩, -- UDC_H_VSYNC
  ⟨0x80001014, [(0x400, 4)], 0, 0, 0, 0x3FFFFF, 0, 0, 0, 0, []⟩, -- UDC_H_PCLK
  ⟨0x80001018, [(0x400, 4)], 0, 0, 0, 0xFFFFFF, 0, 0, 0, 0, []⟩, -- UDC_H_BG
  ⟨0x800011F0, [(0x400, 4)], 0, 0, 0, 0, 0, 0, 0, 0, []⟩, -- UDC_H_FRAME
  ⟨0x80001040, [(0x400, 4), (0x20, 4)], 0xFF, 0, 0, 0xFC0000FF, 0, 0, 0, 0, []⟩, -- UDC_P_CTL
  ⟨0x80001044, [(0x400, 4), (0x20, 4)], 0, 0, 0, 0xFFF0FFF, 0, 0, 0, 0, []⟩, -- UDC_P_POS
  ⟨0x80001048, [(0x400, 4), (0x20, 4)], 0, 0, 0, 0xFFF0FFF, 0, 0, 0, 0, []⟩, -- UDC_P_SIZE
  ⟨0x8000104C, [(0x400, 4), (0x20, 4)], 0, 0, 0, 0x1FFFFFC0, 0, 0, 0, 0, []⟩, -- UDC_P_ADDR
  ⟨0x80001050, [(0x400, 4), (0x20, 4)], 0, 0, 0, 0xFFFF, 0, 0, 0, 0, []⟩, -- UDC_P_PITCH
  ⟨0x80001054, [(0x400, 4), (0x20, 4)], 0, 0, 0, 0xFFFFFF, 0, 0, 0, 0, []⟩, -- UDC_P_KEY
  ⟨0x80001058, [(0x400, 4), (0x20, 4)], 0, 0, 0, 0, 0, 0, 0, 0, []⟩, -- UDC_P_CUR
  ⟨0x80001100, [(0x400, 4), (0x20, 4)], 0, 0, 0, 0xFFF0FFF, 0, 0, 0, 0, []⟩, -- UDC_R_POS
  ⟨0x80001104, [(0x400, 4), (0x20, 4)], 0, 0, 0, 0xFFF0FFF, 0, 0, 0, 0, []⟩, -- UDC_R_SIZE
  ⟨0x80001108, [(0x400, 4), (0x20, 4)], 0xFFFF, 0, 0, 0xFFFF, 0, 0, 0, 0, []⟩, -- UDC_R_EXP
  ⟨0x8000110C, [(0x400, 4), (0x20, 4)], 0, 0, 0, 0x80008000, 0, 0, 0, 0, []⟩, -- UDC_R_CTL
  ⟨0x80001110, [(0x400, 4), (0x20, 4)], 0xFFFF, 0, 0, 0, 0, 0, 0, 0, []⟩, -- UDC_R_GOT
  ⟨0x80008000, [], 0, 0, 0, 0x1FFFFFFF, 0, 0, 0, 0, []⟩] -- UDC_BLT_SRC

def regRows20_1 : List RegRow := [
  ⟨0x80008004, [], 0, 0, 0, 0x1FFFFFFF, 0, 0, 0, 0, []⟩, -- UDC_BLT_DST
  ⟨0x80008008, [], 0, 0, 0, 0xFFFFFFFF, 0, 0, 0, 0, []⟩, -- UDC_BLT_PITCH
  ⟨0x8000800C, [], 0, 0, 0, 0xFFF0FFF, 0, 0, 0, 0, []⟩, -- UDC_BLT_SIZE
  ⟨0x80008010, [], 0, 0, 0, 0xFFFFFFFF, 0, 0, 0, 0, []⟩, -- UDC_BLT_FILL
  ⟨0x80008014, [], 0, 0, 0, 0x11, 0, 0, 0x80000000, 0x20000000, []⟩, -- UDC_BLT_CTL
  ⟨0x8000A000, [], 0, 0, 0, 0, 0, 0, 0x80000000, 0, []⟩, -- UDC_MIX_CTL
  ⟨0x8000A100, [(0x20, 4), (4, 8)], 0, 0, 0, 0xFF, 0, 0, 0, 0, []⟩, -- UDC_MIX
  ⟨0x8000B000, [(0x10, 4)], 0, 0, 0, 0xFFFF, 0, 0, 0, 0, []⟩, -- UDC_CHM_FREQ
  ⟨0x8000B004, [(0x10, 4)], 0, 0, 0, 0xFFFFFFFF, 0, 0, 0, 0, []⟩, -- UDC_CHM_TIME
  ⟨0x8000B008, [(0x10, 4)], 0x800001, 0, 0, 0xFFFFFF, 0, 0, 0xC0000000, 0, []⟩, -- UDC_CHM_CTL
  ⟨0x8000C000, [(0x100, 2)], 0, 0, 0, 0xC0000000, 0, 0, 0, 0, []⟩, -- UDC_TCH_CTL
  ⟨0x8000C004, [(0x100, 2)], 0, 0, 0, 0, 0, 0, 0, 0, []⟩, -- UDC_TCH_FIFO
  ⟨0x8000C008, [(0x100, 2)], 0, 0, 0, 0, 0, 0, 0, 0x100, []⟩] -- UDC_TCH_STAT

def regRows20 : List RegRow := regRows20_0 ++ regRows20_1

/-- The rows of the block that holds map offset `a` (R408). -/
def rowsOfBlock (a : Nat) : List RegRow :=
  let k := if a ≥ 0x80000000 then 20 else if a ≥ 0x1000000 then 16 + (a / 0x100000) % 4 else a / 0x100000
  match k with
  | 0 => regRows0
  | 1 => regRows1
  | 2 => regRows2
  | 3 => regRows3
  | 4 => regRows4
  | 5 => regRows5
  | 6 => regRows6
  | 7 => regRows7
  | 8 => regRows8
  | 9 => regRows9
  | 10 => regRows10
  | 11 => regRows11
  | 12 => regRows12
  | 13 => regRows13
  | 14 => regRows14
  | 16 => regRows16
  | 17 => regRows17
  | 18 => regRows18
  | 19 => regRows19
  | 20 => regRows20
  | _ => []

/-- Whether the remaining offset `o` is that of an element of an array with these strides and counts. -/
def onDims : List (Nat × Nat) → Nat → Bool
  | [], o => o == 0
  | (s, c) :: ds, o => decide (o / s < c) && onDims ds (o % s)

/-- Whether row `r` holds a register at offset `a`. -/
def RegRow.covers (r : RegRow) (a : Nat) : Bool := decide (r.base ≤ a) && onDims r.dims (a - r.base)

/-- The row of the register at offset `a`; none for a hole (R409). -/
def findRow (a : Nat) : Option RegRow := (rowsOfBlock a).find? (·.covers a)

/-- The reset value of the register at offset `a`, by the Reset columns; a hole reads 0 (R409). -/
def regReset (a : Nat) : Word := BitVec.ofNat 32 (((findRow a).map (·.reset)).getD 0)

end Sys2Proof.Machine

namespace Sys2Proof.Machine.Reg

/-- BEAT_CTL, R45 of 02. -/
def BEAT_CTL : Nat := 0x100000
/-- BEAT_PERIOD, R45 of 02. -/
def BEAT_PERIOD : Nat := 0x100008
/-- BEAT_STATUS, R45 of 02. -/
def BEAT_STATUS : Nat := 0x10000C
/-- BEAT_NOW_LO, R45 of 02. -/
def BEAT_NOW_LO : Nat := 0x100010
/-- BEAT_NOW_HI, R45 of 02. -/
def BEAT_NOW_HI : Nat := 0x100014
/-- BEAT_LAST_TICKS, R45 of 02. -/
def BEAT_LAST_TICKS : Nat := 0x100018
/-- BEAT_FALLOW, R45 of 02. -/
def BEAT_FALLOW : Nat := 0x10001C
/-- BEAT_PRED, R45 of 02. -/
def BEAT_PRED : Nat := 0x100020
/-- BEAT_HEAD_LATCH, R45 of 02. -/
def BEAT_HEAD_LATCH (n : Nat) : Nat := 0x100100 + n * 0x10
/-- BEAT_HEAD_CUTOFF, R45 of 02. -/
def BEAT_HEAD_CUTOFF (n : Nat) : Nat := 0x100104 + n * 0x10
/-- BEAT_HEAD_LATEPOL, R45 of 02. -/
def BEAT_HEAD_LATEPOL (n : Nat) : Nat := 0x100108 + n * 0x10
/-- BEAT_CH_PICKSTAT, R45 of 02. -/
def BEAT_CH_PICKSTAT (n : Nat) : Nat := 0x100200 + n * 0x10
/-- BEAT_SQ_BUDGET, R45 of 02. -/
def BEAT_SQ_BUDGET (n : Nat) : Nat := 0x100300 + n * 0x10
/-- BEAT_SQ_LAST, R45 of 02. -/
def BEAT_SQ_LAST (n : Nat) : Nat := 0x100304 + n * 0x10
/-- BEAT_SQ_OVR, R45 of 02. -/
def BEAT_SQ_OVR (n : Nat) : Nat := 0x100308 + n * 0x10
/-- CSQ_CTL, R79 of 03. -/
def CSQ_CTL (sq : Nat) : Nat := 0x1000000 + sq * 0x400000
/-- CSQ_STATUS, R79 of 03. -/
def CSQ_STATUS (sq : Nat) : Nat := 0x1000004 + sq * 0x400000
/-- CSQ_TRAP_PC, R79 of 03. -/
def CSQ_TRAP_PC (sq : Nat) : Nat := 0x1000008 + sq * 0x400000
/-- CSQ_TRAP_VAL, R79 of 03. -/
def CSQ_TRAP_VAL (sq : Nat) : Nat := 0x100000C + sq * 0x400000
/-- CSQ_IMG_LO, R79 of 03. -/
def CSQ_IMG_LO (sq : Nat) : Nat := 0x1000010 + sq * 0x400000
/-- CSQ_IMG_HI, R79 of 03. -/
def CSQ_IMG_HI (sq : Nat) : Nat := 0x1000014 + sq * 0x400000
/-- CSQ_LOAD, R79 of 03. -/
def CSQ_LOAD (sq : Nat) : Nat := 0x1000018 + sq * 0x400000
/-- CSQ_MAIL, R79 of 03. -/
def CSQ_MAIL (sq : Nat) : Nat := 0x100001C + sq * 0x400000
/-- CSQ_VOTE, R383 of 15. -/
def CSQ_VOTE (ch : Nat) : Nat := 0x1000020 + ch * 0x400000
/-- INST_Q_BASE_LO, R96 of 04. -/
def INST_Q_BASE_LO (i : Nat) (q : Nat) : Nat := 0x610000 + i * 0x1000 + q * 0x20
/-- INST_Q_BASE_HI, R96 of 04. -/
def INST_Q_BASE_HI (i : Nat) (q : Nat) : Nat := 0x610004 + i * 0x1000 + q * 0x20
/-- INST_Q_CFG, R96 of 04. -/
def INST_Q_CFG (i : Nat) (q : Nat) : Nat := 0x610008 + i * 0x1000 + q * 0x20
/-- INST_Q_DOORBELL, R96 of 04. -/
def INST_Q_DOORBELL (i : Nat) (q : Nat) : Nat := 0x61000C + i * 0x1000 + q * 0x20
/-- INST_Q_CONS, R96 of 04. -/
def INST_Q_CONS (i : Nat) (q : Nat) : Nat := 0x610010 + i * 0x1000 + q * 0x20
/-- INST_Q_STATUS, R96 of 04. -/
def INST_Q_STATUS (i : Nat) (q : Nat) : Nat := 0x610014 + i * 0x1000 + q * 0x20
/-- INST_HRV_BASE_LO, R96 of 04. -/
def INST_HRV_BASE_LO (i : Nat) : Nat := 0x610400 + i * 0x1000
/-- INST_HRV_BASE_HI, R96 of 04. -/
def INST_HRV_BASE_HI (i : Nat) : Nat := 0x610404 + i * 0x1000
/-- INST_HRV_CFG, R96 of 04. -/
def INST_HRV_CFG (i : Nat) : Nat := 0x610408 + i * 0x1000
/-- INST_HRV_CONS, R96 of 04. -/
def INST_HRV_CONS (i : Nat) : Nat := 0x61040C + i * 0x1000
/-- INST_HRV_PROD, R96 of 04. -/
def INST_HRV_PROD (i : Nat) : Nat := 0x610410 + i * 0x1000
/-- INST_HRV_IRQ, R96 of 04. -/
def INST_HRV_IRQ (i : Nat) : Nat := 0x610414 + i * 0x1000
/-- INST_HRV_STATUS, R96 of 04. -/
def INST_HRV_STATUS (i : Nat) : Nat := 0x610418 + i * 0x1000
/-- RAS_CTL, R127 of 05. -/
def RAS_CTL (ch : Nat) : Nat := 0x1100000 + ch * 0x400000
/-- RAS_STATUS, R127 of 05. -/
def RAS_STATUS (ch : Nat) : Nat := 0x1100004 + ch * 0x400000
/-- RAS_SLOT_LO, R127 of 05. -/
def RAS_SLOT_LO (ch : Nat) : Nat := 0x1100010 + ch * 0x400000
/-- RAS_SLOT_HI, R127 of 05. -/
def RAS_SLOT_HI (ch : Nat) : Nat := 0x1100014 + ch * 0x400000
/-- RAS_SLOT_CFG, R127 of 05. -/
def RAS_SLOT_CFG (ch : Nat) : Nat := 0x1100018 + ch * 0x400000
/-- RAS_SLOT_FREE, R127 of 05. -/
def RAS_SLOT_FREE (ch : Nat) : Nat := 0x110001C + ch * 0x400000
/-- RAS_CTXPOOL_LO, R127 of 05. -/
def RAS_CTXPOOL_LO (ch : Nat) : Nat := 0x1100020 + ch * 0x400000
/-- RAS_CTXPOOL_HI, R127 of 05. -/
def RAS_CTXPOOL_HI (ch : Nat) : Nat := 0x1100024 + ch * 0x400000
/-- RAS_CTXPOOL_SIZE, R127 of 05. -/
def RAS_CTXPOOL_SIZE (ch : Nat) : Nat := 0x1100028 + ch * 0x400000
/-- RAS_CTX_LIMIT, R127 of 05. -/
def RAS_CTX_LIMIT (ch : Nat) : Nat := 0x110002C + ch * 0x400000
/-- RAS_PIN_LO, R127 of 05. -/
def RAS_PIN_LO (ch : Nat) : Nat := 0x1100030 + ch * 0x400000
/-- RAS_PIN_HI, R127 of 05. -/
def RAS_PIN_HI (ch : Nat) : Nat := 0x1100034 + ch * 0x400000
/-- RAS_PIN_SIZE, R127 of 05. -/
def RAS_PIN_SIZE (ch : Nat) : Nat := 0x1100038 + ch * 0x400000
/-- RAS_TRAV_LIMIT, R127 of 05. -/
def RAS_TRAV_LIMIT (ch : Nat) : Nat := 0x1100040 + ch * 0x400000
/-- RAS_TRAV_STAT, R127 of 05. -/
def RAS_TRAV_STAT (ch : Nat) : Nat := 0x1100044 + ch * 0x400000
/-- RAS_CMD_ERR_POS, R127 of 05. -/
def RAS_CMD_ERR_POS (ch : Nat) : Nat := 0x1100050 + ch * 0x400000
/-- RAS_CMD_ERR_SRC, R127 of 05. -/
def RAS_CMD_ERR_SRC (ch : Nat) : Nat := 0x1100054 + ch * 0x400000
/-- RAS_OVF_TOTAL, R127 of 05. -/
def RAS_OVF_TOTAL (ch : Nat) : Nat := 0x1100058 + ch * 0x400000
/-- RAS_RPJ_CFG, R127 of 05. -/
def RAS_RPJ_CFG (ch : Nat) (m : Nat) : Nat := 0x1100100 + ch * 0x400000 + m * 0x40
/-- RAS_RPJ_VIEW_LO, R127 of 05. -/
def RAS_RPJ_VIEW_LO (ch : Nat) (m : Nat) : Nat := 0x1100104 + ch * 0x400000 + m * 0x40
/-- RAS_RPJ_VIEW_HI, R127 of 05. -/
def RAS_RPJ_VIEW_HI (ch : Nat) (m : Nat) : Nat := 0x1100108 + ch * 0x400000 + m * 0x40
/-- RAS_RPJ_TGT0_LO, R127 of 05. -/
def RAS_RPJ_TGT0_LO (ch : Nat) (m : Nat) : Nat := 0x110010C + ch * 0x400000 + m * 0x40
/-- RAS_RPJ_TGT0_HI, R127 of 05. -/
def RAS_RPJ_TGT0_HI (ch : Nat) (m : Nat) : Nat := 0x1100110 + ch * 0x400000 + m * 0x40
/-- RAS_RPJ_TGT1_LO, R127 of 05. -/
def RAS_RPJ_TGT1_LO (ch : Nat) (m : Nat) : Nat := 0x1100114 + ch * 0x400000 + m * 0x40
/-- RAS_RPJ_TGT1_HI, R127 of 05. -/
def RAS_RPJ_TGT1_HI (ch : Nat) (m : Nat) : Nat := 0x1100118 + ch * 0x400000 + m * 0x40
/-- RAS_RPJ_DEPTH_LO, R127 of 05. -/
def RAS_RPJ_DEPTH_LO (ch : Nat) (m : Nat) : Nat := 0x110011C + ch * 0x400000 + m * 0x40
/-- RAS_RPJ_DEPTH_HI, R127 of 05. -/
def RAS_RPJ_DEPTH_HI (ch : Nat) (m : Nat) : Nat := 0x1100120 + ch * 0x400000 + m * 0x40
/-- RAS_RPJ_FILL, R127 of 05. -/
def RAS_RPJ_FILL (ch : Nat) (m : Nat) : Nat := 0x1100124 + ch * 0x400000 + m * 0x40
/-- RAS_RPJ_AGE, R127 of 05. -/
def RAS_RPJ_AGE (ch : Nat) (m : Nat) : Nat := 0x1100128 + ch * 0x400000 + m * 0x40
/-- RAS_RPJ_STAT, R127 of 05. -/
def RAS_RPJ_STAT (ch : Nat) (m : Nat) : Nat := 0x110012C + ch * 0x400000 + m * 0x40
/-- CMP_LAYER_CTL, R158 of 07. -/
def CMP_LAYER_CTL (h : Nat) (k : Nat) : Nat := 0x1201000 + (h / 2) * 0x400000 + (h % 2) * 0x1000 + k * 0x20
/-- CMP_ACTIVE_CTL, R157 of 07. -/
def CMP_ACTIVE_CTL (h : Nat) (k : Nat) : Nat := 0x1201800 + (h / 2) * 0x400000 + (h % 2) * 0x1000 + k * 0x20
/-- CMP_LAYER_POS, R158 of 07. -/
def CMP_LAYER_POS (h : Nat) (k : Nat) : Nat := 0x1201004 + (h / 2) * 0x400000 + (h % 2) * 0x1000 + k * 0x20
/-- CMP_ACTIVE_POS, R157 of 07. -/
def CMP_ACTIVE_POS (h : Nat) (k : Nat) : Nat := 0x1201804 + (h / 2) * 0x400000 + (h % 2) * 0x1000 + k * 0x20
/-- CMP_LAYER_SIZE, R158 of 07. -/
def CMP_LAYER_SIZE (h : Nat) (k : Nat) : Nat := 0x1201008 + (h / 2) * 0x400000 + (h % 2) * 0x1000 + k * 0x20
/-- CMP_ACTIVE_SIZE, R157 of 07. -/
def CMP_ACTIVE_SIZE (h : Nat) (k : Nat) : Nat := 0x1201808 + (h / 2) * 0x400000 + (h % 2) * 0x1000 + k * 0x20
/-- CMP_LAYER_SRC, R158 of 07. -/
def CMP_LAYER_SRC (h : Nat) (k : Nat) : Nat := 0x120100C + (h / 2) * 0x400000 + (h % 2) * 0x1000 + k * 0x20
/-- CMP_ACTIVE_SRC, R157 of 07. -/
def CMP_ACTIVE_SRC (h : Nat) (k : Nat) : Nat := 0x120180C + (h / 2) * 0x400000 + (h % 2) * 0x1000 + k * 0x20
/-- CMP_LAYER_ADDR_LO, R158 of 07. -/
def CMP_LAYER_ADDR_LO (h : Nat) (k : Nat) : Nat := 0x1201010 + (h / 2) * 0x400000 + (h % 2) * 0x1000 + k * 0x20
/-- CMP_ACTIVE_ADDR_LO, R157 of 07. -/
def CMP_ACTIVE_ADDR_LO (h : Nat) (k : Nat) : Nat := 0x1201810 + (h / 2) * 0x400000 + (h % 2) * 0x1000 + k * 0x20
/-- CMP_LAYER_ADDR_HI, R158 of 07. -/
def CMP_LAYER_ADDR_HI (h : Nat) (k : Nat) : Nat := 0x1201014 + (h / 2) * 0x400000 + (h % 2) * 0x1000 + k * 0x20
/-- CMP_ACTIVE_ADDR_HI, R157 of 07. -/
def CMP_ACTIVE_ADDR_HI (h : Nat) (k : Nat) : Nat := 0x1201814 + (h / 2) * 0x400000 + (h % 2) * 0x1000 + k * 0x20
/-- CMP_LAYER_PITCH, R158 of 07. -/
def CMP_LAYER_PITCH (h : Nat) (k : Nat) : Nat := 0x1201018 + (h / 2) * 0x400000 + (h % 2) * 0x1000 + k * 0x20
/-- CMP_ACTIVE_PITCH, R157 of 07. -/
def CMP_ACTIVE_PITCH (h : Nat) (k : Nat) : Nat := 0x1201818 + (h / 2) * 0x400000 + (h % 2) * 0x1000 + k * 0x20
/-- CMP_LAYER_SOLID, R158 of 07. -/
def CMP_LAYER_SOLID (h : Nat) (k : Nat) : Nat := 0x120101C + (h / 2) * 0x400000 + (h % 2) * 0x1000 + k * 0x20
/-- CMP_ACTIVE_SOLID, R157 of 07. -/
def CMP_ACTIVE_SOLID (h : Nat) (k : Nat) : Nat := 0x120181C + (h / 2) * 0x400000 + (h % 2) * 0x1000 + k * 0x20
/-- CMP_STATUS, R180 of 07. -/
def CMP_STATUS (ch : Nat) : Nat := 0x1200004 + ch * 0x400000
/-- CMP_RCPT_CSQ, R180 of 07. -/
def CMP_RCPT_CSQ (ch : Nat) : Nat := 0x1200010 + ch * 0x400000
/-- CMP_RCPT_SSQ, R180 of 07. -/
def CMP_RCPT_SSQ (ch : Nat) : Nat := 0x1200014 + ch * 0x400000
/-- CMP_TAKE, R180 of 07. -/
def CMP_TAKE (h : Nat) : Nat := 0x1200020 + (h / 2) * 0x400000 + (h % 2) * 0x8
/-- CMP_TAKE_STAT, R180 of 07. -/
def CMP_TAKE_STAT (h : Nat) : Nat := 0x1200024 + (h / 2) * 0x400000 + (h % 2) * 0x8
/-- CMP_BG, R180 of 07. -/
def CMP_BG (h : Nat) : Nat := 0x1200040 + (h / 2) * 0x400000 + (h % 2) * 0x20
/-- CMP_HEAD_STATUS, R180 of 07. -/
def CMP_HEAD_STATUS (h : Nat) : Nat := 0x1200044 + (h / 2) * 0x400000 + (h % 2) * 0x20
/-- CMP_WITHHELD, R180 of 07. -/
def CMP_WITHHELD (h : Nat) : Nat := 0x1200048 + (h / 2) * 0x400000 + (h % 2) * 0x20
/-- CMP_LOAD, R180 of 07. -/
def CMP_LOAD (h : Nat) : Nat := 0x120004C + (h / 2) * 0x400000 + (h % 2) * 0x20
/-- CMP_OWN, R180 of 07. -/
def CMP_OWN (h : Nat) (j : Nat) : Nat := 0x1200100 + (h / 2) * 0x400000 + (h % 2) * 0x20 + j * 0x4
/-- CMP_GOWN, R180 of 07. -/
def CMP_GOWN (h : Nat) : Nat := 0x1200110 + (h / 2) * 0x400000 + (h % 2) * 0x20
/-- CMP_WB_CFG, R180 of 07. -/
def CMP_WB_CFG (h : Nat) : Nat := 0x1200200 + (h / 2) * 0x400000 + (h % 2) * 0x20
/-- CMP_WB_LO, R180 of 07. -/
def CMP_WB_LO (h : Nat) : Nat := 0x1200204 + (h / 2) * 0x400000 + (h % 2) * 0x20
/-- CMP_WB_HI, R180 of 07. -/
def CMP_WB_HI (h : Nat) : Nat := 0x1200208 + (h / 2) * 0x400000 + (h % 2) * 0x20
/-- CMP_WB_PITCH, R180 of 07. -/
def CMP_WB_PITCH (h : Nat) : Nat := 0x120020C + (h / 2) * 0x400000 + (h % 2) * 0x20
/-- CMP_WB_STAT, R180 of 07. -/
def CMP_WB_STAT (h : Nat) : Nat := 0x1200210 + (h / 2) * 0x400000 + (h % 2) * 0x20
/-- CMP_WB_FRAME, R180 of 07. -/
def CMP_WB_FRAME (h : Nat) : Nat := 0x1200214 + (h / 2) * 0x400000 + (h % 2) * 0x20
/-- CMP_RET_LO, R180 of 07. -/
def CMP_RET_LO (ch : Nat) (i : Nat) : Nat := 0x1200400 + ch * 0x400000 + i * 0x10
/-- CMP_RET_HI, R180 of 07. -/
def CMP_RET_HI (ch : Nat) (i : Nat) : Nat := 0x1200404 + ch * 0x400000 + i * 0x10
/-- CMP_RET_CFG, R180 of 07. -/
def CMP_RET_CFG (ch : Nat) (i : Nat) : Nat := 0x1200408 + ch * 0x400000 + i * 0x10
/-- CMP_RET_PROD, R180 of 07. -/
def CMP_RET_PROD (ch : Nat) (i : Nat) : Nat := 0x120040C + ch * 0x400000 + i * 0x10
/-- CMP_GMIR_LO, R367 of 14. -/
def CMP_GMIR_LO (h : Nat) : Nat := 0x1200700 + (h / 2) * 0x400000 + (h % 2) * 0x20
/-- CMP_GMIR_HI, R367 of 14. -/
def CMP_GMIR_HI (h : Nat) : Nat := 0x1200704 + (h / 2) * 0x400000 + (h % 2) * 0x20
/-- CMP_GLCRC_LO, R367 of 14. -/
def CMP_GLCRC_LO (h : Nat) : Nat := 0x1200708 + (h / 2) * 0x400000 + (h % 2) * 0x20
/-- CMP_GLCRC_HI, R367 of 14. -/
def CMP_GLCRC_HI (h : Nat) : Nat := 0x120070C + (h / 2) * 0x400000 + (h % 2) * 0x20
/-- CMP_GCHK, R367 of 14. -/
def CMP_GCHK (h : Nat) : Nat := 0x1200710 + (h / 2) * 0x400000 + (h % 2) * 0x20
/-- HEAD_HTIME, R182 of 08. -/
def HEAD_HTIME (h : Nat) : Nat := 0x1300000 + (h / 2) * 0x400000 + (h % 2) * 0x1000
/-- HEAD_ACTIVE_HTIME, R182 of 08. -/
def HEAD_ACTIVE_HTIME (h : Nat) : Nat := 0x1300800 + (h / 2) * 0x400000 + (h % 2) * 0x1000
/-- HEAD_HSYNC, R182 of 08. -/
def HEAD_HSYNC (h : Nat) : Nat := 0x1300004 + (h / 2) * 0x400000 + (h % 2) * 0x1000
/-- HEAD_ACTIVE_HSYNC, R182 of 08. -/
def HEAD_ACTIVE_HSYNC (h : Nat) : Nat := 0x1300804 + (h / 2) * 0x400000 + (h % 2) * 0x1000
/-- HEAD_VTIME, R182 of 08. -/
def HEAD_VTIME (h : Nat) : Nat := 0x1300008 + (h / 2) * 0x400000 + (h % 2) * 0x1000
/-- HEAD_ACTIVE_VTIME, R182 of 08. -/
def HEAD_ACTIVE_VTIME (h : Nat) : Nat := 0x1300808 + (h / 2) * 0x400000 + (h % 2) * 0x1000
/-- HEAD_VSYNC, R182 of 08. -/
def HEAD_VSYNC (h : Nat) : Nat := 0x130000C + (h / 2) * 0x400000 + (h % 2) * 0x1000
/-- HEAD_ACTIVE_VSYNC, R182 of 08. -/
def HEAD_ACTIVE_VSYNC (h : Nat) : Nat := 0x130080C + (h / 2) * 0x400000 + (h % 2) * 0x1000
/-- HEAD_PCLK, R182 of 08. -/
def HEAD_PCLK (h : Nat) : Nat := 0x1300010 + (h / 2) * 0x400000 + (h % 2) * 0x1000
/-- HEAD_ACTIVE_PCLK, R182 of 08. -/
def HEAD_ACTIVE_PCLK (h : Nat) : Nat := 0x1300810 + (h / 2) * 0x400000 + (h % 2) * 0x1000
/-- HEAD_LATCH, R182 of 08. -/
def HEAD_LATCH (h : Nat) : Nat := 0x1300014 + (h / 2) * 0x400000 + (h % 2) * 0x1000
/-- HEAD_ACTIVE_LATCH, R182 of 08. -/
def HEAD_ACTIVE_LATCH (h : Nat) : Nat := 0x1300814 + (h / 2) * 0x400000 + (h % 2) * 0x1000
/-- HEAD_VRR, R182 of 08. -/
def HEAD_VRR (h : Nat) : Nat := 0x1300018 + (h / 2) * 0x400000 + (h % 2) * 0x1000
/-- HEAD_ACTIVE_VRR, R182 of 08. -/
def HEAD_ACTIVE_VRR (h : Nat) : Nat := 0x1300818 + (h / 2) * 0x400000 + (h % 2) * 0x1000
/-- HEAD_OUT, R182 of 08. -/
def HEAD_OUT (h : Nat) : Nat := 0x130001C + (h / 2) * 0x400000 + (h % 2) * 0x1000
/-- HEAD_ACTIVE_OUT, R182 of 08. -/
def HEAD_ACTIVE_OUT (h : Nat) : Nat := 0x130081C + (h / 2) * 0x400000 + (h % 2) * 0x1000
/-- HEAD_HORIZON, R203 of 08. -/
def HEAD_HORIZON (h : Nat) : Nat := 0x1300040 + (h / 2) * 0x400000 + (h % 2) * 0x1000
/-- HEAD_SEC, R203 of 08. -/
def HEAD_SEC (h : Nat) : Nat := 0x1300044 + (h / 2) * 0x400000 + (h % 2) * 0x1000
/-- HEAD_TIMING_CHK, R203 of 08. -/
def HEAD_TIMING_CHK (h : Nat) : Nat := 0x130004C + (h / 2) * 0x400000 + (h % 2) * 0x1000
/-- HEAD_STATUS, R203 of 08. -/
def HEAD_STATUS (h : Nat) : Nat := 0x1300048 + (h / 2) * 0x400000 + (h % 2) * 0x1000
/-- HEAD_FRAME_LO, R203 of 08. -/
def HEAD_FRAME_LO (h : Nat) : Nat := 0x1300050 + (h / 2) * 0x400000 + (h % 2) * 0x1000
/-- HEAD_FRAME_HI, R203 of 08. -/
def HEAD_FRAME_HI (h : Nat) : Nat := 0x1300054 + (h / 2) * 0x400000 + (h % 2) * 0x1000
/-- HEAD_FLIP_LO, R203 of 08. -/
def HEAD_FLIP_LO (h : Nat) : Nat := 0x1300058 + (h / 2) * 0x400000 + (h % 2) * 0x1000
/-- HEAD_FLIP_HI, R203 of 08. -/
def HEAD_FLIP_HI (h : Nat) : Nat := 0x130005C + (h / 2) * 0x400000 + (h % 2) * 0x1000
/-- HEAD_EVENT, R203 of 08. -/
def HEAD_EVENT (h : Nat) : Nat := 0x1300060 + (h / 2) * 0x400000 + (h % 2) * 0x1000
/-- HEAD_EVENT_EN, R203 of 08. -/
def HEAD_EVENT_EN (h : Nat) : Nat := 0x1300064 + (h / 2) * 0x400000 + (h % 2) * 0x1000
/-- HEAD_UNDERRUN, R203 of 08. -/
def HEAD_UNDERRUN (h : Nat) : Nat := 0x1300068 + (h / 2) * 0x400000 + (h % 2) * 0x1000
/-- HEAD_SYNC, R203 of 08. -/
def HEAD_SYNC (h : Nat) : Nat := 0x130006C + (h / 2) * 0x400000 + (h % 2) * 0x1000
/-- HEAD_PSR, R203 of 08. -/
def HEAD_PSR (h : Nat) : Nat := 0x1300070 + (h / 2) * 0x400000 + (h % 2) * 0x1000
/-- HEAD_DSC, R203 of 08. -/
def HEAD_DSC (h : Nat) : Nat := 0x1300074 + (h / 2) * 0x400000 + (h % 2) * 0x1000
/-- HEAD_RC_ACT, R203 of 08. -/
def HEAD_RC_ACT (h : Nat) : Nat := 0x1300078 + (h / 2) * 0x400000 + (h % 2) * 0x1000
/-- HEAD_RC_POS, R203 of 08. -/
def HEAD_RC_POS (h : Nat) (k : Nat) : Nat := 0x1300100 + (h / 2) * 0x400000 + (h % 2) * 0x1000 + k * 0x20
/-- HEAD_RC_ACTIVE_POS, R191 of 08. -/
def HEAD_RC_ACTIVE_POS (h : Nat) (k : Nat) : Nat := 0x1300900 + (h / 2) * 0x400000 + (h % 2) * 0x1000 + k * 0x20
/-- HEAD_RC_SIZE, R203 of 08. -/
def HEAD_RC_SIZE (h : Nat) (k : Nat) : Nat := 0x1300104 + (h / 2) * 0x400000 + (h % 2) * 0x1000 + k * 0x20
/-- HEAD_RC_ACTIVE_SIZE, R191 of 08. -/
def HEAD_RC_ACTIVE_SIZE (h : Nat) (k : Nat) : Nat := 0x1300904 + (h / 2) * 0x400000 + (h % 2) * 0x1000 + k * 0x20
/-- HEAD_RC_EXP, R203 of 08. -/
def HEAD_RC_EXP (h : Nat) (k : Nat) : Nat := 0x1300108 + (h / 2) * 0x400000 + (h % 2) * 0x1000 + k * 0x20
/-- HEAD_RC_ACTIVE_EXP, R191 of 08. -/
def HEAD_RC_ACTIVE_EXP (h : Nat) (k : Nat) : Nat := 0x1300908 + (h / 2) * 0x400000 + (h % 2) * 0x1000 + k * 0x20
/-- HEAD_RC_CTL, R203 of 08. -/
def HEAD_RC_CTL (h : Nat) (k : Nat) : Nat := 0x130010C + (h / 2) * 0x400000 + (h % 2) * 0x1000 + k * 0x20
/-- HEAD_RC_ACTIVE_CTL, R191 of 08. -/
def HEAD_RC_ACTIVE_CTL (h : Nat) (k : Nat) : Nat := 0x130090C + (h / 2) * 0x400000 + (h % 2) * 0x1000 + k * 0x20
/-- HEAD_RC_GOT, R203 of 08. -/
def HEAD_RC_GOT (h : Nat) (k : Nat) : Nat := 0x1300300 + (h / 2) * 0x400000 + (h % 2) * 0x1000 + k * 0x8
/-- HEAD_RC_STAT, R203 of 08. -/
def HEAD_RC_STAT (h : Nat) (k : Nat) : Nat := 0x1300304 + (h / 2) * 0x400000 + (h % 2) * 0x1000 + k * 0x8
/-- DP_CTL, R204 of 08. -/
def DP_CTL (h : Nat) : Nat := 0x1302000 + (h / 2) * 0x400000 + (h % 2) * 0x100
/-- DP_STATUS, R204 of 08. -/
def DP_STATUS (h : Nat) : Nat := 0x1302008 + (h / 2) * 0x400000 + (h % 2) * 0x100
/-- DP_STREAM, R204 of 08. -/
def DP_STREAM (h : Nat) : Nat := 0x1302004 + (h / 2) * 0x400000 + (h % 2) * 0x100
/-- TCH_BUSY, R235 of 09. -/
def TCH_BUSY : Nat := 0xC00004
/-- TCH_HOLD_LIMIT, R235 of 09. -/
def TCH_HOLD_LIMIT : Nat := 0xC00008
/-- TCH_CFG, R235 of 09. -/
def TCH_CFG (n : Nat) : Nat := 0xC00100 + n * 0x40
/-- TCH_SCAN, R235 of 09. -/
def TCH_SCAN (n : Nat) : Nat := 0xC00104 + n * 0x40
/-- TCH_FREQ, R235 of 09. -/
def TCH_FREQ (n : Nat) : Nat := 0xC00108 + n * 0x40
/-- TCH_THRESH, R235 of 09. -/
def TCH_THRESH (n : Nat) : Nat := 0xC0010C + n * 0x40
/-- TCH_DRIFT, R235 of 09. -/
def TCH_DRIFT (n : Nat) : Nat := 0xC00110 + n * 0x40
/-- TCH_MAP_X, R235 of 09. -/
def TCH_MAP_X (n : Nat) : Nat := 0xC00114 + n * 0x40
/-- TCH_MAP_Y, R235 of 09. -/
def TCH_MAP_Y (n : Nat) : Nat := 0xC00118 + n * 0x40
/-- TCH_RPT, R235 of 09. -/
def TCH_RPT (n : Nat) : Nat := 0xC0011C + n * 0x40
/-- TCH_STORE, R235 of 09. -/
def TCH_STORE (n : Nat) : Nat := 0xC00120 + n * 0x40
/-- TCH_STATUS, R235 of 09. -/
def TCH_STATUS (n : Nat) : Nat := 0xC00124 + n * 0x40
/-- RO_CFG, R235 of 09. -/
def RO_CFG (n : Nat) : Nat := 0xC00400 + n * 0x10
/-- RO_TIME, R235 of 09. -/
def RO_TIME (n : Nat) : Nat := 0xC00404 + n * 0x10
/-- RO_FX, R235 of 09. -/
def RO_FX (n : Nat) : Nat := 0xC00408 + n * 0x10
/-- RO_STAT, R235 of 09. -/
def RO_STAT (n : Nat) : Nat := 0xC0040C + n * 0x10
/-- HAP_BUSY, R236 of 09. -/
def HAP_BUSY : Nat := 0xD00004
/-- HAP_CFG, R236 of 09. -/
def HAP_CFG (n : Nat) : Nat := 0xD00100 + n * 0x40
/-- HAP_LIMIT, R236 of 09. -/
def HAP_LIMIT (n : Nat) : Nat := 0xD00104 + n * 0x40
/-- HAP_THERM, R236 of 09. -/
def HAP_THERM (n : Nat) : Nat := 0xD00108 + n * 0x40
/-- HAP_RES, R236 of 09. -/
def HAP_RES (n : Nat) : Nat := 0xD0010C + n * 0x40
/-- HAP_RES2, R236 of 09. -/
def HAP_RES2 (n : Nat) : Nat := 0xD00110 + n * 0x40
/-- HAP_STATUS, R236 of 09. -/
def HAP_STATUS (n : Nat) : Nat := 0xD00114 + n * 0x40
/-- HAP_CAL, R236 of 09. -/
def HAP_CAL (n : Nat) : Nat := 0xD00118 + n * 0x40
/-- HAP_TRIG_CFG, R236 of 09. -/
def HAP_TRIG_CFG (n : Nat) : Nat := 0xD00400 + n * 0x10
/-- HAP_TRIG_TIME, R236 of 09. -/
def HAP_TRIG_TIME (n : Nat) : Nat := 0xD00404 + n * 0x10
/-- HAP_TRIG_STAT, R236 of 09. -/
def HAP_TRIG_STAT (n : Nat) : Nat := 0xD00408 + n * 0x10
/-- HAP_EFFECT_RAM, R228 of 09. -/
def HAP_EFFECT_RAM (w : Nat) : Nat := 0xD10000 + w * 0x4
/-- AUD_CTL, R261 of 10. -/
def AUD_CTL : Nat := 0xB00000
/-- AUD_STATUS, R261 of 10. -/
def AUD_STATUS : Nat := 0xB00008
/-- AUD_SWAP_TGT, R261 of 10. -/
def AUD_SWAP_TGT : Nat := 0xB0000C
/-- AUD_BUSY, R261 of 10. -/
def AUD_BUSY : Nat := 0xB00004
/-- AUD_SWAP_REQ, R261 of 10. -/
def AUD_SWAP_REQ : Nat := 0xB00010
/-- AUD_SWAP_BEAT, R261 of 10. -/
def AUD_SWAP_BEAT : Nat := 0xB00014
/-- AUD_SWAP_RES, R261 of 10. -/
def AUD_SWAP_RES : Nat := 0xB00018
/-- AUD_COPY, R261 of 10. -/
def AUD_COPY : Nat := 0xB0001C
/-- AUD_STORE, R261 of 10. -/
def AUD_STORE : Nat := 0xB00020
/-- AUD_GUARD, R261 of 10. -/
def AUD_GUARD (j : Nat) : Nat := 0xB00100 + j * 0x4
/-- AUD_TDM_CFG, R261 of 10. -/
def AUD_TDM_CFG (p : Nat) : Nat := 0xB00200 + p * 0x10
/-- AUD_TDM_STAT, R261 of 10. -/
def AUD_TDM_STAT (p : Nat) : Nat := 0xB00204 + p * 0x10
/-- AUD_MS_LO, R261 of 10. -/
def AUD_MS_LO (n : Nat) : Nat := 0xB00400 + n * 0x20
/-- AUD_MS_HI, R261 of 10. -/
def AUD_MS_HI (n : Nat) : Nat := 0xB00404 + n * 0x20
/-- AUD_MS_CFG, R261 of 10. -/
def AUD_MS_CFG (n : Nat) : Nat := 0xB00408 + n * 0x20
/-- AUD_MS_IDX, R261 of 10. -/
def AUD_MS_IDX (n : Nat) : Nat := 0xB0040C + n * 0x20
/-- AUD_MS_STAT, R261 of 10. -/
def AUD_MS_STAT (n : Nat) : Nat := 0xB00410 + n * 0x20
/-- AUD_MS_OWN, R261 of 10. -/
def AUD_MS_OWN (n : Nat) : Nat := 0xB00414 + n * 0x20
/-- AUD_MS_DEV, R261 of 10. -/
def AUD_MS_DEV (n : Nat) : Nat := 0xB00418 + n * 0x20
/-- AUD_MC_LO, R261 of 10. -/
def AUD_MC_LO (n : Nat) : Nat := 0xB00600 + n * 0x20
/-- AUD_MC_HI, R261 of 10. -/
def AUD_MC_HI (n : Nat) : Nat := 0xB00604 + n * 0x20
/-- AUD_MC_CFG, R261 of 10. -/
def AUD_MC_CFG (n : Nat) : Nat := 0xB00608 + n * 0x20
/-- AUD_MC_IDX, R261 of 10. -/
def AUD_MC_IDX (n : Nat) : Nat := 0xB0060C + n * 0x20
/-- AUD_MC_STAT, R261 of 10. -/
def AUD_MC_STAT (n : Nat) : Nat := 0xB00610 + n * 0x20
/-- AUD_MC_OWN, R261 of 10. -/
def AUD_MC_OWN (n : Nat) : Nat := 0xB00614 + n * 0x20
/-- AUD_MC_DEV, R261 of 10. -/
def AUD_MC_DEV (n : Nat) : Nat := 0xB00618 + n * 0x20
/-- AUD_GEN_CFG, R261 of 10. -/
def AUD_GEN_CFG (n : Nat) : Nat := 0xB00800 + n * 0x10
/-- AUD_SINK_STAT, R261 of 10. -/
def AUD_SINK_STAT (k : Nat) : Nat := 0xB01000 + k * 0x4
/-- AUD_PRESET, R252 of 10. -/
def AUD_PRESET (w : Nat) : Nat := 0xB08000 + w * 0x4
/-- AUD_NODE, R240 of 10. -/
def AUD_NODE (bk : Nat) (w : Nat) : Nat := 0xB10000 + bk * 0x10000 + w * 0x4
/-- AUD_SINKBLK, R260 of 10. -/
def AUD_SINKBLK (bk : Nat) (w : Nat) : Nat := 0xB30000 + bk * 0x4000 + w * 0x4
/-- MEM_CFG, R290 of 11. -/
def MEM_CFG : Nat := 0x800000
/-- MEM_PNR, R290 of 11. -/
def MEM_PNR : Nat := 0x800004
/-- MEM_PNR_CNT, R290 of 11. -/
def MEM_PNR_CNT : Nat := 0x800008
/-- MEM_SCAN, R290 of 11. -/
def MEM_SCAN : Nat := 0x80000C
/-- MEM_QOS, R290 of 11. -/
def MEM_QOS (p : Nat) : Nat := 0x800100 + p * 0x4
/-- MEM_LAT, R290 of 11. -/
def MEM_LAT (p : Nat) : Nat := 0x800180 + p * 0x4
/-- MEM_TRAIN, R290 of 11. -/
def MEM_TRAIN : Nat := 0x800200
/-- MEM_TRAIN_FULL, R290 of 11. -/
def MEM_TRAIN_FULL : Nat := 0x800204
/-- SC_CLASS_CFG, R291 of 11. -/
def SC_CLASS_CFG (i : Nat) : Nat := 0x900100 + i * 0x4
/-- SC_BANK_HIT, R291 of 11. -/
def SC_BANK_HIT (b : Nat) : Nat := 0x900200 + b * 0x8
/-- SC_BANK_MISS, R291 of 11. -/
def SC_BANK_MISS (b : Nat) : Nat := 0x900204 + b * 0x8
/-- CPY_STAT, R292 of 11. -/
def CPY_STAT (n : Nat) : Nat := 0xA00000 + n * 0x10
/-- CPY_CHAIN_LO, R292 of 11. -/
def CPY_CHAIN_LO (n : Nat) : Nat := 0xA00004 + n * 0x10
/-- CPY_CHAIN_HI, R292 of 11. -/
def CPY_CHAIN_HI (n : Nat) : Nat := 0xA00008 + n * 0x10
/-- INST_MED_ARG, R319 of 12. -/
def INST_MED_ARG (j : Nat) : Nat := 0x600000 + j * 0x4
/-- INST_MED_CALL, R319 of 12. -/
def INST_MED_CALL : Nat := 0x600018
/-- INST_MED_STAT, R319 of 12. -/
def INST_MED_STAT : Nat := 0x60001C
/-- INST_STATE, R319 of 12. -/
def INST_STATE (i : Nat) : Nat := 0x601000 + i * 0x40
/-- INST_SHARE, R319 of 12. -/
def INST_SHARE (i : Nat) : Nat := 0x601004 + i * 0x40
/-- INST_RATE, R319 of 12. -/
def INST_RATE (i : Nat) : Nat := 0x601008 + i * 0x40
/-- INST_QUOTA, R319 of 12. -/
def INST_QUOTA (i : Nat) : Nat := 0x60100C + i * 0x40
/-- INST_CREDIT, R319 of 12. -/
def INST_CREDIT (i : Nat) (c : Nat) : Nat := 0x601010 + i * 0x40 + c * 0x4
/-- INST_REBASE_LO, R319 of 12. -/
def INST_REBASE_LO (i : Nat) : Nat := 0x601020 + i * 0x40
/-- INST_REBASE_HI, R319 of 12. -/
def INST_REBASE_HI (i : Nat) : Nat := 0x601024 + i * 0x40
/-- INST_DLOG, R319 of 12. -/
def INST_DLOG (i : Nat) : Nat := 0x601028 + i * 0x40
/-- WLD_STATUS, R320 of 12. -/
def WLD_STATUS : Nat := 0x500000
/-- WLD_HO_STAT, R320 of 12. -/
def WLD_HO_STAT : Nat := 0x500004
/-- WLD_DBG, R320 of 12. -/
def WLD_DBG : Nat := 0x500010
/-- WLD_ENC_LO, R320 of 12. -/
def WLD_ENC_LO (e : Nat) : Nat := 0x500100 + e * 0x10
/-- WLD_ENC_HI, R320 of 12. -/
def WLD_ENC_HI (e : Nat) : Nat := 0x500104 + e * 0x10
/-- WLD_ENC_CFG, R320 of 12. -/
def WLD_ENC_CFG (e : Nat) : Nat := 0x500108 + e * 0x10
/-- WLD_LOCK_WORLD, R320 of 12. -/
def WLD_LOCK_WORLD (w : Nat) : Nat := 0x500400 + w * 0x4
/-- WLD_LOCK_STAT, R320 of 12. -/
def WLD_LOCK_STAT (k : Nat) : Nat := 0x501000 + k * 0x8
/-- WLD_LOCK_CMD, R320 of 12. -/
def WLD_LOCK_CMD (k : Nat) : Nat := 0x501004 + k * 0x8
/-- SEED_BUSY, R344 of 13. -/
def SEED_BUSY : Nat := 0x400004
/-- SEED_STATUS, R344 of 13. -/
def SEED_STATUS : Nat := 0x400008
/-- SEED_SPARE, R344 of 13. -/
def SEED_SPARE : Nat := 0x40000C
/-- SEED_LASTRES_0, R344 of 13. -/
def SEED_LASTRES_0 : Nat := 0x400010
/-- SEED_LASTRES_1, R344 of 13. -/
def SEED_LASTRES_1 : Nat := 0x400014
/-- SEED_HOUR, R344 of 13. -/
def SEED_HOUR (m : Nat) : Nat := 0x400020 + m * 0x4
/-- SEED_LOG, R344 of 13. -/
def SEED_LOG : Nat := 0x400030
/-- SEED_SCRUB, R344 of 13. -/
def SEED_SCRUB : Nat := 0x400034
/-- SEED_REC_SRC_LO, R344 of 13. -/
def SEED_REC_SRC_LO : Nat := 0x400040
/-- SEED_REC_SRC_HI, R344 of 13. -/
def SEED_REC_SRC_HI : Nat := 0x400044
/-- SEED_REC_CMD, R344 of 13. -/
def SEED_REC_CMD : Nat := 0x400048
/-- SEED_WIN, R344 of 13. -/
def SEED_WIN : Nat := 0x400050
/-- FLT_CFGCRC_REF, R366 of 14. -/
def FLT_CFGCRC_REF : Nat := 0x300000
/-- FLT_CFGCRC_COMMIT, R366 of 14. -/
def FLT_CFGCRC_COMMIT : Nat := 0x300004
/-- FLT_CFGCRC_CUR, R366 of 14. -/
def FLT_CFGCRC_CUR : Nat := 0x300008
/-- FLT_CFGCRC_CTL, R366 of 14. -/
def FLT_CFGCRC_CTL : Nat := 0x30000C
/-- FLT_CFGCRC_MASK, R366 of 14. -/
def FLT_CFGCRC_MASK : Nat := 0x300010
/-- FLT_CFGCRC_STAT, R366 of 14. -/
def FLT_CFGCRC_STAT : Nat := 0x300014
/-- FLT_LOG_MASK, R366 of 14. -/
def FLT_LOG_MASK : Nat := 0x300020
/-- FLT_SSQ, R366 of 14. -/
def FLT_SSQ : Nat := 0x300030
/-- FLT_BRIDGE, R366 of 14. -/
def FLT_BRIDGE : Nat := 0x300034
/-- FLT_RING_LO, R366 of 14. -/
def FLT_RING_LO (i : Nat) : Nat := 0x300100 + i * 0x10
/-- FLT_RING_HI, R366 of 14. -/
def FLT_RING_HI (i : Nat) : Nat := 0x300104 + i * 0x10
/-- FLT_RING_CFG, R366 of 14. -/
def FLT_RING_CFG (i : Nat) : Nat := 0x300108 + i * 0x10
/-- FLT_RING_PROD, R366 of 14. -/
def FLT_RING_PROD (i : Nat) : Nat := 0x30010C + i * 0x10
/-- FLT_COUNT, R366 of 14. -/
def FLT_COUNT (c : Nat) : Nat := 0x300404 + c * 0x4
/-- PWR_BUSY, R382 of 15. -/
def PWR_BUSY : Nat := 0x200004
/-- PWR_STATE, R382 of 15. -/
def PWR_STATE : Nat := 0x200000
/-- PWR_WAKE_EN, R382 of 15. -/
def PWR_WAKE_EN : Nat := 0x200008
/-- PWR_WAKE, R382 of 15. -/
def PWR_WAKE : Nat := 0x20000C
/-- PWR_VOTE, R382 of 15. -/
def PWR_VOTE (c : Nat) : Nat := 0x200010 + c * 0x4
/-- PWR_DOM, R382 of 15. -/
def PWR_DOM (d : Nat) : Nat := 0x200040 + d * 0x4
/-- PWR_DVFS, R382 of 15. -/
def PWR_DVFS (n : Nat) : Nat := 0x200080 + n * 0x4
/-- PWR_I3C0_CFG, R382 of 15. -/
def PWR_I3C0_CFG : Nat := 0x200100
/-- PWR_I3C0_IN, R382 of 15. -/
def PWR_I3C0_IN : Nat := 0x200104
/-- PWR_I3C0_OUT, R382 of 15. -/
def PWR_I3C0_OUT : Nat := 0x200108
/-- PWR_I3C1_CMD, R382 of 15. -/
def PWR_I3C1_CMD : Nat := 0x200110
/-- PWR_I3C1_DATA, R382 of 15. -/
def PWR_I3C1_DATA : Nat := 0x200114
/-- WFT_MESH, R407 of 16. -/
def WFT_MESH : Nat := 0xE00000
/-- WFT_STATUS, R407 of 16. -/
def WFT_STATUS : Nat := 0xE00004
/-- WFT_FMAP, R407 of 16. -/
def WFT_FMAP (j : Nat) : Nat := 0xE00010 + j * 0x4
/-- WFT_LINK_CTL, R407 of 16. -/
def WFT_LINK_CTL (n : Nat) : Nat := 0xE00100 + n * 0x10
/-- WFT_LINK_STAT, R407 of 16. -/
def WFT_LINK_STAT (n : Nat) : Nat := 0xE00104 + n * 0x10
/-- WFT_BEAT_CFG, R407 of 16. -/
def WFT_BEAT_CFG : Nat := 0xE00200
/-- WFT_BEAT_STAT, R407 of 16. -/
def WFT_BEAT_STAT : Nat := 0xE00204
/-- WFT_BEAT_SLIP, R407 of 16. -/
def WFT_BEAT_SLIP : Nat := 0xE00208
/-- WFT_FLOCK_CFG, R407 of 16. -/
def WFT_FLOCK_CFG : Nat := 0xE00300
/-- WFT_FLOCK_PERIOD, R407 of 16. -/
def WFT_FLOCK_PERIOD : Nat := 0xE00304
/-- WFT_FLOCK_FRAME, R407 of 16. -/
def WFT_FLOCK_FRAME : Nat := 0xE00308
/-- WFT_HEAD_WALL, R407 of 16. -/
def WFT_HEAD_WALL (n : Nat) : Nat := 0xE00320 + n * 0x4
/-- WFT_WIN_CFG, R407 of 16. -/
def WFT_WIN_CFG (k : Nat) : Nat := 0xE00400 + k * 0x10
/-- WFT_WIN_BASE_LO, R407 of 16. -/
def WFT_WIN_BASE_LO (k : Nat) : Nat := 0xE00404 + k * 0x10
/-- WFT_WIN_BASE_HI, R407 of 16. -/
def WFT_WIN_BASE_HI (k : Nat) : Nat := 0xE00408 + k * 0x10
/-- WFT_BC_SRC_LO, R407 of 16. -/
def WFT_BC_SRC_LO : Nat := 0xE00500
/-- WFT_BC_SRC_HI, R407 of 16. -/
def WFT_BC_SRC_HI : Nat := 0xE00504
/-- WFT_BC_DST_LO, R407 of 16. -/
def WFT_BC_DST_LO : Nat := 0xE00508
/-- WFT_BC_DST_HI, R407 of 16. -/
def WFT_BC_DST_HI : Nat := 0xE0050C
/-- WFT_BC_LEN, R407 of 16. -/
def WFT_BC_LEN : Nat := 0xE00510
/-- WFT_BC_MASK_LO, R407 of 16. -/
def WFT_BC_MASK_LO : Nat := 0xE00514
/-- WFT_BC_MASK_HI, R407 of 16. -/
def WFT_BC_MASK_HI : Nat := 0xE00518
/-- WFT_BC_CMD, R407 of 16. -/
def WFT_BC_CMD : Nat := 0xE0051C
/-- WFT_BC_FAIL_LO, R407 of 16. -/
def WFT_BC_FAIL_LO : Nat := 0xE00520
/-- WFT_BC_FAIL_HI, R407 of 16. -/
def WFT_BC_FAIL_HI : Nat := 0xE00524
/-- HIF_CTL, R421 of 17. -/
def HIF_CTL : Nat := 0x700000
/-- GLB_ID, R425 of 17. -/
def GLB_ID : Nat := 0x0
/-- GLB_BUSY, R425 of 17. -/
def GLB_BUSY : Nat := 0x4
/-- GLB_MODE, R425 of 17. -/
def GLB_MODE : Nat := 0x8
/-- GLB_STATUS, R425 of 17. -/
def GLB_STATUS : Nat := 0xC
/-- GLB_POSTERR, R425 of 17. -/
def GLB_POSTERR : Nat := 0x10
/-- GLB_RST, R425 of 17. -/
def GLB_RST : Nat := 0x20
/-- GLB_RST_G, R425 of 17. -/
def GLB_RST_G : Nat := 0x24
/-- GLB_LPW_BASE, R425 of 17. -/
def GLB_LPW_BASE : Nat := 0x30
/-- GLB_INTPIN, R425 of 17. -/
def GLB_INTPIN : Nat := 0x8000
/-- GLB_BOOT, R479 of 20. -/
def GLB_BOOT : Nat := 0x40
/-- GLB_BOOT_IMG_LO, R479 of 20. -/
def GLB_BOOT_IMG_LO : Nat := 0x44
/-- GLB_BOOT_IMG_HI, R479 of 20. -/
def GLB_BOOT_IMG_HI : Nat := 0x48
/-- GLB_BOOT_CMD, R479 of 20. -/
def GLB_BOOT_CMD : Nat := 0x4C
/-- UDC_ID, R432 of 18. -/
def UDC_ID : Nat := 0x80000000
/-- UDC_STAT, R432 of 18. -/
def UDC_STAT : Nat := 0x80000004
/-- UDC_CTL, R432 of 18. -/
def UDC_CTL : Nat := 0x80000008
/-- UDC_INT_STAT, R432 of 18. -/
def UDC_INT_STAT : Nat := 0x80000010
/-- UDC_INT_EN, R432 of 18. -/
def UDC_INT_EN : Nat := 0x80000014
/-- UDC_RST, R432 of 18. -/
def UDC_RST : Nat := 0x80000020
/-- UDC_RST_G, R431 of 18. -/
def UDC_RST_G : Nat := 0x80000024
/-- UDC_PWR, R432 of 18. -/
def UDC_PWR : Nat := 0x80000028
/-- UDC_PWR_G, R431 of 18. -/
def UDC_PWR_G : Nat := 0x8000002C
/-- UDC_H_CTL, R432 of 18. -/
def UDC_H_CTL (h : Nat) : Nat := 0x80001000 + h * 0x400
/-- UDC_H_HTIME, R432 of 18. -/
def UDC_H_HTIME (h : Nat) : Nat := 0x80001004 + h * 0x400
/-- UDC_H_HSYNC, R432 of 18. -/
def UDC_H_HSYNC (h : Nat) : Nat := 0x80001008 + h * 0x400
/-- UDC_H_VTIME, R432 of 18. -/
def UDC_H_VTIME (h : Nat) : Nat := 0x8000100C + h * 0x400
/-- UDC_H_VSYNC, R432 of 18. -/
def UDC_H_VSYNC (h : Nat) : Nat := 0x80001010 + h * 0x400
/-- UDC_H_PCLK, R432 of 18. -/
def UDC_H_PCLK (h : Nat) : Nat := 0x80001014 + h * 0x400
/-- UDC_H_BG, R432 of 18. -/
def UDC_H_BG (h : Nat) : Nat := 0x80001018 + h * 0x400
/-- UDC_H_FRAME, R432 of 18. -/
def UDC_H_FRAME (h : Nat) : Nat := 0x800011F0 + h * 0x400
/-- UDC_P_CTL, R432 of 18. -/
def UDC_P_CTL (h : Nat) (p : Nat) : Nat := 0x80001040 + h * 0x400 + p * 0x20
/-- UDC_P_POS, R432 of 18. -/
def UDC_P_POS (h : Nat) (p : Nat) : Nat := 0x80001044 + h * 0x400 + p * 0x20
/-- UDC_P_SIZE, R432 of 18. -/
def UDC_P_SIZE (h : Nat) (p : Nat) : Nat := 0x80001048 + h * 0x400 + p * 0x20
/-- UDC_P_ADDR, R432 of 18. -/
def UDC_P_ADDR (h : Nat) (p : Nat) : Nat := 0x8000104C + h * 0x400 + p * 0x20
/-- UDC_P_PITCH, R432 of 18. -/
def UDC_P_PITCH (h : Nat) (p : Nat) : Nat := 0x80001050 + h * 0x400 + p * 0x20
/-- UDC_P_KEY, R432 of 18. -/
def UDC_P_KEY (h : Nat) (p : Nat) : Nat := 0x80001054 + h * 0x400 + p * 0x20
/-- UDC_P_CUR, R432 of 18. -/
def UDC_P_CUR (h : Nat) (p : Nat) : Nat := 0x80001058 + h * 0x400 + p * 0x20
/-- UDC_R_POS, R432 of 18. -/
def UDC_R_POS (h : Nat) (r : Nat) : Nat := 0x80001100 + h * 0x400 + r * 0x20
/-- UDC_R_SIZE, R432 of 18. -/
def UDC_R_SIZE (h : Nat) (r : Nat) : Nat := 0x80001104 + h * 0x400 + r * 0x20
/-- UDC_R_EXP, R432 of 18. -/
def UDC_R_EXP (h : Nat) (r : Nat) : Nat := 0x80001108 + h * 0x400 + r * 0x20
/-- UDC_R_CTL, R432 of 18. -/
def UDC_R_CTL (h : Nat) (r : Nat) : Nat := 0x8000110C + h * 0x400 + r * 0x20
/-- UDC_R_GOT, R432 of 18. -/
def UDC_R_GOT (h : Nat) (r : Nat) : Nat := 0x80001110 + h * 0x400 + r * 0x20
/-- UDC_BLT_SRC, R432 of 18. -/
def UDC_BLT_SRC : Nat := 0x80008000
/-- UDC_BLT_DST, R432 of 18. -/
def UDC_BLT_DST : Nat := 0x80008004
/-- UDC_BLT_PITCH, R432 of 18. -/
def UDC_BLT_PITCH : Nat := 0x80008008
/-- UDC_BLT_SIZE, R432 of 18. -/
def UDC_BLT_SIZE : Nat := 0x8000800C
/-- UDC_BLT_FILL, R432 of 18. -/
def UDC_BLT_FILL : Nat := 0x80008010
/-- UDC_BLT_CTL, R432 of 18. -/
def UDC_BLT_CTL : Nat := 0x80008014
/-- UDC_MIX_CTL, R432 of 18. -/
def UDC_MIX_CTL : Nat := 0x8000A000
/-- UDC_MIX, R432 of 18. -/
def UDC_MIX (o : Nat) (j : Nat) : Nat := 0x8000A100 + o * 0x20 + j * 0x4
/-- UDC_CHM_FREQ, R432 of 18. -/
def UDC_CHM_FREQ (c : Nat) : Nat := 0x8000B000 + c * 0x10
/-- UDC_CHM_TIME, R432 of 18. -/
def UDC_CHM_TIME (c : Nat) : Nat := 0x8000B004 + c * 0x10
/-- UDC_CHM_CTL, R432 of 18. -/
def UDC_CHM_CTL (c : Nat) : Nat := 0x8000B008 + c * 0x10
/-- UDC_TCH_CTL, R432 of 18. -/
def UDC_TCH_CTL (p : Nat) : Nat := 0x8000C000 + p * 0x100
/-- UDC_TCH_FIFO, R432 of 18. -/
def UDC_TCH_FIFO (p : Nat) : Nat := 0x8000C004 + p * 0x100
/-- UDC_TCH_STAT, R432 of 18. -/
def UDC_TCH_STAT (p : Nat) : Nat := 0x8000C008 + p * 0x100

def BEAT_CTL_source : Fld := ⟨BEAT_CTL, 1, 0⟩
def BEAT_PERIOD_samples : Fld := ⟨BEAT_PERIOD, 7, 0⟩
def BEAT_STATUS_budget_clamped : Fld := ⟨BEAT_STATUS, 6, 6⟩
def BEAT_STATUS_weft_locked : Fld := ⟨BEAT_STATUS, 5, 5⟩
def BEAT_STATUS_source_active : Fld := ⟨BEAT_STATUS, 4, 3⟩
def BEAT_STATUS_amclk_lost : Fld := ⟨BEAT_STATUS, 2, 2⟩
def BEAT_STATUS_bad_period : Fld := ⟨BEAT_STATUS, 1, 1⟩
def BEAT_STATUS_holdover : Fld := ⟨BEAT_STATUS, 0, 0⟩
def BEAT_NOW_LO_time_lo : Fld := ⟨BEAT_NOW_LO, 31, 0⟩
def BEAT_NOW_HI_time_hi : Fld := ⟨BEAT_NOW_HI, 31, 0⟩
def BEAT_LAST_TICKS_ticks : Fld := ⟨BEAT_LAST_TICKS, 21, 0⟩
def BEAT_FALLOW_start : Fld := ⟨BEAT_FALLOW, 21, 0⟩
def BEAT_PRED_ticks : Fld := ⟨BEAT_PRED, 21, 0⟩
def BEAT_HEAD_LATCH_beats (n : Nat) : Fld := ⟨BEAT_HEAD_LATCH n, 31, 22⟩
def BEAT_HEAD_LATCH_stick (n : Nat) : Fld := ⟨BEAT_HEAD_LATCH n, 21, 0⟩
def BEAT_HEAD_CUTOFF_beats (n : Nat) : Fld := ⟨BEAT_HEAD_CUTOFF n, 31, 22⟩
def BEAT_HEAD_CUTOFF_stick (n : Nat) : Fld := ⟨BEAT_HEAD_CUTOFF n, 21, 0⟩
def BEAT_HEAD_LATEPOL_policy (n : Nat) : Fld := ⟨BEAT_HEAD_LATEPOL n, 1, 0⟩
def BEAT_CH_PICKSTAT_overstay (n : Nat) : Fld := ⟨BEAT_CH_PICKSTAT n, 31, 24⟩
def BEAT_CH_PICKSTAT_worst (n : Nat) : Fld := ⟨BEAT_CH_PICKSTAT n, 23, 0⟩
def BEAT_SQ_BUDGET_policy (n : Nat) : Fld := ⟨BEAT_SQ_BUDGET n, 25, 24⟩
def BEAT_SQ_BUDGET_cycles (n : Nat) : Fld := ⟨BEAT_SQ_BUDGET n, 21, 0⟩
def BEAT_SQ_LAST_cycles (n : Nat) : Fld := ⟨BEAT_SQ_LAST n, 21, 0⟩
def BEAT_SQ_OVR_skipped (n : Nat) : Fld := ⟨BEAT_SQ_OVR n, 31, 16⟩
def BEAT_SQ_OVR_overruns (n : Nat) : Fld := ⟨BEAT_SQ_OVR n, 15, 0⟩
def CSQ_CTL_restart (sq : Nat) : Fld := ⟨CSQ_CTL sq, 1, 1⟩
def CSQ_CTL_run (sq : Nat) : Fld := ⟨CSQ_CTL sq, 0, 0⟩
def CSQ_STATUS_last_cause (sq : Nat) : Fld := ⟨CSQ_STATUS sq, 15, 8⟩
def CSQ_STATUS_image_valid (sq : Nat) : Fld := ⟨CSQ_STATUS sq, 4, 4⟩
def CSQ_STATUS_sleeping (sq : Nat) : Fld := ⟨CSQ_STATUS sq, 3, 3⟩
def CSQ_STATUS_in_trap (sq : Nat) : Fld := ⟨CSQ_STATUS sq, 2, 2⟩
def CSQ_STATUS_halted (sq : Nat) : Fld := ⟨CSQ_STATUS sq, 1, 1⟩
def CSQ_STATUS_running (sq : Nat) : Fld := ⟨CSQ_STATUS sq, 0, 0⟩
def CSQ_TRAP_PC_pc (sq : Nat) : Fld := ⟨CSQ_TRAP_PC sq, 31, 0⟩
def CSQ_TRAP_VAL_value (sq : Nat) : Fld := ⟨CSQ_TRAP_VAL sq, 31, 0⟩
def CSQ_IMG_LO_addr_lo (sq : Nat) : Fld := ⟨CSQ_IMG_LO sq, 31, 12⟩
def CSQ_IMG_HI_addr_hi (sq : Nat) : Fld := ⟨CSQ_IMG_HI sq, 31, 0⟩
def CSQ_LOAD_pending (sq : Nat) : Fld := ⟨CSQ_LOAD sq, 16, 16⟩
def CSQ_LOAD_result (sq : Nat) : Fld := ⟨CSQ_LOAD sq, 15, 8⟩
def CSQ_LOAD_go (sq : Nat) : Fld := ⟨CSQ_LOAD sq, 0, 0⟩
def CSQ_MAIL_message (sq : Nat) : Fld := ⟨CSQ_MAIL sq, 31, 0⟩
def CSQ_VOTE_domains (ch : Nat) : Fld := ⟨CSQ_VOTE ch, 10, 2⟩
def INST_Q_BASE_LO_addr_lo (i : Nat) (q : Nat) : Fld := ⟨INST_Q_BASE_LO i q, 31, 12⟩
def INST_Q_BASE_HI_addr_hi (i : Nat) (q : Nat) : Fld := ⟨INST_Q_BASE_HI i q, 31, 0⟩
def INST_Q_CFG_enable (i : Nat) (q : Nat) : Fld := ⟨INST_Q_CFG i q, 31, 31⟩
def INST_Q_CFG_log2_size (i : Nat) (q : Nat) : Fld := ⟨INST_Q_CFG i q, 4, 0⟩
def INST_Q_DOORBELL_prod (i : Nat) (q : Nat) : Fld := ⟨INST_Q_DOORBELL i q, 16, 0⟩
def INST_Q_CONS_cons (i : Nat) (q : Nat) : Fld := ⟨INST_Q_CONS i q, 16, 0⟩
def INST_Q_STATUS_cfg_err (i : Nat) (q : Nat) : Fld := ⟨INST_Q_STATUS i q, 1, 1⟩
def INST_Q_STATUS_bad_doorbell (i : Nat) (q : Nat) : Fld := ⟨INST_Q_STATUS i q, 0, 0⟩
def INST_HRV_BASE_LO_addr_lo (i : Nat) : Fld := ⟨INST_HRV_BASE_LO i, 31, 12⟩
def INST_HRV_BASE_HI_addr_hi (i : Nat) : Fld := ⟨INST_HRV_BASE_HI i, 31, 0⟩
def INST_HRV_CFG_enable (i : Nat) : Fld := ⟨INST_HRV_CFG i, 31, 31⟩
def INST_HRV_CFG_log2_size (i : Nat) : Fld := ⟨INST_HRV_CFG i, 4, 0⟩
def INST_HRV_CONS_cons (i : Nat) : Fld := ⟨INST_HRV_CONS i, 16, 0⟩
def INST_HRV_PROD_prod (i : Nat) : Fld := ⟨INST_HRV_PROD i, 16, 0⟩
def INST_HRV_IRQ_enable (i : Nat) : Fld := ⟨INST_HRV_IRQ i, 31, 31⟩
def INST_HRV_IRQ_beats (i : Nat) : Fld := ⟨INST_HRV_IRQ i, 23, 16⟩
def INST_HRV_IRQ_count (i : Nat) : Fld := ⟨INST_HRV_IRQ i, 15, 0⟩
def INST_HRV_STATUS_admit_stall (i : Nat) : Fld := ⟨INST_HRV_STATUS i, 3, 3⟩
def INST_HRV_STATUS_write_fault (i : Nat) : Fld := ⟨INST_HRV_STATUS i, 2, 2⟩
def INST_HRV_STATUS_bad_cons (i : Nat) : Fld := ⟨INST_HRV_STATUS i, 1, 1⟩
def INST_HRV_STATUS_cfg_err (i : Nat) : Fld := ⟨INST_HRV_STATUS i, 0, 0⟩
def RAS_CTL_reserve0 (ch : Nat) : Fld := ⟨RAS_CTL ch, 0, 0⟩
def RAS_STATUS_cfg_err (ch : Nat) : Fld := ⟨RAS_STATUS ch, 2, 2⟩
def RAS_STATUS_rpj_running (ch : Nat) : Fld := ⟨RAS_STATUS ch, 1, 1⟩
def RAS_STATUS_ctx_running (ch : Nat) : Fld := ⟨RAS_STATUS ch, 0, 0⟩
def RAS_SLOT_LO_addr_lo (ch : Nat) : Fld := ⟨RAS_SLOT_LO ch, 31, 16⟩
def RAS_SLOT_HI_addr_hi (ch : Nat) : Fld := ⟨RAS_SLOT_HI ch, 31, 0⟩
def RAS_SLOT_CFG_count (ch : Nat) : Fld := ⟨RAS_SLOT_CFG ch, 13, 8⟩
def RAS_SLOT_CFG_size_mib (ch : Nat) : Fld := ⟨RAS_SLOT_CFG ch, 7, 0⟩
def RAS_SLOT_FREE_free (ch : Nat) : Fld := ⟨RAS_SLOT_FREE ch, 5, 0⟩
def RAS_CTXPOOL_LO_addr_lo (ch : Nat) : Fld := ⟨RAS_CTXPOOL_LO ch, 31, 16⟩
def RAS_CTXPOOL_HI_addr_hi (ch : Nat) : Fld := ⟨RAS_CTXPOOL_HI ch, 31, 0⟩
def RAS_CTXPOOL_SIZE_size_mib (ch : Nat) : Fld := ⟨RAS_CTXPOOL_SIZE ch, 7, 0⟩
def RAS_CTX_LIMIT_ticks (ch : Nat) : Fld := ⟨RAS_CTX_LIMIT ch, 21, 0⟩
def RAS_PIN_LO_addr_lo (ch : Nat) : Fld := ⟨RAS_PIN_LO ch, 31, 16⟩
def RAS_PIN_HI_addr_hi (ch : Nat) : Fld := ⟨RAS_PIN_HI ch, 31, 0⟩
def RAS_PIN_SIZE_inst (ch : Nat) : Fld := ⟨RAS_PIN_SIZE ch, 12, 8⟩
def RAS_PIN_SIZE_size (ch : Nat) : Fld := ⟨RAS_PIN_SIZE ch, 3, 0⟩
def RAS_TRAV_LIMIT_wave_steps (ch : Nat) : Fld := ⟨RAS_TRAV_LIMIT ch, 31, 16⟩
def RAS_TRAV_LIMIT_seq_steps (ch : Nat) : Fld := ⟨RAS_TRAV_LIMIT ch, 15, 0⟩
def RAS_TRAV_STAT_malformed (ch : Nat) : Fld := ⟨RAS_TRAV_STAT ch, 31, 16⟩
def RAS_TRAV_STAT_limit_hits (ch : Nat) : Fld := ⟨RAS_TRAV_STAT ch, 15, 0⟩
def RAS_CMD_ERR_POS_offset (ch : Nat) : Fld := ⟨RAS_CMD_ERR_POS ch, 31, 0⟩
def RAS_CMD_ERR_SRC_valid (ch : Nat) : Fld := ⟨RAS_CMD_ERR_SRC ch, 31, 31⟩
def RAS_CMD_ERR_SRC_queue (ch : Nat) : Fld := ⟨RAS_CMD_ERR_SRC ch, 19, 16⟩
def RAS_CMD_ERR_SRC_inst (ch : Nat) : Fld := ⟨RAS_CMD_ERR_SRC ch, 12, 8⟩
def RAS_CMD_ERR_SRC_op (ch : Nat) : Fld := ⟨RAS_CMD_ERR_SRC ch, 7, 0⟩
def RAS_OVF_TOTAL_count (ch : Nat) : Fld := ⟨RAS_OVF_TOTAL ch, 31, 0⟩
def RAS_RPJ_CFG_lead (ch : Nat) (m : Nat) : Fld := ⟨RAS_RPJ_CFG ch m, 31, 20⟩
def RAS_RPJ_CFG_clusters (ch : Nat) (m : Nat) : Fld := ⟨RAS_RPJ_CFG ch m, 19, 8⟩
def RAS_RPJ_CFG_depth_en (ch : Nat) (m : Nat) : Fld := ⟨RAS_RPJ_CFG ch m, 7, 7⟩
def RAS_RPJ_CFG_layer (ch : Nat) (m : Nat) : Fld := ⟨RAS_RPJ_CFG ch m, 3, 0⟩
def RAS_RPJ_VIEW_LO_addr_lo (ch : Nat) (m : Nat) : Fld := ⟨RAS_RPJ_VIEW_LO ch m, 31, 6⟩
def RAS_RPJ_VIEW_HI_addr_hi (ch : Nat) (m : Nat) : Fld := ⟨RAS_RPJ_VIEW_HI ch m, 31, 0⟩
def RAS_RPJ_TGT0_LO_addr_lo (ch : Nat) (m : Nat) : Fld := ⟨RAS_RPJ_TGT0_LO ch m, 31, 12⟩
def RAS_RPJ_TGT0_HI_addr_hi (ch : Nat) (m : Nat) : Fld := ⟨RAS_RPJ_TGT0_HI ch m, 31, 0⟩
def RAS_RPJ_TGT1_LO_addr_lo (ch : Nat) (m : Nat) : Fld := ⟨RAS_RPJ_TGT1_LO ch m, 31, 12⟩
def RAS_RPJ_TGT1_HI_addr_hi (ch : Nat) (m : Nat) : Fld := ⟨RAS_RPJ_TGT1_HI ch m, 31, 0⟩
def RAS_RPJ_DEPTH_LO_addr_lo (ch : Nat) (m : Nat) : Fld := ⟨RAS_RPJ_DEPTH_LO ch m, 31, 12⟩
def RAS_RPJ_DEPTH_HI_addr_hi (ch : Nat) (m : Nat) : Fld := ⟨RAS_RPJ_DEPTH_HI ch m, 31, 0⟩
def RAS_RPJ_FILL_colour (ch : Nat) (m : Nat) : Fld := ⟨RAS_RPJ_FILL ch m, 31, 0⟩
def RAS_RPJ_AGE_plane (ch : Nat) (m : Nat) : Fld := ⟨RAS_RPJ_AGE ch m, 31, 8⟩
def RAS_RPJ_AGE_max_age (ch : Nat) (m : Nat) : Fld := ⟨RAS_RPJ_AGE ch m, 7, 0⟩
def RAS_RPJ_STAT_cfg_err (ch : Nat) (m : Nat) : Fld := ⟨RAS_RPJ_STAT ch m, 31, 31⟩
def RAS_RPJ_STAT_late (ch : Nat) (m : Nat) : Fld := ⟨RAS_RPJ_STAT ch m, 30, 24⟩
def RAS_RPJ_STAT_stale (ch : Nat) (m : Nat) : Fld := ⟨RAS_RPJ_STAT ch m, 23, 16⟩
def RAS_RPJ_STAT_superseded (ch : Nat) (m : Nat) : Fld := ⟨RAS_RPJ_STAT ch m, 15, 8⟩
def RAS_RPJ_STAT_done (ch : Nat) (m : Nat) : Fld := ⟨RAS_RPJ_STAT ch m, 7, 0⟩
def CMP_LAYER_CTL_plane_alpha (h : Nat) (k : Nat) : Fld := ⟨CMP_LAYER_CTL h k, 31, 20⟩
def CMP_LAYER_CTL_mode (h : Nat) (k : Nat) : Fld := ⟨CMP_LAYER_CTL h k, 11, 10⟩
def CMP_LAYER_CTL_layout (h : Nat) (k : Nat) : Fld := ⟨CMP_LAYER_CTL h k, 9, 9⟩
def CMP_LAYER_CTL_solid (h : Nat) (k : Nat) : Fld := ⟨CMP_LAYER_CTL h k, 8, 8⟩
def CMP_LAYER_CTL_format (h : Nat) (k : Nat) : Fld := ⟨CMP_LAYER_CTL h k, 7, 4⟩
def CMP_LAYER_CTL_enable (h : Nat) (k : Nat) : Fld := ⟨CMP_LAYER_CTL h k, 0, 0⟩
def CMP_ACTIVE_CTL_plane_alpha (h : Nat) (k : Nat) : Fld := ⟨CMP_ACTIVE_CTL h k, 31, 20⟩
def CMP_ACTIVE_CTL_mode (h : Nat) (k : Nat) : Fld := ⟨CMP_ACTIVE_CTL h k, 11, 10⟩
def CMP_ACTIVE_CTL_layout (h : Nat) (k : Nat) : Fld := ⟨CMP_ACTIVE_CTL h k, 9, 9⟩
def CMP_ACTIVE_CTL_solid (h : Nat) (k : Nat) : Fld := ⟨CMP_ACTIVE_CTL h k, 8, 8⟩
def CMP_ACTIVE_CTL_format (h : Nat) (k : Nat) : Fld := ⟨CMP_ACTIVE_CTL h k, 7, 4⟩
def CMP_ACTIVE_CTL_enable (h : Nat) (k : Nat) : Fld := ⟨CMP_ACTIVE_CTL h k, 0, 0⟩
def CMP_LAYER_POS_y (h : Nat) (k : Nat) : Fld := ⟨CMP_LAYER_POS h k, 29, 16⟩
def CMP_LAYER_POS_x (h : Nat) (k : Nat) : Fld := ⟨CMP_LAYER_POS h k, 13, 0⟩
def CMP_ACTIVE_POS_y (h : Nat) (k : Nat) : Fld := ⟨CMP_ACTIVE_POS h k, 29, 16⟩
def CMP_ACTIVE_POS_x (h : Nat) (k : Nat) : Fld := ⟨CMP_ACTIVE_POS h k, 13, 0⟩
def CMP_LAYER_SIZE_h (h : Nat) (k : Nat) : Fld := ⟨CMP_LAYER_SIZE h k, 29, 16⟩
def CMP_LAYER_SIZE_w (h : Nat) (k : Nat) : Fld := ⟨CMP_LAYER_SIZE h k, 13, 0⟩
def CMP_ACTIVE_SIZE_h (h : Nat) (k : Nat) : Fld := ⟨CMP_ACTIVE_SIZE h k, 29, 16⟩
def CMP_ACTIVE_SIZE_w (h : Nat) (k : Nat) : Fld := ⟨CMP_ACTIVE_SIZE h k, 13, 0⟩
def CMP_LAYER_SRC_src_y (h : Nat) (k : Nat) : Fld := ⟨CMP_LAYER_SRC h k, 29, 16⟩
def CMP_LAYER_SRC_src_x (h : Nat) (k : Nat) : Fld := ⟨CMP_LAYER_SRC h k, 13, 0⟩
def CMP_ACTIVE_SRC_src_y (h : Nat) (k : Nat) : Fld := ⟨CMP_ACTIVE_SRC h k, 29, 16⟩
def CMP_ACTIVE_SRC_src_x (h : Nat) (k : Nat) : Fld := ⟨CMP_ACTIVE_SRC h k, 13, 0⟩
def CMP_LAYER_ADDR_LO_addr_lo (h : Nat) (k : Nat) : Fld := ⟨CMP_LAYER_ADDR_LO h k, 31, 6⟩
def CMP_ACTIVE_ADDR_LO_addr_lo (h : Nat) (k : Nat) : Fld := ⟨CMP_ACTIVE_ADDR_LO h k, 31, 6⟩
def CMP_LAYER_ADDR_HI_addr_hi (h : Nat) (k : Nat) : Fld := ⟨CMP_LAYER_ADDR_HI h k, 31, 0⟩
def CMP_ACTIVE_ADDR_HI_addr_hi (h : Nat) (k : Nat) : Fld := ⟨CMP_ACTIVE_ADDR_HI h k, 31, 0⟩
def CMP_LAYER_PITCH_pitch (h : Nat) (k : Nat) : Fld := ⟨CMP_LAYER_PITCH h k, 15, 0⟩
def CMP_ACTIVE_PITCH_pitch (h : Nat) (k : Nat) : Fld := ⟨CMP_ACTIVE_PITCH h k, 15, 0⟩
def CMP_LAYER_SOLID_colour (h : Nat) (k : Nat) : Fld := ⟨CMP_LAYER_SOLID h k, 31, 0⟩
def CMP_ACTIVE_SOLID_colour (h : Nat) (k : Nat) : Fld := ⟨CMP_ACTIVE_SOLID h k, 31, 0⟩
def CMP_STATUS_reserved (ch : Nat) : Fld := ⟨CMP_STATUS ch, 22, 16⟩
def CMP_STATUS_ret_lost (ch : Nat) : Fld := ⟨CMP_STATUS ch, 15, 8⟩
def CMP_STATUS_cfg_err (ch : Nat) : Fld := ⟨CMP_STATUS ch, 0, 0⟩
def CMP_RCPT_CSQ_enable (ch : Nat) : Fld := ⟨CMP_RCPT_CSQ ch, 31, 31⟩
def CMP_RCPT_CSQ_max (ch : Nat) : Fld := ⟨CMP_RCPT_CSQ ch, 22, 16⟩
def CMP_RCPT_CSQ_addr (ch : Nat) : Fld := ⟨CMP_RCPT_CSQ ch, 15, 4⟩
def CMP_RCPT_SSQ_enable (ch : Nat) : Fld := ⟨CMP_RCPT_SSQ ch, 31, 31⟩
def CMP_RCPT_SSQ_max (ch : Nat) : Fld := ⟨CMP_RCPT_SSQ ch, 22, 16⟩
def CMP_RCPT_SSQ_addr (ch : Nat) : Fld := ⟨CMP_RCPT_SSQ ch, 15, 4⟩
def CMP_TAKE_queue (h : Nat) : Fld := ⟨CMP_TAKE h, 11, 8⟩
def CMP_TAKE_inst (h : Nat) : Fld := ⟨CMP_TAKE h, 4, 0⟩
def CMP_TAKE_STAT_done (h : Nat) : Fld := ⟨CMP_TAKE_STAT h, 31, 31⟩
def CMP_TAKE_STAT_result (h : Nat) : Fld := ⟨CMP_TAKE_STAT h, 26, 24⟩
def CMP_TAKE_STAT_mask (h : Nat) : Fld := ⟨CMP_TAKE_STAT h, 17, 0⟩
def CMP_BG_colour (h : Nat) : Fld := ⟨CMP_BG h, 29, 0⟩
def CMP_HEAD_STATUS_over (h : Nat) : Fld := ⟨CMP_HEAD_STATUS h, 31, 31⟩
def CMP_HEAD_STATUS_faulted (h : Nat) : Fld := ⟨CMP_HEAD_STATUS h, 16, 0⟩
def CMP_WITHHELD_layers (h : Nat) : Fld := ⟨CMP_WITHHELD h, 15, 0⟩
def CMP_LOAD_limit (h : Nat) : Fld := ⟨CMP_LOAD h, 31, 16⟩
def CMP_LOAD_worst (h : Nat) : Fld := ⟨CMP_LOAD h, 15, 0⟩
def CMP_OWN_valid_0 (h : Nat) (j : Nat) : Fld := ⟨CMP_OWN h j, 7, 7⟩
def CMP_OWN_inst_0 (h : Nat) (j : Nat) : Fld := ⟨CMP_OWN h j, 4, 0⟩
def CMP_OWN_valid_1 (h : Nat) (j : Nat) : Fld := ⟨CMP_OWN h j, 15, 15⟩
def CMP_OWN_inst_1 (h : Nat) (j : Nat) : Fld := ⟨CMP_OWN h j, 12, 8⟩
def CMP_OWN_valid_2 (h : Nat) (j : Nat) : Fld := ⟨CMP_OWN h j, 23, 23⟩
def CMP_OWN_inst_2 (h : Nat) (j : Nat) : Fld := ⟨CMP_OWN h j, 20, 16⟩
def CMP_OWN_valid_3 (h : Nat) (j : Nat) : Fld := ⟨CMP_OWN h j, 31, 31⟩
def CMP_OWN_inst_3 (h : Nat) (j : Nat) : Fld := ⟨CMP_OWN h j, 28, 24⟩
def CMP_GOWN_valid (h : Nat) : Fld := ⟨CMP_GOWN h, 4, 4⟩
def CMP_GOWN_enclave (h : Nat) : Fld := ⟨CMP_GOWN h, 3, 0⟩
def CMP_WB_CFG_inst (h : Nat) : Fld := ⟨CMP_WB_CFG h, 20, 16⟩
def CMP_WB_CFG_format (h : Nat) : Fld := ⟨CMP_WB_CFG h, 11, 8⟩
def CMP_WB_CFG_layout (h : Nat) : Fld := ⟨CMP_WB_CFG h, 4, 4⟩
def CMP_WB_CFG_mode (h : Nat) : Fld := ⟨CMP_WB_CFG h, 1, 0⟩
def CMP_WB_LO_addr_lo (h : Nat) : Fld := ⟨CMP_WB_LO h, 31, 6⟩
def CMP_WB_HI_addr_hi (h : Nat) : Fld := ⟨CMP_WB_HI h, 31, 0⟩
def CMP_WB_PITCH_pitch (h : Nat) : Fld := ⟨CMP_WB_PITCH h, 15, 0⟩
def CMP_WB_STAT_done (h : Nat) : Fld := ⟨CMP_WB_STAT h, 31, 31⟩
def CMP_WB_STAT_fault (h : Nat) : Fld := ⟨CMP_WB_STAT h, 30, 30⟩
def CMP_WB_FRAME_frame (h : Nat) : Fld := ⟨CMP_WB_FRAME h, 31, 0⟩
def CMP_RET_LO_addr_lo (ch : Nat) (i : Nat) : Fld := ⟨CMP_RET_LO ch i, 31, 12⟩
def CMP_RET_HI_addr_hi (ch : Nat) (i : Nat) : Fld := ⟨CMP_RET_HI ch i, 31, 0⟩
def CMP_RET_CFG_enable (ch : Nat) (i : Nat) : Fld := ⟨CMP_RET_CFG ch i, 31, 31⟩
def CMP_RET_CFG_log2_size (ch : Nat) (i : Nat) : Fld := ⟨CMP_RET_CFG ch i, 4, 0⟩
def CMP_RET_PROD_prod (ch : Nat) (i : Nat) : Fld := ⟨CMP_RET_PROD ch i, 13, 0⟩
def CMP_GMIR_LO_addr_lo (h : Nat) : Fld := ⟨CMP_GMIR_LO h, 31, 12⟩
def CMP_GMIR_HI_addr_hi (h : Nat) : Fld := ⟨CMP_GMIR_HI h, 31, 0⟩
def CMP_GLCRC_LO_addr_lo (h : Nat) : Fld := ⟨CMP_GLCRC_LO h, 31, 2⟩
def CMP_GLCRC_HI_addr_hi (h : Nat) : Fld := ⟨CMP_GLCRC_HI h, 31, 0⟩
def CMP_GCHK_enable (h : Nat) : Fld := ⟨CMP_GCHK h, 31, 31⟩
def CMP_GCHK_on_mirror (h : Nat) : Fld := ⟨CMP_GCHK h, 30, 30⟩
def CMP_GCHK_cfg_err (h : Nat) : Fld := ⟨CMP_GCHK h, 29, 29⟩
def CMP_GCHK_failovers (h : Nat) : Fld := ⟨CMP_GCHK h, 15, 0⟩
def HEAD_HTIME_htotal (h : Nat) : Fld := ⟨HEAD_HTIME h, 29, 16⟩
def HEAD_HTIME_hactive (h : Nat) : Fld := ⟨HEAD_HTIME h, 13, 0⟩
def HEAD_ACTIVE_HTIME_htotal (h : Nat) : Fld := ⟨HEAD_ACTIVE_HTIME h, 29, 16⟩
def HEAD_ACTIVE_HTIME_hactive (h : Nat) : Fld := ⟨HEAD_ACTIVE_HTIME h, 13, 0⟩
def HEAD_HSYNC_hpol (h : Nat) : Fld := ⟨HEAD_HSYNC h, 31, 31⟩
def HEAD_HSYNC_hsync (h : Nat) : Fld := ⟨HEAD_HSYNC h, 29, 16⟩
def HEAD_HSYNC_hfront (h : Nat) : Fld := ⟨HEAD_HSYNC h, 13, 0⟩
def HEAD_ACTIVE_HSYNC_hpol (h : Nat) : Fld := ⟨HEAD_ACTIVE_HSYNC h, 31, 31⟩
def HEAD_ACTIVE_HSYNC_hsync (h : Nat) : Fld := ⟨HEAD_ACTIVE_HSYNC h, 29, 16⟩
def HEAD_ACTIVE_HSYNC_hfront (h : Nat) : Fld := ⟨HEAD_ACTIVE_HSYNC h, 13, 0⟩
def HEAD_VTIME_vtotal (h : Nat) : Fld := ⟨HEAD_VTIME h, 29, 16⟩
def HEAD_VTIME_vactive (h : Nat) : Fld := ⟨HEAD_VTIME h, 13, 0⟩
def HEAD_ACTIVE_VTIME_vtotal (h : Nat) : Fld := ⟨HEAD_ACTIVE_VTIME h, 29, 16⟩
def HEAD_ACTIVE_VTIME_vactive (h : Nat) : Fld := ⟨HEAD_ACTIVE_VTIME h, 13, 0⟩
def HEAD_VSYNC_vpol (h : Nat) : Fld := ⟨HEAD_VSYNC h, 31, 31⟩
def HEAD_VSYNC_vsync (h : Nat) : Fld := ⟨HEAD_VSYNC h, 29, 16⟩
def HEAD_VSYNC_vfront (h : Nat) : Fld := ⟨HEAD_VSYNC h, 13, 0⟩
def HEAD_ACTIVE_VSYNC_vpol (h : Nat) : Fld := ⟨HEAD_ACTIVE_VSYNC h, 31, 31⟩
def HEAD_ACTIVE_VSYNC_vsync (h : Nat) : Fld := ⟨HEAD_ACTIVE_VSYNC h, 29, 16⟩
def HEAD_ACTIVE_VSYNC_vfront (h : Nat) : Fld := ⟨HEAD_ACTIVE_VSYNC h, 13, 0⟩
def HEAD_PCLK_khz (h : Nat) : Fld := ⟨HEAD_PCLK h, 21, 0⟩
def HEAD_ACTIVE_PCLK_khz (h : Nat) : Fld := ⟨HEAD_ACTIVE_PCLK h, 21, 0⟩
def HEAD_LATCH_line (h : Nat) : Fld := ⟨HEAD_LATCH h, 13, 0⟩
def HEAD_ACTIVE_LATCH_line (h : Nat) : Fld := ⟨HEAD_ACTIVE_LATCH h, 13, 0⟩
def HEAD_VRR_enable (h : Nat) : Fld := ⟨HEAD_VRR h, 31, 31⟩
def HEAD_VRR_vtotal_max (h : Nat) : Fld := ⟨HEAD_VRR h, 13, 0⟩
def HEAD_ACTIVE_VRR_enable (h : Nat) : Fld := ⟨HEAD_ACTIVE_VRR h, 31, 31⟩
def HEAD_ACTIVE_VRR_vtotal_max (h : Nat) : Fld := ⟨HEAD_ACTIVE_VRR h, 13, 0⟩
def HEAD_OUT_enable (h : Nat) : Fld := ⟨HEAD_OUT h, 31, 31⟩
def HEAD_OUT_bpc (h : Nat) : Fld := ⟨HEAD_OUT h, 5, 4⟩
def HEAD_ACTIVE_OUT_enable (h : Nat) : Fld := ⟨HEAD_ACTIVE_OUT h, 31, 31⟩
def HEAD_ACTIVE_OUT_bpc (h : Nat) : Fld := ⟨HEAD_ACTIVE_OUT h, 5, 4⟩
def HEAD_HORIZON_lines (h : Nat) : Fld := ⟨HEAD_HORIZON h, 5, 0⟩
def HEAD_SEC_secure (h : Nat) : Fld := ⟨HEAD_SEC h, 0, 0⟩
def HEAD_TIMING_CHK_go (h : Nat) : Fld := ⟨HEAD_TIMING_CHK h, 31, 31⟩
def HEAD_TIMING_CHK_done (h : Nat) : Fld := ⟨HEAD_TIMING_CHK h, 30, 30⟩
def HEAD_TIMING_CHK_result (h : Nat) : Fld := ⟨HEAD_TIMING_CHK h, 3, 0⟩
def HEAD_STATUS_running (h : Nat) : Fld := ⟨HEAD_STATUS h, 31, 31⟩
def HEAD_STATUS_line (h : Nat) : Fld := ⟨HEAD_STATUS h, 29, 16⟩
def HEAD_STATUS_dsc_err (h : Nat) : Fld := ⟨HEAD_STATUS h, 8, 8⟩
def HEAD_STATUS_locked (h : Nat) : Fld := ⟨HEAD_STATUS h, 7, 7⟩
def HEAD_STATUS_psr (h : Nat) : Fld := ⟨HEAD_STATUS h, 6, 6⟩
def HEAD_STATUS_blanked (h : Nat) : Fld := ⟨HEAD_STATUS h, 5, 5⟩
def HEAD_STATUS_fallback (h : Nat) : Fld := ⟨HEAD_STATUS h, 4, 4⟩
def HEAD_STATUS_timing_bad (h : Nat) : Fld := ⟨HEAD_STATUS h, 3, 3⟩
def HEAD_STATUS_restarting (h : Nat) : Fld := ⟨HEAD_STATUS h, 2, 2⟩
def HEAD_STATUS_vrr (h : Nat) : Fld := ⟨HEAD_STATUS h, 1, 1⟩
def HEAD_FRAME_LO_frame_lo (h : Nat) : Fld := ⟨HEAD_FRAME_LO h, 31, 0⟩
def HEAD_FRAME_HI_frame_hi (h : Nat) : Fld := ⟨HEAD_FRAME_HI h, 15, 0⟩
def HEAD_FLIP_LO_time_lo (h : Nat) : Fld := ⟨HEAD_FLIP_LO h, 31, 0⟩
def HEAD_FLIP_HI_time_hi (h : Nat) : Fld := ⟨HEAD_FLIP_HI h, 31, 0⟩
def HEAD_EVENT_events (h : Nat) : Fld := ⟨HEAD_EVENT h, 8, 0⟩
def HEAD_EVENT_EN_enable (h : Nat) : Fld := ⟨HEAD_EVENT_EN h, 8, 0⟩
def HEAD_UNDERRUN_frames (h : Nat) : Fld := ⟨HEAD_UNDERRUN h, 31, 16⟩
def HEAD_UNDERRUN_lines (h : Nat) : Fld := ⟨HEAD_UNDERRUN h, 15, 0⟩
def HEAD_SYNC_gen_out (h : Nat) : Fld := ⟨HEAD_SYNC h, 16, 16⟩
def HEAD_SYNC_step (h : Nat) : Fld := ⟨HEAD_SYNC h, 15, 8⟩
def HEAD_SYNC_head (h : Nat) : Fld := ⟨HEAD_SYNC h, 6, 4⟩
def HEAD_SYNC_source (h : Nat) : Fld := ⟨HEAD_SYNC h, 1, 0⟩
def HEAD_PSR_enable (h : Nat) : Fld := ⟨HEAD_PSR h, 31, 31⟩
def HEAD_PSR_su (h : Nat) : Fld := ⟨HEAD_PSR h, 30, 30⟩
def HEAD_PSR_idle (h : Nat) : Fld := ⟨HEAD_PSR h, 7, 0⟩
def HEAD_DSC_enable (h : Nat) : Fld := ⟨HEAD_DSC h, 31, 31⟩
def HEAD_DSC_slices (h : Nat) : Fld := ⟨HEAD_DSC h, 29, 28⟩
def HEAD_DSC_bpp (h : Nat) : Fld := ⟨HEAD_DSC h, 25, 16⟩
def HEAD_DSC_slice_h (h : Nat) : Fld := ⟨HEAD_DSC h, 12, 0⟩
def HEAD_RC_ACT_clear_fallback (h : Nat) : Fld := ⟨HEAD_RC_ACT h, 1, 1⟩
def HEAD_RC_ACT_clear_blank (h : Nat) : Fld := ⟨HEAD_RC_ACT h, 0, 0⟩
def HEAD_RC_POS_y (h : Nat) (k : Nat) : Fld := ⟨HEAD_RC_POS h k, 29, 16⟩
def HEAD_RC_POS_x (h : Nat) (k : Nat) : Fld := ⟨HEAD_RC_POS h k, 13, 0⟩
def HEAD_RC_ACTIVE_POS_y (h : Nat) (k : Nat) : Fld := ⟨HEAD_RC_ACTIVE_POS h k, 29, 16⟩
def HEAD_RC_ACTIVE_POS_x (h : Nat) (k : Nat) : Fld := ⟨HEAD_RC_ACTIVE_POS h k, 13, 0⟩
def HEAD_RC_SIZE_h (h : Nat) (k : Nat) : Fld := ⟨HEAD_RC_SIZE h k, 29, 16⟩
def HEAD_RC_SIZE_w (h : Nat) (k : Nat) : Fld := ⟨HEAD_RC_SIZE h k, 13, 0⟩
def HEAD_RC_ACTIVE_SIZE_h (h : Nat) (k : Nat) : Fld := ⟨HEAD_RC_ACTIVE_SIZE h k, 29, 16⟩
def HEAD_RC_ACTIVE_SIZE_w (h : Nat) (k : Nat) : Fld := ⟨HEAD_RC_ACTIVE_SIZE h k, 13, 0⟩
def HEAD_RC_EXP_exp (h : Nat) (k : Nat) : Fld := ⟨HEAD_RC_EXP h k, 31, 0⟩
def HEAD_RC_ACTIVE_EXP_exp (h : Nat) (k : Nat) : Fld := ⟨HEAD_RC_ACTIVE_EXP h k, 31, 0⟩
def HEAD_RC_CTL_enable (h : Nat) (k : Nat) : Fld := ⟨HEAD_RC_CTL h k, 31, 31⟩
def HEAD_RC_CTL_action (h : Nat) (k : Nat) : Fld := ⟨HEAD_RC_CTL h k, 9, 8⟩
def HEAD_RC_CTL_thresh (h : Nat) (k : Nat) : Fld := ⟨HEAD_RC_CTL h k, 3, 0⟩
def HEAD_RC_ACTIVE_CTL_enable (h : Nat) (k : Nat) : Fld := ⟨HEAD_RC_ACTIVE_CTL h k, 31, 31⟩
def HEAD_RC_ACTIVE_CTL_action (h : Nat) (k : Nat) : Fld := ⟨HEAD_RC_ACTIVE_CTL h k, 9, 8⟩
def HEAD_RC_ACTIVE_CTL_thresh (h : Nat) (k : Nat) : Fld := ⟨HEAD_RC_ACTIVE_CTL h k, 3, 0⟩
def HEAD_RC_GOT_value (h : Nat) (k : Nat) : Fld := ⟨HEAD_RC_GOT h k, 31, 0⟩
def HEAD_RC_STAT_mismatch (h : Nat) (k : Nat) : Fld := ⟨HEAD_RC_STAT h k, 31, 31⟩
def HEAD_RC_STAT_bad (h : Nat) (k : Nat) : Fld := ⟨HEAD_RC_STAT h k, 30, 30⟩
def HEAD_RC_STAT_run (h : Nat) (k : Nat) : Fld := ⟨HEAD_RC_STAT h k, 23, 16⟩
def HEAD_RC_STAT_count (h : Nat) (k : Nat) : Fld := ⟨HEAD_RC_STAT h k, 15, 0⟩
def DP_CTL_enable (h : Nat) : Fld := ⟨DP_CTL h, 31, 31⟩
def DP_CTL_edp (h : Nat) : Fld := ⟨DP_CTL h, 30, 30⟩
def DP_CTL_lanes (h : Nat) : Fld := ⟨DP_CTL h, 29, 28⟩
def DP_CTL_rate (h : Nat) : Fld := ⟨DP_CTL h, 27, 24⟩
def DP_CTL_mst (h : Nat) : Fld := ⟨DP_CTL h, 1, 1⟩
def DP_CTL_apply (h : Nat) : Fld := ⟨DP_CTL h, 0, 0⟩
def DP_STATUS_lanes_active (h : Nat) : Fld := ⟨DP_STATUS h, 11, 9⟩
def DP_STATUS_hpd (h : Nat) : Fld := ⟨DP_STATUS h, 8, 8⟩
def DP_STATUS_hpd_irq (h : Nat) : Fld := ⟨DP_STATUS h, 7, 7⟩
def DP_STATUS_link_lost (h : Nat) : Fld := ⟨DP_STATUS h, 6, 6⟩
def DP_STATUS_bw_err (h : Nat) : Fld := ⟨DP_STATUS h, 5, 5⟩
def DP_STATUS_train_fail (h : Nat) : Fld := ⟨DP_STATUS h, 4, 4⟩
def DP_STATUS_trained (h : Nat) : Fld := ⟨DP_STATUS h, 1, 1⟩
def DP_STATUS_done (h : Nat) : Fld := ⟨DP_STATUS h, 0, 0⟩
def DP_STREAM_valid_0 (h : Nat) : Fld := ⟨DP_STREAM h, 7, 7⟩
def DP_STREAM_head_0 (h : Nat) : Fld := ⟨DP_STREAM h, 2, 0⟩
def DP_STREAM_valid_1 (h : Nat) : Fld := ⟨DP_STREAM h, 15, 15⟩
def DP_STREAM_head_1 (h : Nat) : Fld := ⟨DP_STREAM h, 10, 8⟩
def DP_STREAM_valid_2 (h : Nat) : Fld := ⟨DP_STREAM h, 23, 23⟩
def DP_STREAM_head_2 (h : Nat) : Fld := ⟨DP_STREAM h, 18, 16⟩
def DP_STREAM_valid_3 (h : Nat) : Fld := ⟨DP_STREAM h, 31, 31⟩
def DP_STREAM_head_3 (h : Nat) : Fld := ⟨DP_STREAM h, 26, 24⟩
def TCH_BUSY_busy : Fld := ⟨TCH_BUSY, 0, 0⟩
def TCH_HOLD_LIMIT_seconds : Fld := ⟨TCH_HOLD_LIMIT, 15, 0⟩
def TCH_CFG_enable (n : Nat) : Fld := ⟨TCH_CFG n, 31, 31⟩
def TCH_CFG_gang (n : Nat) : Fld := ⟨TCH_CFG n, 30, 30⟩
def TCH_CFG_sec (n : Nat) : Fld := ⟨TCH_CFG n, 29, 29⟩
def TCH_CFG_absorb (n : Nat) : Fld := ⟨TCH_CFG n, 28, 28⟩
def TCH_CFG_swap (n : Nat) : Fld := ⟨TCH_CFG n, 27, 27⟩
def TCH_CFG_drive (n : Nat) : Fld := ⟨TCH_CFG n, 1, 0⟩
def TCH_SCAN_hop (n : Nat) : Fld := ⟨TCH_SCAN n, 8, 8⟩
def TCH_SCAN_step (n : Nat) : Fld := ⟨TCH_SCAN n, 6, 0⟩
def TCH_FREQ_f3 (n : Nat) : Fld := ⟨TCH_FREQ n, 31, 24⟩
def TCH_FREQ_f2 (n : Nat) : Fld := ⟨TCH_FREQ n, 23, 16⟩
def TCH_FREQ_f1 (n : Nat) : Fld := ⟨TCH_FREQ n, 15, 8⟩
def TCH_FREQ_f0 (n : Nat) : Fld := ⟨TCH_FREQ n, 7, 0⟩
def TCH_THRESH_release (n : Nat) : Fld := ⟨TCH_THRESH n, 31, 16⟩
def TCH_THRESH_touch (n : Nat) : Fld := ⟨TCH_THRESH n, 15, 0⟩
def TCH_DRIFT_interval (n : Nat) : Fld := ⟨TCH_DRIFT n, 23, 8⟩
def TCH_DRIFT_step (n : Nat) : Fld := ⟨TCH_DRIFT n, 7, 0⟩
def TCH_MAP_X_scale (n : Nat) : Fld := ⟨TCH_MAP_X n, 31, 16⟩
def TCH_MAP_X_offset (n : Nat) : Fld := ⟨TCH_MAP_X n, 15, 0⟩
def TCH_MAP_Y_scale (n : Nat) : Fld := ⟨TCH_MAP_Y n, 31, 16⟩
def TCH_MAP_Y_offset (n : Nat) : Fld := ⟨TCH_MAP_Y n, 15, 0⟩
def TCH_RPT_enable (n : Nat) : Fld := ⟨TCH_RPT n, 31, 31⟩
def TCH_RPT_sq (n : Nat) : Fld := ⟨TCH_RPT n, 30, 28⟩
def TCH_RPT_log2_size (n : Nat) : Fld := ⟨TCH_RPT n, 27, 24⟩
def TCH_RPT_addr (n : Nat) : Fld := ⟨TCH_RPT n, 15, 4⟩
def TCH_STORE_now (n : Nat) : Fld := ⟨TCH_STORE n, 31, 31⟩
def TCH_STORE_hours (n : Nat) : Fld := ⟨TCH_STORE n, 7, 0⟩
def TCH_STATUS_cfg_err (n : Nat) : Fld := ⟨TCH_STATUS n, 14, 14⟩
def TCH_STATUS_store_refused (n : Nat) : Fld := ⟨TCH_STATUS n, 13, 13⟩
def TCH_STATUS_report_lost (n : Nat) : Fld := ⟨TCH_STATUS n, 12, 12⟩
def TCH_STATUS_comp_sat (n : Nat) : Fld := ⟨TCH_STATUS n, 11, 11⟩
def TCH_STATUS_stuck (n : Nat) : Fld := ⟨TCH_STATUS n, 10, 10⟩
def TCH_STATUS_no_image (n : Nat) : Fld := ⟨TCH_STATUS n, 9, 9⟩
def TCH_STATUS_ready (n : Nat) : Fld := ⟨TCH_STATUS n, 8, 8⟩
def TCH_STATUS_freq (n : Nat) : Fld := ⟨TCH_STATUS n, 7, 6⟩
def TCH_STATUS_contacts (n : Nat) : Fld := ⟨TCH_STATUS n, 3, 0⟩
def RO_CFG_enable (n : Nat) : Fld := ⟨RO_CFG n, 31, 31⟩
def RO_CFG_wake (n : Nat) : Fld := ⟨RO_CFG n, 30, 30⟩
def RO_CFG_mode (n : Nat) : Fld := ⟨RO_CFG n, 29, 28⟩
def RO_CFG_ring (n : Nat) : Fld := ⟨RO_CFG n, 27, 26⟩
def RO_CFG_gate (n : Nat) : Fld := ⟨RO_CFG n, 23, 16⟩
def RO_CFG_thresh (n : Nat) : Fld := ⟨RO_CFG n, 15, 0⟩
def RO_TIME_refractory (n : Nat) : Fld := ⟨RO_TIME n, 31, 16⟩
def RO_TIME_hold (n : Nat) : Fld := ⟨RO_TIME n, 15, 0⟩
def RO_FX_enable (n : Nat) : Fld := ⟨RO_FX n, 31, 31⟩
def RO_FX_channel (n : Nat) : Fld := ⟨RO_FX n, 26, 24⟩
def RO_FX_effect (n : Nat) : Fld := ⟨RO_FX n, 8, 0⟩
def RO_STAT_active (n : Nat) : Fld := ⟨RO_STAT n, 31, 31⟩
def RO_STAT_held (n : Nat) : Fld := ⟨RO_STAT n, 30, 30⟩
def RO_STAT_suppressed (n : Nat) : Fld := ⟨RO_STAT n, 29, 16⟩
def RO_STAT_count (n : Nat) : Fld := ⟨RO_STAT n, 15, 0⟩
def HAP_BUSY_busy : Fld := ⟨HAP_BUSY, 0, 0⟩
def HAP_CFG_enable (n : Nat) : Fld := ⟨HAP_CFG n, 31, 31⟩
def HAP_CFG_sec (n : Nat) : Fld := ⟨HAP_CFG n, 30, 30⟩
def HAP_CFG_audio_gain (n : Nat) : Fld := ⟨HAP_CFG n, 7, 0⟩
def HAP_LIMIT_volt (n : Nat) : Fld := ⟨HAP_LIMIT n, 31, 24⟩
def HAP_LIMIT_amps (n : Nat) : Fld := ⟨HAP_LIMIT n, 23, 16⟩
def HAP_LIMIT_max_ms (n : Nat) : Fld := ⟨HAP_LIMIT n, 15, 0⟩
def HAP_THERM_rth (n : Nat) : Fld := ⟨HAP_THERM n, 31, 24⟩
def HAP_THERM_tau (n : Nat) : Fld := ⟨HAP_THERM n, 23, 16⟩
def HAP_THERM_limit (n : Nat) : Fld := ⟨HAP_THERM n, 15, 8⟩
def HAP_THERM_rate (n : Nat) : Fld := ⟨HAP_THERM n, 7, 0⟩
def HAP_RES_f0 (n : Nat) : Fld := ⟨HAP_RES n, 31, 16⟩
def HAP_RES_re (n : Nat) : Fld := ⟨HAP_RES n, 15, 0⟩
def HAP_RES2_dt (n : Nat) : Fld := ⟨HAP_RES2 n, 31, 16⟩
def HAP_RES2_q (n : Nat) : Fld := ⟨HAP_RES2 n, 15, 0⟩
def HAP_STATUS_running (n : Nat) : Fld := ⟨HAP_STATUS n, 31, 31⟩
def HAP_STATUS_braking (n : Nat) : Fld := ⟨HAP_STATUS n, 30, 30⟩
def HAP_STATUS_queued (n : Nat) : Fld := ⟨HAP_STATUS n, 29, 29⟩
def HAP_STATUS_resting (n : Nat) : Fld := ⟨HAP_STATUS n, 28, 28⟩
def HAP_STATUS_cal_fail (n : Nat) : Fld := ⟨HAP_STATUS n, 27, 27⟩
def HAP_STATUS_f0_shift (n : Nat) : Fld := ⟨HAP_STATUS n, 26, 26⟩
def HAP_STATUS_derated (n : Nat) : Fld := ⟨HAP_STATUS n, 25, 25⟩
def HAP_STATUS_vhap_low (n : Nat) : Fld := ⟨HAP_STATUS n, 24, 24⟩
def HAP_STATUS_ilim (n : Nat) : Fld := ⟨HAP_STATUS n, 23, 8⟩
def HAP_STATUS_last (n : Nat) : Fld := ⟨HAP_STATUS n, 7, 0⟩
def HAP_CAL_valid (n : Nat) : Fld := ⟨HAP_CAL n, 2, 2⟩
def HAP_CAL_active (n : Nat) : Fld := ⟨HAP_CAL n, 1, 1⟩
def HAP_CAL_go (n : Nat) : Fld := ⟨HAP_CAL n, 0, 0⟩
def HAP_TRIG_CFG_enable (n : Nat) : Fld := ⟨HAP_TRIG_CFG n, 31, 31⟩
def HAP_TRIG_CFG_edge (n : Nat) : Fld := ⟨HAP_TRIG_CFG n, 30, 29⟩
def HAP_TRIG_CFG_channel (n : Nat) : Fld := ⟨HAP_TRIG_CFG n, 28, 26⟩
def HAP_TRIG_CFG_policy (n : Nat) : Fld := ⟨HAP_TRIG_CFG n, 25, 24⟩
def HAP_TRIG_CFG_effect (n : Nat) : Fld := ⟨HAP_TRIG_CFG n, 8, 0⟩
def HAP_TRIG_TIME_refractory (n : Nat) : Fld := ⟨HAP_TRIG_TIME n, 31, 16⟩
def HAP_TRIG_TIME_hold (n : Nat) : Fld := ⟨HAP_TRIG_TIME n, 15, 0⟩
def HAP_TRIG_STAT_level (n : Nat) : Fld := ⟨HAP_TRIG_STAT n, 31, 31⟩
def HAP_TRIG_STAT_held (n : Nat) : Fld := ⟨HAP_TRIG_STAT n, 30, 30⟩
def HAP_TRIG_STAT_suppressed (n : Nat) : Fld := ⟨HAP_TRIG_STAT n, 15, 0⟩
def HAP_EFFECT_RAM_word (w : Nat) : Fld := ⟨HAP_EFFECT_RAM w, 31, 0⟩
def AUD_CTL_run : Fld := ⟨AUD_CTL, 31, 31⟩
def AUD_STATUS_active : Fld := ⟨AUD_STATUS, 31, 31⟩
def AUD_STATUS_pending : Fld := ⟨AUD_STATUS, 30, 30⟩
def AUD_STATUS_holdover : Fld := ⟨AUD_STATUS, 29, 29⟩
def AUD_STATUS_no_default : Fld := ⟨AUD_STATUS, 28, 28⟩
def AUD_STATUS_store_refused : Fld := ⟨AUD_STATUS, 3, 3⟩
def AUD_STATUS_bank_locked : Fld := ⟨AUD_STATUS, 2, 2⟩
def AUD_STATUS_cfg_err : Fld := ⟨AUD_STATUS, 0, 0⟩
def AUD_SWAP_TGT_beat : Fld := ⟨AUD_SWAP_TGT, 31, 0⟩
def AUD_BUSY_busy : Fld := ⟨AUD_BUSY, 0, 0⟩
def AUD_SWAP_REQ_go : Fld := ⟨AUD_SWAP_REQ, 31, 31⟩
def AUD_SWAP_REQ_ramp : Fld := ⟨AUD_SWAP_REQ, 12, 0⟩
def AUD_SWAP_BEAT_beat : Fld := ⟨AUD_SWAP_BEAT, 31, 0⟩
def AUD_SWAP_RES_done : Fld := ⟨AUD_SWAP_RES, 8, 8⟩
def AUD_SWAP_RES_result : Fld := ⟨AUD_SWAP_RES, 7, 0⟩
def AUD_COPY_go : Fld := ⟨AUD_COPY, 0, 0⟩
def AUD_STORE_now : Fld := ⟨AUD_STORE, 31, 31⟩
def AUD_STORE_bank : Fld := ⟨AUD_STORE, 0, 0⟩
def AUD_GUARD_enable (j : Nat) : Fld := ⟨AUD_GUARD j, 31, 31⟩
def AUD_GUARD_source (j : Nat) : Fld := ⟨AUD_GUARD j, 30, 24⟩
def AUD_GUARD_sink (j : Nat) : Fld := ⟨AUD_GUARD j, 23, 17⟩
def AUD_GUARD_min (j : Nat) : Fld := ⟨AUD_GUARD j, 15, 0⟩
def AUD_TDM_CFG_enable (p : Nat) : Fld := ⟨AUD_TDM_CFG p, 31, 31⟩
def AUD_TDM_CFG_role (p : Nat) : Fld := ⟨AUD_TDM_CFG p, 30, 30⟩
def AUD_TDM_CFG_rate (p : Nat) : Fld := ⟨AUD_TDM_CFG p, 29, 28⟩
def AUD_TDM_CFG_sync (p : Nat) : Fld := ⟨AUD_TDM_CFG p, 27, 27⟩
def AUD_TDM_STAT_locked (p : Nat) : Fld := ⟨AUD_TDM_STAT p, 31, 31⟩
def AUD_TDM_STAT_clk_lost (p : Nat) : Fld := ⟨AUD_TDM_STAT p, 30, 30⟩
def AUD_TDM_STAT_slips (p : Nat) : Fld := ⟨AUD_TDM_STAT p, 15, 0⟩
def AUD_MS_LO_addr_lo (n : Nat) : Fld := ⟨AUD_MS_LO n, 31, 12⟩
def AUD_MS_HI_addr_hi (n : Nat) : Fld := ⟨AUD_MS_HI n, 31, 0⟩
def AUD_MS_CFG_enable (n : Nat) : Fld := ⟨AUD_MS_CFG n, 31, 31⟩
def AUD_MS_CFG_inst (n : Nat) : Fld := ⟨AUD_MS_CFG n, 12, 8⟩
def AUD_MS_CFG_format (n : Nat) : Fld := ⟨AUD_MS_CFG n, 5, 5⟩
def AUD_MS_CFG_log2_size (n : Nat) : Fld := ⟨AUD_MS_CFG n, 4, 0⟩
def AUD_MS_IDX_own (n : Nat) : Fld := ⟨AUD_MS_IDX n, 31, 16⟩
def AUD_MS_IDX_dev (n : Nat) : Fld := ⟨AUD_MS_IDX n, 15, 0⟩
def AUD_MS_STAT_fault (n : Nat) : Fld := ⟨AUD_MS_STAT n, 31, 31⟩
def AUD_MS_STAT_count (n : Nat) : Fld := ⟨AUD_MS_STAT n, 15, 0⟩
def AUD_MS_OWN_own (n : Nat) : Fld := ⟨AUD_MS_OWN n, 20, 0⟩
def AUD_MS_DEV_dev (n : Nat) : Fld := ⟨AUD_MS_DEV n, 20, 0⟩
def AUD_MC_LO_addr_lo (n : Nat) : Fld := ⟨AUD_MC_LO n, 31, 12⟩
def AUD_MC_HI_addr_hi (n : Nat) : Fld := ⟨AUD_MC_HI n, 31, 0⟩
def AUD_MC_CFG_enable (n : Nat) : Fld := ⟨AUD_MC_CFG n, 31, 31⟩
def AUD_MC_CFG_inst (n : Nat) : Fld := ⟨AUD_MC_CFG n, 12, 8⟩
def AUD_MC_CFG_format (n : Nat) : Fld := ⟨AUD_MC_CFG n, 5, 5⟩
def AUD_MC_CFG_log2_size (n : Nat) : Fld := ⟨AUD_MC_CFG n, 4, 0⟩
def AUD_MC_IDX_own (n : Nat) : Fld := ⟨AUD_MC_IDX n, 31, 16⟩
def AUD_MC_IDX_dev (n : Nat) : Fld := ⟨AUD_MC_IDX n, 15, 0⟩
def AUD_MC_STAT_fault (n : Nat) : Fld := ⟨AUD_MC_STAT n, 31, 31⟩
def AUD_MC_STAT_count (n : Nat) : Fld := ⟨AUD_MC_STAT n, 15, 0⟩
def AUD_MC_OWN_own (n : Nat) : Fld := ⟨AUD_MC_OWN n, 20, 0⟩
def AUD_MC_DEV_dev (n : Nat) : Fld := ⟨AUD_MC_DEV n, 20, 0⟩
def AUD_GEN_CFG_sec (n : Nat) : Fld := ⟨AUD_GEN_CFG n, 31, 31⟩
def AUD_GEN_CFG_running (n : Nat) : Fld := ⟨AUD_GEN_CFG n, 30, 30⟩
def AUD_GEN_CFG_preset (n : Nat) : Fld := ⟨AUD_GEN_CFG n, 7, 0⟩
def AUD_SINK_STAT_guarded (k : Nat) : Fld := ⟨AUD_SINK_STAT k, 31, 31⟩
def AUD_SINK_STAT_limited (k : Nat) : Fld := ⟨AUD_SINK_STAT k, 15, 0⟩
def AUD_PRESET_word (w : Nat) : Fld := ⟨AUD_PRESET w, 31, 0⟩
def AUD_NODE_word (bk : Nat) (w : Nat) : Fld := ⟨AUD_NODE bk w, 31, 0⟩
def AUD_SINKBLK_word (bk : Nat) (w : Nat) : Fld := ⟨AUD_SINKBLK bk w, 31, 0⟩
def MEM_CFG_link_ecc : Fld := ⟨MEM_CFG, 31, 31⟩
def MEM_CFG_rfm : Fld := ⟨MEM_CFG, 30, 30⟩
def MEM_CFG_size : Fld := ⟨MEM_CFG, 15, 8⟩
def MEM_CFG_idle : Fld := ⟨MEM_CFG, 7, 0⟩
def MEM_PNR_prob : Fld := ⟨MEM_PNR, 15, 0⟩
def MEM_PNR_CNT_count : Fld := ⟨MEM_PNR_CNT, 31, 0⟩
def MEM_SCAN_share : Fld := ⟨MEM_SCAN, 5, 0⟩
def MEM_QOS_target (p : Nat) : Fld := ⟨MEM_QOS p, 15, 0⟩
def MEM_LAT_worst (p : Nat) : Fld := ⟨MEM_LAT p, 15, 0⟩
def MEM_TRAIN_fail_mask : Fld := ⟨MEM_TRAIN, 31, 16⟩
def MEM_TRAIN_force_full : Fld := ⟨MEM_TRAIN, 15, 15⟩
def MEM_TRAIN_store_refused : Fld := ⟨MEM_TRAIN, 14, 14⟩
def MEM_TRAIN_path : Fld := ⟨MEM_TRAIN, 1, 0⟩
def MEM_TRAIN_FULL_full_mask : Fld := ⟨MEM_TRAIN_FULL, 15, 0⟩
def SC_CLASS_CFG_alloc (i : Nat) : Fld := ⟨SC_CLASS_CFG i, 17, 16⟩
def SC_CLASS_CFG_ways (i : Nat) : Fld := ⟨SC_CLASS_CFG i, 15, 0⟩
def SC_BANK_HIT_count (b : Nat) : Fld := ⟨SC_BANK_HIT b, 31, 0⟩
def SC_BANK_MISS_count (b : Nat) : Fld := ⟨SC_BANK_MISS b, 31, 0⟩
def CPY_STAT_busy (n : Nat) : Fld := ⟨CPY_STAT n, 31, 31⟩
def CPY_STAT_waiting (n : Nat) : Fld := ⟨CPY_STAT n, 20, 16⟩
def CPY_STAT_last (n : Nat) : Fld := ⟨CPY_STAT n, 7, 0⟩
def CPY_CHAIN_LO_addr_lo (n : Nat) : Fld := ⟨CPY_CHAIN_LO n, 31, 5⟩
def CPY_CHAIN_HI_addr_hi (n : Nat) : Fld := ⟨CPY_CHAIN_HI n, 31, 0⟩
def INST_MED_ARG_value (j : Nat) : Fld := ⟨INST_MED_ARG j, 31, 0⟩
def INST_MED_CALL_go : Fld := ⟨INST_MED_CALL, 31, 31⟩
def INST_MED_CALL_code : Fld := ⟨INST_MED_CALL, 7, 0⟩
def INST_MED_STAT_busy : Fld := ⟨INST_MED_STAT, 31, 31⟩
def INST_MED_STAT_result : Fld := ⟨INST_MED_STAT, 7, 0⟩
def INST_STATE_channels (i : Nat) : Fld := ⟨INST_STATE i, 27, 24⟩
def INST_STATE_op_done (i : Nat) : Fld := ⟨INST_STATE i, 16, 16⟩
def INST_STATE_op_result (i : Nat) : Fld := ⟨INST_STATE i, 15, 8⟩
def INST_STATE_state (i : Nat) : Fld := ⟨INST_STATE i, 2, 0⟩
def INST_SHARE_burst (i : Nat) : Fld := ⟨INST_SHARE i, 31, 16⟩
def INST_SHARE_weight (i : Nat) : Fld := ⟨INST_SHARE i, 7, 0⟩
def INST_RATE_tokens (i : Nat) : Fld := ⟨INST_RATE i, 31, 16⟩
def INST_RATE_rate (i : Nat) : Fld := ⟨INST_RATE i, 15, 0⟩
def INST_QUOTA_held (i : Nat) : Fld := ⟨INST_QUOTA i, 27, 16⟩
def INST_QUOTA_quota (i : Nat) : Fld := ⟨INST_QUOTA i, 11, 0⟩
def INST_CREDIT_credit (i : Nat) (c : Nat) : Fld := ⟨INST_CREDIT i c, 31, 0⟩
def INST_REBASE_LO_delta_lo (i : Nat) : Fld := ⟨INST_REBASE_LO i, 31, 0⟩
def INST_REBASE_HI_delta_hi (i : Nat) : Fld := ⟨INST_REBASE_HI i, 31, 0⟩
def INST_DLOG_enable (i : Nat) : Fld := ⟨INST_DLOG i, 31, 31⟩
def INST_DLOG_overflow (i : Nat) : Fld := ⟨INST_DLOG i, 30, 30⟩
def INST_DLOG_prod (i : Nat) : Fld := ⟨INST_DLOG i, 20, 0⟩
def WLD_STATUS_viol : Fld := ⟨WLD_STATUS, 31, 31⟩
def WLD_STATUS_enc_cfg_err : Fld := ⟨WLD_STATUS, 30, 30⟩
def WLD_HO_STAT_busy : Fld := ⟨WLD_HO_STAT, 31, 31⟩
def WLD_HO_STAT_count : Fld := ⟨WLD_HO_STAT, 15, 0⟩
def WLD_DBG_in_effect : Fld := ⟨WLD_DBG, 19, 16⟩
def WLD_DBG_s_inv : Fld := ⟨WLD_DBG, 3, 3⟩
def WLD_DBG_s_noninv : Fld := ⟨WLD_DBG, 2, 2⟩
def WLD_DBG_n_inv : Fld := ⟨WLD_DBG, 1, 1⟩
def WLD_DBG_n_noninv : Fld := ⟨WLD_DBG, 0, 0⟩
def WLD_ENC_LO_base_lo (e : Nat) : Fld := ⟨WLD_ENC_LO e, 31, 21⟩
def WLD_ENC_HI_base_hi (e : Nat) : Fld := ⟨WLD_ENC_HI e, 31, 0⟩
def WLD_ENC_CFG_valid (e : Nat) : Fld := ⟨WLD_ENC_CFG e, 31, 31⟩
def WLD_ENC_CFG_lock (e : Nat) : Fld := ⟨WLD_ENC_CFG e, 30, 30⟩
def WLD_ENC_CFG_size (e : Nat) : Fld := ⟨WLD_ENC_CFG e, 15, 0⟩
def WLD_LOCK_WORLD_secure (w : Nat) : Fld := ⟨WLD_LOCK_WORLD w, 31, 0⟩
def WLD_LOCK_STAT_held (k : Nat) : Fld := ⟨WLD_LOCK_STAT k, 31, 31⟩
def WLD_LOCK_STAT_abandoned (k : Nat) : Fld := ⟨WLD_LOCK_STAT k, 30, 30⟩
def WLD_LOCK_STAT_secure (k : Nat) : Fld := ⟨WLD_LOCK_STAT k, 29, 29⟩
def WLD_LOCK_STAT_epoch (k : Nat) : Fld := ⟨WLD_LOCK_STAT k, 23, 8⟩
def WLD_LOCK_STAT_owner (k : Nat) : Fld := ⟨WLD_LOCK_STAT k, 7, 0⟩
def WLD_LOCK_CMD_result (k : Nat) : Fld := ⟨WLD_LOCK_CMD k, 31, 24⟩
def WLD_LOCK_CMD_cmd (k : Nat) : Fld := ⟨WLD_LOCK_CMD k, 1, 0⟩
def SEED_BUSY_busy : Fld := ⟨SEED_BUSY, 0, 0⟩
def SEED_STATUS_ready : Fld := ⟨SEED_STATUS, 31, 31⟩
def SEED_STATUS_pfail : Fld := ⟨SEED_STATUS, 30, 30⟩
def SEED_STATUS_pfail_seen : Fld := ⟨SEED_STATUS, 29, 29⟩
def SEED_STATUS_degraded_seen : Fld := ⟨SEED_STATUS, 28, 28⟩
def SEED_STATUS_lost : Fld := ⟨SEED_STATUS, 27, 27⟩
def SEED_STATUS_spare_low : Fld := ⟨SEED_STATUS, 26, 26⟩
def SEED_STATUS_queued : Fld := ⟨SEED_STATUS, 4, 0⟩
def SEED_SPARE_worn : Fld := ⟨SEED_SPARE, 28, 16⟩
def SEED_SPARE_free : Fld := ⟨SEED_SPARE, 10, 0⟩
def SEED_LASTRES_0_csqs : Fld := ⟨SEED_LASTRES_0, 31, 0⟩
def SEED_LASTRES_1_rwp_s : Fld := ⟨SEED_LASTRES_1, 23, 16⟩
def SEED_LASTRES_1_rwp_n : Fld := ⟨SEED_LASTRES_1, 15, 8⟩
def SEED_LASTRES_1_ssq : Fld := ⟨SEED_LASTRES_1, 7, 0⟩
def SEED_HOUR_seconds (m : Nat) : Fld := ⟨SEED_HOUR m, 31, 0⟩
def SEED_LOG_dropped : Fld := ⟨SEED_LOG, 31, 16⟩
def SEED_LOG_written : Fld := ⟨SEED_LOG, 15, 0⟩
def SEED_SCRUB_corrected : Fld := ⟨SEED_SCRUB, 31, 16⟩
def SEED_SCRUB_uncorrectable : Fld := ⟨SEED_SCRUB, 15, 0⟩
def SEED_REC_SRC_LO_addr_lo : Fld := ⟨SEED_REC_SRC_LO, 31, 6⟩
def SEED_REC_SRC_HI_addr_hi : Fld := ⟨SEED_REC_SRC_HI, 31, 0⟩
def SEED_REC_CMD_go : Fld := ⟨SEED_REC_CMD, 31, 31⟩
def SEED_REC_CMD_done : Fld := ⟨SEED_REC_CMD, 8, 8⟩
def SEED_REC_CMD_result : Fld := ⟨SEED_REC_CMD, 7, 0⟩
def SEED_WIN_page : Fld := ⟨SEED_WIN, 5, 0⟩
def FLT_CFGCRC_REF_ref : Fld := ⟨FLT_CFGCRC_REF, 31, 0⟩
def FLT_CFGCRC_COMMIT_go : Fld := ⟨FLT_CFGCRC_COMMIT, 0, 0⟩
def FLT_CFGCRC_CUR_value : Fld := ⟨FLT_CFGCRC_CUR, 31, 0⟩
def FLT_CFGCRC_CTL_hold : Fld := ⟨FLT_CFGCRC_CTL, 31, 31⟩
def FLT_CFGCRC_CTL_slock : Fld := ⟨FLT_CFGCRC_CTL, 30, 30⟩
def FLT_CFGCRC_MASK_channels : Fld := ⟨FLT_CFGCRC_MASK, 31, 16⟩
def FLT_CFGCRC_MASK_ssq : Fld := ⟨FLT_CFGCRC_MASK, 15, 15⟩
def FLT_CFGCRC_MASK_blocks : Fld := ⟨FLT_CFGCRC_MASK, 14, 0⟩
def FLT_CFGCRC_STAT_held : Fld := ⟨FLT_CFGCRC_STAT, 23, 16⟩
def FLT_CFGCRC_STAT_mismatches : Fld := ⟨FLT_CFGCRC_STAT, 15, 0⟩
def FLT_LOG_MASK_classes : Fld := ⟨FLT_LOG_MASK, 18, 1⟩
def FLT_SSQ_halted : Fld := ⟨FLT_SSQ, 31, 31⟩
def FLT_SSQ_count : Fld := ⟨FLT_SSQ, 7, 0⟩
def FLT_BRIDGE_spare_up : Fld := ⟨FLT_BRIDGE, 7, 4⟩
def FLT_BRIDGE_spare_down : Fld := ⟨FLT_BRIDGE, 3, 0⟩
def FLT_RING_LO_addr_lo (i : Nat) : Fld := ⟨FLT_RING_LO i, 31, 12⟩
def FLT_RING_HI_addr_hi (i : Nat) : Fld := ⟨FLT_RING_HI i, 31, 0⟩
def FLT_RING_CFG_enable (i : Nat) : Fld := ⟨FLT_RING_CFG i, 31, 31⟩
def FLT_RING_CFG_log2_size (i : Nat) : Fld := ⟨FLT_RING_CFG i, 4, 0⟩
def FLT_RING_PROD_dropped (i : Nat) : Fld := ⟨FLT_RING_PROD i, 31, 16⟩
def FLT_RING_PROD_prod (i : Nat) : Fld := ⟨FLT_RING_PROD i, 13, 0⟩
def FLT_COUNT_count (c : Nat) : Fld := ⟨FLT_COUNT c, 31, 0⟩
def PWR_BUSY_busy : Fld := ⟨PWR_BUSY, 0, 0⟩
def PWR_STATE_busy : Fld := ⟨PWR_STATE, 31, 31⟩
def PWR_STATE_state : Fld := ⟨PWR_STATE, 25, 24⟩
def PWR_STATE_holder : Fld := ⟨PWR_STATE, 18, 16⟩
def PWR_STATE_result : Fld := ⟨PWR_STATE, 15, 8⟩
def PWR_STATE_req : Fld := ⟨PWR_STATE, 1, 0⟩
def PWR_WAKE_EN_i3c : Fld := ⟨PWR_WAKE_EN, 31, 31⟩
def PWR_WAKE_EN_weft : Fld := ⟨PWR_WAKE_EN, 21, 18⟩
def PWR_WAKE_EN_pcie : Fld := ⟨PWR_WAKE_EN, 17, 17⟩
def PWR_WAKE_EN_touch : Fld := ⟨PWR_WAKE_EN, 16, 16⟩
def PWR_WAKE_EN_ro : Fld := ⟨PWR_WAKE_EN, 15, 8⟩
def PWR_WAKE_EN_trig : Fld := ⟨PWR_WAKE_EN, 7, 0⟩
def PWR_WAKE_i3c : Fld := ⟨PWR_WAKE, 31, 31⟩
def PWR_WAKE_sources : Fld := ⟨PWR_WAKE, 21, 0⟩
def PWR_VOTE_domains (c : Nat) : Fld := ⟨PWR_VOTE c, 10, 2⟩
def PWR_DOM_lost (d : Nat) : Fld := ⟨PWR_DOM d, 31, 31⟩
def PWR_DOM_state (d : Nat) : Fld := ⟨PWR_DOM d, 9, 8⟩
def PWR_DOM_votes (d : Nat) : Fld := ⟨PWR_DOM d, 7, 0⟩
def PWR_DVFS_clamped (n : Nat) : Fld := ⟨PWR_DVFS n, 31, 31⟩
def PWR_DVFS_thermal (n : Nat) : Fld := ⟨PWR_DVFS n, 30, 30⟩
def PWR_DVFS_point (n : Nat) : Fld := ⟨PWR_DVFS n, 29, 28⟩
def PWR_DVFS_req_s (n : Nat) : Fld := ⟨PWR_DVFS n, 27, 14⟩
def PWR_DVFS_req_n (n : Nat) : Fld := ⟨PWR_DVFS n, 13, 0⟩
def PWR_I3C0_CFG_i2c : Fld := ⟨PWR_I3C0_CFG, 31, 31⟩
def PWR_I3C0_CFG_addr : Fld := ⟨PWR_I3C0_CFG, 6, 0⟩
def PWR_I3C0_IN_data : Fld := ⟨PWR_I3C0_IN, 31, 0⟩
def PWR_I3C0_OUT_data : Fld := ⟨PWR_I3C0_OUT, 31, 0⟩
def PWR_I3C1_CMD_go : Fld := ⟨PWR_I3C1_CMD, 31, 31⟩
def PWR_I3C1_CMD_done : Fld := ⟨PWR_I3C1_CMD, 30, 30⟩
def PWR_I3C1_CMD_nack : Fld := ⟨PWR_I3C1_CMD, 29, 29⟩
def PWR_I3C1_CMD_speed : Fld := ⟨PWR_I3C1_CMD, 12, 11⟩
def PWR_I3C1_CMD_len : Fld := ⟨PWR_I3C1_CMD, 10, 9⟩
def PWR_I3C1_CMD_rnw : Fld := ⟨PWR_I3C1_CMD, 8, 8⟩
def PWR_I3C1_CMD_addr : Fld := ⟨PWR_I3C1_CMD, 6, 0⟩
def PWR_I3C1_DATA_data : Fld := ⟨PWR_I3C1_DATA, 31, 0⟩
def WFT_MESH_root : Fld := ⟨WFT_MESH, 31, 31⟩
def WFT_MESH_node : Fld := ⟨WFT_MESH, 21, 16⟩
def WFT_MESH_size_y : Fld := ⟨WFT_MESH, 10, 8⟩
def WFT_MESH_size_x : Fld := ⟨WFT_MESH, 2, 0⟩
def WFT_STATUS_numbered : Fld := ⟨WFT_STATUS, 31, 31⟩
def WFT_STATUS_win_err : Fld := ⟨WFT_STATUS, 30, 30⟩
def WFT_STATUS_reachable : Fld := ⟨WFT_STATUS, 22, 16⟩
def WFT_STATUS_up : Fld := ⟨WFT_STATUS, 3, 0⟩
def WFT_FMAP_failed (j : Nat) : Fld := ⟨WFT_FMAP j, 31, 0⟩
def WFT_LINK_CTL_enable (n : Nat) : Fld := ⟨WFT_LINK_CTL n, 31, 31⟩
def WFT_LINK_CTL_x2_ok (n : Nat) : Fld := ⟨WFT_LINK_CTL n, 30, 30⟩
def WFT_LINK_CTL_retrain (n : Nat) : Fld := ⟨WFT_LINK_CTL n, 29, 29⟩
def WFT_LINK_STAT_up (n : Nat) : Fld := ⟨WFT_LINK_STAT n, 31, 31⟩
def WFT_LINK_STAT_degraded (n : Nat) : Fld := ⟨WFT_LINK_STAT n, 30, 30⟩
def WFT_LINK_STAT_failed (n : Nat) : Fld := ⟨WFT_LINK_STAT n, 29, 29⟩
def WFT_LINK_STAT_miswired (n : Nat) : Fld := ⟨WFT_LINK_STAT n, 28, 28⟩
def WFT_LINK_STAT_latency (n : Nat) : Fld := ⟨WFT_LINK_STAT n, 27, 14⟩
def WFT_LINK_STAT_replays (n : Nat) : Fld := ⟨WFT_LINK_STAT n, 13, 0⟩
def WFT_BEAT_CFG_delay : Fld := ⟨WFT_BEAT_CFG, 13, 0⟩
def WFT_BEAT_STAT_locked : Fld := ⟨WFT_BEAT_STAT, 31, 31⟩
def WFT_BEAT_STAT_holdover : Fld := ⟨WFT_BEAT_STAT, 30, 30⟩
def WFT_BEAT_STAT_behind : Fld := ⟨WFT_BEAT_STAT, 29, 29⟩
def WFT_BEAT_STAT_late : Fld := ⟨WFT_BEAT_STAT, 28, 28⟩
def WFT_BEAT_STAT_hops : Fld := ⟨WFT_BEAT_STAT, 24, 20⟩
def WFT_BEAT_STAT_accum : Fld := ⟨WFT_BEAT_STAT, 19, 0⟩
def WFT_BEAT_SLIP_missing : Fld := ⟨WFT_BEAT_SLIP, 31, 16⟩
def WFT_BEAT_SLIP_slips : Fld := ⟨WFT_BEAT_SLIP, 15, 0⟩
def WFT_FLOCK_CFG_enable : Fld := ⟨WFT_FLOCK_CFG, 31, 31⟩
def WFT_FLOCK_PERIOD_ticks : Fld := ⟨WFT_FLOCK_PERIOD, 31, 6⟩
def WFT_FLOCK_PERIOD_frac : Fld := ⟨WFT_FLOCK_PERIOD, 5, 0⟩
def WFT_FLOCK_FRAME_frame : Fld := ⟨WFT_FLOCK_FRAME, 31, 0⟩
def WFT_HEAD_WALL_offset (n : Nat) : Fld := ⟨WFT_HEAD_WALL n, 31, 0⟩
def WFT_WIN_CFG_enable (k : Nat) : Fld := ⟨WFT_WIN_CFG k, 31, 31⟩
def WFT_WIN_CFG_kind (k : Nat) : Fld := ⟨WFT_WIN_CFG k, 30, 29⟩
def WFT_WIN_CFG_node (k : Nat) : Fld := ⟨WFT_WIN_CFG k, 21, 16⟩
def WFT_WIN_BASE_LO_addr_lo (k : Nat) : Fld := ⟨WFT_WIN_BASE_LO k, 31, 26⟩
def WFT_WIN_BASE_HI_addr_hi (k : Nat) : Fld := ⟨WFT_WIN_BASE_HI k, 31, 0⟩
def WFT_BC_SRC_LO_addr_lo : Fld := ⟨WFT_BC_SRC_LO, 31, 6⟩
def WFT_BC_SRC_HI_addr_hi : Fld := ⟨WFT_BC_SRC_HI, 31, 0⟩
def WFT_BC_DST_LO_addr_lo : Fld := ⟨WFT_BC_DST_LO, 31, 6⟩
def WFT_BC_DST_HI_addr_hi : Fld := ⟨WFT_BC_DST_HI, 31, 0⟩
def WFT_BC_LEN_bytes : Fld := ⟨WFT_BC_LEN, 31, 0⟩
def WFT_BC_MASK_LO_nodes : Fld := ⟨WFT_BC_MASK_LO, 31, 0⟩
def WFT_BC_MASK_HI_nodes : Fld := ⟨WFT_BC_MASK_HI, 31, 0⟩
def WFT_BC_CMD_go : Fld := ⟨WFT_BC_CMD, 31, 31⟩
def WFT_BC_CMD_busy : Fld := ⟨WFT_BC_CMD, 30, 30⟩
def WFT_BC_CMD_done : Fld := ⟨WFT_BC_CMD, 29, 29⟩
def WFT_BC_CMD_inst : Fld := ⟨WFT_BC_CMD, 20, 16⟩
def WFT_BC_CMD_status : Fld := ⟨WFT_BC_CMD, 7, 0⟩
def WFT_BC_FAIL_LO_nodes : Fld := ⟨WFT_BC_FAIL_LO, 31, 0⟩
def WFT_BC_FAIL_HI_nodes : Fld := ⟨WFT_BC_FAIL_HI, 31, 0⟩
def HIF_CTL_relaxed : Fld := ⟨HIF_CTL, 0, 0⟩
def GLB_ID_part : Fld := ⟨GLB_ID, 31, 16⟩
def GLB_ID_stepping : Fld := ⟨GLB_ID, 15, 8⟩
def GLB_ID_grade : Fld := ⟨GLB_ID, 7, 0⟩
def GLB_BUSY_busy : Fld := ⟨GLB_BUSY, 0, 0⟩
def GLB_MODE_pins : Fld := ⟨GLB_MODE, 5, 4⟩
def GLB_MODE_source : Fld := ⟨GLB_MODE, 3, 2⟩
def GLB_MODE_mode : Fld := ⟨GLB_MODE, 1, 0⟩
def GLB_STATUS_refused : Fld := ⟨GLB_STATUS, 5, 5⟩
def GLB_STATUS_post_drop : Fld := ⟨GLB_STATUS, 4, 4⟩
def GLB_STATUS_lpw_range : Fld := ⟨GLB_STATUS, 3, 3⟩
def GLB_STATUS_guard_abort : Fld := ⟨GLB_STATUS, 2, 2⟩
def GLB_STATUS_width : Fld := ⟨GLB_STATUS, 1, 1⟩
def GLB_STATUS_hole : Fld := ⟨GLB_STATUS, 0, 0⟩
def GLB_POSTERR_count : Fld := ⟨GLB_POSTERR, 31, 16⟩
def GLB_POSTERR_block : Fld := ⟨GLB_POSTERR, 7, 0⟩
def GLB_RST_device : Fld := ⟨GLB_RST, 31, 31⟩
def GLB_RST_channel : Fld := ⟨GLB_RST, 3, 0⟩
def GLB_RST_G_twin : Fld := ⟨GLB_RST_G, 31, 0⟩
def GLB_LPW_BASE_base : Fld := ⟨GLB_LPW_BASE, 5, 0⟩
def GLB_INTPIN_enable : Fld := ⟨GLB_INTPIN, 31, 31⟩
def GLB_INTPIN_high : Fld := ⟨GLB_INTPIN, 30, 30⟩
def GLB_INTPIN_source : Fld := ⟨GLB_INTPIN, 1, 0⟩
def GLB_BOOT_phase : Fld := ⟨GLB_BOOT, 31, 28⟩
def GLB_BOOT_error : Fld := ⟨GLB_BOOT, 27, 24⟩
def GLB_BOOT_copy : Fld := ⟨GLB_BOOT, 23, 22⟩
def GLB_BOOT_key : Fld := ⟨GLB_BOOT, 21, 20⟩
def GLB_BOOT_ms : Fld := ⟨GLB_BOOT, 19, 0⟩
def GLB_BOOT_IMG_LO_addr_lo : Fld := ⟨GLB_BOOT_IMG_LO, 31, 12⟩
def GLB_BOOT_IMG_HI_addr_hi : Fld := ⟨GLB_BOOT_IMG_HI, 31, 0⟩
def GLB_BOOT_CMD_go : Fld := ⟨GLB_BOOT_CMD, 31, 31⟩
def GLB_BOOT_CMD_result : Fld := ⟨GLB_BOOT_CMD, 7, 0⟩
def UDC_ID_id : Fld := ⟨UDC_ID, 31, 0⟩
def UDC_STAT_draft_fault : Fld := ⟨UDC_STAT, 4, 4⟩
def UDC_STAT_tst_ign : Fld := ⟨UDC_STAT, 3, 3⟩
def UDC_STAT_gabort : Fld := ⟨UDC_STAT, 2, 2⟩
def UDC_STAT_ovr : Fld := ⟨UDC_STAT, 1, 1⟩
def UDC_STAT_busy : Fld := ⟨UDC_STAT, 0, 0⟩
def UDC_CTL_fast_vsync : Fld := ⟨UDC_CTL, 29, 29⟩
def UDC_CTL_enable : Fld := ⟨UDC_CTL, 0, 0⟩
def UDC_INT_STAT_events : Fld := ⟨UDC_INT_STAT, 14, 0⟩
def UDC_INT_EN_enables : Fld := ⟨UDC_INT_EN, 14, 0⟩
def UDC_RST_all : Fld := ⟨UDC_RST, 31, 31⟩
def UDC_RST_head : Fld := ⟨UDC_RST, 3, 0⟩
def UDC_RST_G_twin : Fld := ⟨UDC_RST_G, 31, 0⟩
def UDC_PWR_standby : Fld := ⟨UDC_PWR, 31, 31⟩
def UDC_PWR_clkdiv : Fld := ⟨UDC_PWR, 5, 4⟩
def UDC_PWR_head_off : Fld := ⟨UDC_PWR, 3, 0⟩
def UDC_PWR_G_twin : Fld := ⟨UDC_PWR_G, 31, 0⟩
def UDC_H_CTL_tpat (h : Nat) : Fld := ⟨UDC_H_CTL h, 31, 31⟩
def UDC_H_CTL_timing_bad (h : Nat) : Fld := ⟨UDC_H_CTL h, 3, 3⟩
def UDC_H_CTL_pending (h : Nat) : Fld := ⟨UDC_H_CTL h, 2, 2⟩
def UDC_H_CTL_update (h : Nat) : Fld := ⟨UDC_H_CTL h, 1, 1⟩
def UDC_H_CTL_enable (h : Nat) : Fld := ⟨UDC_H_CTL h, 0, 0⟩
def UDC_H_HTIME_htotal (h : Nat) : Fld := ⟨UDC_H_HTIME h, 29, 16⟩
def UDC_H_HTIME_hactive (h : Nat) : Fld := ⟨UDC_H_HTIME h, 13, 0⟩
def UDC_H_HSYNC_hpol (h : Nat) : Fld := ⟨UDC_H_HSYNC h, 31, 31⟩
def UDC_H_HSYNC_hsync (h : Nat) : Fld := ⟨UDC_H_HSYNC h, 29, 16⟩
def UDC_H_HSYNC_hfront (h : Nat) : Fld := ⟨UDC_H_HSYNC h, 13, 0⟩
def UDC_H_VTIME_vtotal (h : Nat) : Fld := ⟨UDC_H_VTIME h, 29, 16⟩
def UDC_H_VTIME_vactive (h : Nat) : Fld := ⟨UDC_H_VTIME h, 13, 0⟩
def UDC_H_VSYNC_vpol (h : Nat) : Fld := ⟨UDC_H_VSYNC h, 31, 31⟩
def UDC_H_VSYNC_vsync (h : Nat) : Fld := ⟨UDC_H_VSYNC h, 29, 16⟩
def UDC_H_VSYNC_vfront (h : Nat) : Fld := ⟨UDC_H_VSYNC h, 13, 0⟩
def UDC_H_PCLK_khz (h : Nat) : Fld := ⟨UDC_H_PCLK h, 21, 0⟩
def UDC_H_BG_colour (h : Nat) : Fld := ⟨UDC_H_BG h, 23, 0⟩
def UDC_H_FRAME_frame (h : Nat) : Fld := ⟨UDC_H_FRAME h, 31, 0⟩
def UDC_P_CTL_enable (h : Nat) (p : Nat) : Fld := ⟨UDC_P_CTL h p, 31, 31⟩
def UDC_P_CTL_format (h : Nat) (p : Nat) : Fld := ⟨UDC_P_CTL h p, 30, 28⟩
def UDC_P_CTL_mode (h : Nat) (p : Nat) : Fld := ⟨UDC_P_CTL h p, 27, 26⟩
def UDC_P_CTL_galpha (h : Nat) (p : Nat) : Fld := ⟨UDC_P_CTL h p, 7, 0⟩
def UDC_P_POS_y (h : Nat) (p : Nat) : Fld := ⟨UDC_P_POS h p, 27, 16⟩
def UDC_P_POS_x (h : Nat) (p : Nat) : Fld := ⟨UDC_P_POS h p, 11, 0⟩
def UDC_P_SIZE_h (h : Nat) (p : Nat) : Fld := ⟨UDC_P_SIZE h p, 27, 16⟩
def UDC_P_SIZE_w (h : Nat) (p : Nat) : Fld := ⟨UDC_P_SIZE h p, 11, 0⟩
def UDC_P_ADDR_addr (h : Nat) (p : Nat) : Fld := ⟨UDC_P_ADDR h p, 28, 6⟩
def UDC_P_PITCH_pitch (h : Nat) (p : Nat) : Fld := ⟨UDC_P_PITCH h p, 15, 0⟩
def UDC_P_KEY_key (h : Nat) (p : Nat) : Fld := ⟨UDC_P_KEY h p, 23, 0⟩
def UDC_P_CUR_addr (h : Nat) (p : Nat) : Fld := ⟨UDC_P_CUR h p, 28, 6⟩
def UDC_R_POS_y (h : Nat) (r : Nat) : Fld := ⟨UDC_R_POS h r, 27, 16⟩
def UDC_R_POS_x (h : Nat) (r : Nat) : Fld := ⟨UDC_R_POS h r, 11, 0⟩
def UDC_R_SIZE_h (h : Nat) (r : Nat) : Fld := ⟨UDC_R_SIZE h r, 27, 16⟩
def UDC_R_SIZE_w (h : Nat) (r : Nat) : Fld := ⟨UDC_R_SIZE h r, 11, 0⟩
def UDC_R_EXP_exp (h : Nat) (r : Nat) : Fld := ⟨UDC_R_EXP h r, 15, 0⟩
def UDC_R_CTL_enable (h : Nat) (r : Nat) : Fld := ⟨UDC_R_CTL h r, 31, 31⟩
def UDC_R_CTL_mismatch (h : Nat) (r : Nat) : Fld := ⟨UDC_R_CTL h r, 30, 30⟩
def UDC_R_CTL_freeze (h : Nat) (r : Nat) : Fld := ⟨UDC_R_CTL h r, 15, 15⟩
def UDC_R_GOT_got (h : Nat) (r : Nat) : Fld := ⟨UDC_R_GOT h r, 15, 0⟩
def UDC_BLT_SRC_src : Fld := ⟨UDC_BLT_SRC, 28, 0⟩
def UDC_BLT_DST_dst : Fld := ⟨UDC_BLT_DST, 28, 0⟩
def UDC_BLT_PITCH_dpitch : Fld := ⟨UDC_BLT_PITCH, 31, 16⟩
def UDC_BLT_PITCH_spitch : Fld := ⟨UDC_BLT_PITCH, 15, 0⟩
def UDC_BLT_SIZE_h : Fld := ⟨UDC_BLT_SIZE, 27, 16⟩
def UDC_BLT_SIZE_w : Fld := ⟨UDC_BLT_SIZE, 11, 0⟩
def UDC_BLT_FILL_fill : Fld := ⟨UDC_BLT_FILL, 31, 0⟩
def UDC_BLT_CTL_go : Fld := ⟨UDC_BLT_CTL, 31, 31⟩
def UDC_BLT_CTL_busy : Fld := ⟨UDC_BLT_CTL, 30, 30⟩
def UDC_BLT_CTL_err : Fld := ⟨UDC_BLT_CTL, 29, 29⟩
def UDC_BLT_CTL_op : Fld := ⟨UDC_BLT_CTL, 4, 4⟩
def UDC_BLT_CTL_bpp : Fld := ⟨UDC_BLT_CTL, 0, 0⟩
def UDC_MIX_CTL_apply : Fld := ⟨UDC_MIX_CTL, 31, 31⟩
def UDC_MIX_CTL_pending : Fld := ⟨UDC_MIX_CTL, 30, 30⟩
def UDC_MIX_gain (o : Nat) (j : Nat) : Fld := ⟨UDC_MIX o j, 7, 0⟩
def UDC_CHM_FREQ_freq (c : Nat) : Fld := ⟨UDC_CHM_FREQ c, 15, 0⟩
def UDC_CHM_TIME_off_ms (c : Nat) : Fld := ⟨UDC_CHM_TIME c, 31, 16⟩
def UDC_CHM_TIME_on_ms (c : Nat) : Fld := ⟨UDC_CHM_TIME c, 15, 0⟩
def UDC_CHM_CTL_go (c : Nat) : Fld := ⟨UDC_CHM_CTL c, 31, 31⟩
def UDC_CHM_CTL_stop (c : Nat) : Fld := ⟨UDC_CHM_CTL c, 30, 30⟩
def UDC_CHM_CTL_running (c : Nat) : Fld := ⟨UDC_CHM_CTL c, 29, 29⟩
def UDC_CHM_CTL_vol (c : Nat) : Fld := ⟨UDC_CHM_CTL c, 23, 16⟩
def UDC_CHM_CTL_repeats (c : Nat) : Fld := ⟨UDC_CHM_CTL c, 15, 0⟩
def UDC_TCH_CTL_enable (p : Nat) : Fld := ⟨UDC_TCH_CTL p, 31, 31⟩
def UDC_TCH_CTL_raw (p : Nat) : Fld := ⟨UDC_TCH_CTL p, 30, 30⟩
def UDC_TCH_FIFO_entry (p : Nat) : Fld := ⟨UDC_TCH_FIFO p, 31, 0⟩
def UDC_TCH_STAT_ovf (p : Nat) : Fld := ⟨UDC_TCH_STAT p, 8, 8⟩
def UDC_TCH_STAT_count (p : Nat) : Fld := ⟨UDC_TCH_STAT p, 4, 0⟩

end Sys2Proof.Machine.Reg
end

