-- ==== Sys2Proof/Machine/Sparse.lean ====
section
/-!
DEFINITION. Sparse tables: data kept by a number, as a list of (number, value) pairs in one canonical form, with a
value of its own for every number that is not listed. Registers, byte memories and the families of like units are held so.
-/

namespace Sys2Proof.Machine

/-- What table `m` holds at `k`; an unlisted number holds `dflt k`. -/
def tget {α : Type} (dflt : Nat → α) (m : List (Nat × α)) (k : Nat) : α :=
  match m with
  | [] => dflt k
  | (j, x) :: r => if j = k then x else tget dflt r k

/-- Table `m` with value `v` listed at `k`, in rising order. -/
def tput {α : Type} (m : List (Nat × α)) (k : Nat) (v : α) : List (Nat × α) :=
  match m with
  | [] => [(k, v)]
  | (j, x) :: r =>
    if k < j then (k, v) :: (j, x) :: r else if j = k then (k, v) :: r else (j, x) :: tput r k v

/-- Table `m` with nothing listed at `k`. -/
def tdel {α : Type} (m : List (Nat × α)) (k : Nat) : List (Nat × α) :=
  match m with
  | [] => []
  | (j, x) :: r => if j = k then tdel r k else (j, x) :: tdel r k

/-- Table `m` after `v` is written at `k`: a value that an unlisted number holds anyway is not listed. -/
def tset {α : Type} [DecidableEq α] (dflt : Nat → α) (m : List (Nat × α)) (k : Nat) (v : α) : List (Nat × α) :=
  if v = dflt k then tdel m k else tput m k v

/-- The numbers listed in a table, in order. -/
def tkeys {α : Type} (m : List (Nat × α)) : List Nat := m.map (·.1)

/-- The canonical form: numbers strictly rising, and no entry equal to what its number holds unlisted. -/
def twf {α : Type} [DecidableEq α] (dflt : Nat → α) : List (Nat × α) → Bool
  | [] => true
  | (j, x) :: r => decide (x ≠ dflt j) && (r.map (·.1)).all (fun k => decide (j < k)) && twf dflt r

end Sys2Proof.Machine
end

