-- ==== Sys2Proof/Machine/State.lean ====
section
/-!
DEFINITION. The state of the D8 as plain data: the register map, the memories, and the state of every block that no
register shows; the queue of waiting commands; the reasons a command can stop; and the state right after reset.
Families of like units are sparse tables (Machine/Sparse.lean): a unit that is not listed is in its reset state.
-/

namespace Sys2Proof.Machine

/-- Why the machine stops with a fault. No command of the manual stops the D8, so nothing raises one; the constructor
stands for a state that the model cannot leave and is never answered. Safe. -/
inductive Fault where
  /-- Raised by nobody. Safe. -/
  | stuck
  deriving DecidableEq, Repr

/-- Why a command is refused. -/
inductive Refusal where
  /-- The arm of a command that has no meaning yet answers it, with the command's name. Safe: nothing is claimed. -/
  | notModelled (mnemonic : String)
  deriving DecidableEq, Repr

/-- What the last command showed to the outside: the data of a read, a message, a pin. Cleared as each command starts. -/
inductive Out where
  | data (v : Nat)
  | bytes (bs : List Byte)
  | msix (fn vec : Nat)
  | inta (level : Bool)
  | crs
  | permit (yes : Bool)
  | pin (name : String) (n level : Nat)
  | flit (link : Nat) (bs : List Byte)
  | event (inst vec : Nat)
  | block (link : Nat) (name : String) (fields : List Nat)
  | pixels (port : Nat) (row : List Nat)
  | samples (port : Nat) (xs : List Int)
  deriving DecidableEq, Repr

/-! ### Memories -/

/-- A cached translation of one page of an instance (R297). -/
structure TlbEntry where
  inst : Nat
  page : Nat
  frame : Nat
  host : Bool
  writable : Bool
  dirty : Bool
  leaf : Nat
  deriving DecidableEq, Repr

/-- A host-frame translation cached under ATS (R296). -/
structure AtsEntry where
  fn : Nat
  pasid : Nat
  page : Nat
  deriving DecidableEq, Repr

/-- The byte memories and what the D8 caches of them; `relaxed` is the relaxed-ordering attribute of the last write to host memory. -/
structure Mems where
  lp5x : List (Nat × Byte)
  host : List (Nat × Byte)
  flash : List (Nat × Byte)
  mram : List (Nat × Byte)
  poison : List Nat
  tlb : List TlbEntry
  ats : List AtsEntry
  relaxed : Bool
  deriving DecidableEq, Repr

/-! ### The beat -/

/-- The beat generator and the beat receiver (R18 to R27). -/
structure Beat where
  started : Bool
  sbeat : Nat
  stick : Nat
  clock : Nat
  samples : Nat
  tRef : Nat
  sRef : Nat
  nextSamples : Option Nat
  afterSamples : Option Nat
  clockGood : Bool
  grants : Bool
  deriving DecidableEq, Repr

/-! ### Sequencers -/

/-- What a pass waits for. -/
inductive Wait where
  | running
  | tick (wake : Nat)
  | event (rd mask deadline : Nat)
  | port (rd addr : Nat)
  | seed (rd : Nat) (reg value : Word)
  | post (addr : Nat) (value : Word)
  deriving DecidableEq, Repr

/-- The OVERRUN trap of a pass (R34, R54, R73): none, due at the end of the stall in which the overrun fell, or taken. -/
inductive OvrTrap where
  | none
  | due
  | taken
  deriving DecidableEq, Repr

/-- A post in a slot: its class, the address of its block and whether its image is gone (R61, R78). -/
structure Post where
  cls : Nat
  block : Nat
  stale : Bool
  deriving DecidableEq, Repr

/-- A ray query in a slot (R69): its block, its channel, its instance, the clock at which it arrived, and the words of the
block as `RAYQ` read them. -/
structure RayQuery where
  block : Nat
  ch : Nat
  inst : Nat
  arrival : Nat
  words : List Word
  stale : Bool
  deriving DecidableEq, Repr

/-- A draft image as the loader accepted it (R75): its entries, its text words and its data words. -/
structure Image where
  passEntry : Nat
  initEntry : Nat
  trapVector : Nat
  bss : Nat
  text : List Word
  data : List Word
  deriving DecidableEq, Repr

/-- One sequencer (R46, R49). `g` holds g1 to g15; `imem` and `dmem` hold the current banks by word; `idle` the other DMEM bank; `next` the image in
the idle banks that waits to become current, `cur` the current image; `ovr` the OVERRUN trap of the pass, `flight` the ticks at
which the `PST` in flight arrive (R57), `pldBy` the tick by which a `PLD` must be answered (R58), and `loadAt` the address that a
load took when it began (R77). -/
structure Seq where
  g : List (Nat × Word)
  pc : Nat
  z : Bool
  n : Bool
  c : Bool
  v : Bool
  inTrap : Bool
  saved : Nat
  sbeatCap : Nat
  sevent : Nat
  spass : Nat
  sbudget : Nat
  sepc : Word
  scause : Nat
  stval : Word
  stvec : Word
  sscratch : Word
  now : Nat
  running : Bool
  halted : Bool
  imageValid : Bool
  fresh : Bool
  wait : Wait
  overrun : Option Nat
  entries : Nat × Nat
  imem : List (Nat × Word)
  dmem : List (Nat × Word)
  idle : List (Nat × Word)
  loading : Bool
  next : Option Image
  cur : Option Image
  posts : List (Nat × Option Post)
  rays : List (Nat × Option RayQuery)
  postSerial : Nat
  raySerial : Nat
  commitSerial : Nat
  seedBusy : Bool
  loadRd : Nat
  ovr : OvrTrap
  flight : List Nat
  pldBy : Nat
  loadAt : Nat
  deriving DecidableEq, Repr

/-- A sequencer at reset: no image, so no pass runs; IMEM holds all-ones words (R51) and DMEM zeros. -/
def Seq.reset : Seq :=
  { g := [], pc := 0, z := false, n := false, c := false, v := false, inTrap := false, saved := 0, sbeatCap := 0,
    sevent := 0, spass := 0, sbudget := 0, sepc := 0, scause := 0, stval := 0, stvec := 0, sscratch := 0, now := 0,
    running := false, halted := false, imageValid := false, fresh := false, wait := .running, overrun := none,
    entries := (0, 0), imem := [], dmem := [], idle := [], loading := false, next := none, cur := none, posts := [], rays := [], postSerial := 0,
    raySerial := 0, commitSerial := 0, seedBusy := false, loadRd := 0, ovr := .none, flight := [], pldBy := 0, loadAt := 0 }

/-! ### Faults -/

/-- A fault record raised in the current beat and not yet written (R362, R365). -/
structure FaultRec where
  cls : Nat
  cause : Nat
  secure : Bool
  corrected : Bool
  block : Nat
  unit : Nat
  sub : Nat
  inst : Option Nat
  time : Nat
  addr : Nat
  infoA : Nat
  infoB : Nat
  merged : Nat
  deriving DecidableEq, Repr

/-- The integrity block (R345 to R365). `outage` lists the units that reset, by number with the clock at which each serves again: 0 to
3 the channels, 16 the host complex, 17 the audio complex, 18 the memory complex, 19 the Weft complex, and 256 + 16 c + k cluster k of
channel c. -/
structure Flt where
  raised : List FaultRec
  serial : Nat
  cfgRef : Nat
  commit : Bool
  passOn : Bool
  ssqFaults : List Nat
  lostCompute : Bool
  lostMixed : Bool
  outage : List (Nat × Nat)
  deriving DecidableEq, Repr

/-! ### Work items -/

/-- A started item's save area: the slot of a channel under R105. -/
structure SlotRef where
  ch : Nat
  slot : Nat
  deriving DecidableEq, Repr

/-- An item of the item table (R83) whose completion is not decided; `firstAt` is the beat time of its first pick
or commit. `stage` tells which engine has it: 0 none, 1 a pick, 2 the compositor context, 3 a copy engine, 4 a taken FLIP, 5 a bound FLIP, 6 the queue
front end. -/
structure Item where
  uid : Nat
  inst : Nat
  queue : Nat
  desc : List Byte
  time : Nat
  started : Bool
  preempted : Bool
  picks : Nat
  ovf : Nat
  firstAt : Option Nat
  slot : Option SlotRef
  stage : Nat
  deriving DecidableEq, Repr

/-- A pick under way, or held to the next grant (R29 to R33): its block, its item, the clusters that its block names, its budget and
the clock of its start; the end code and the clock of its preemption; and the cluster-ticks that it had used at clock `since`
(R301). -/
structure Pick where
  ch : Nat
  sq : Nat
  slot : Nat
  block : Nat
  inst : Nat
  item : Nat
  mask : Nat
  budget : Nat
  start : Nat
  held : Bool
  preempt : Option (Nat × Nat)
  since : Nat
  used : Nat
  deriving DecidableEq, Repr

/-- A completion record that is decided and not yet written (R94); its item entry stays reserved. -/
structure Held where
  inst : Nat
  irq : Bool
  bytes : List Byte
  deriving DecidableEq, Repr

/-- The clusters of a pick that ended because one of them overstayed (R32): the post slot, the channel and the instance of the pick, the
clusters that are not accounted for yet, and the clock at which the time for the release ended. -/
structure Over where
  sq : Nat
  slot : Nat
  ch : Nat
  inst : Nat
  left : Nat
  clock : Nat
  deriving DecidableEq, Repr

/-- Work queues, items and harvest rings beyond their registers (R80 to R96); `unsig` counts the unsignalled records of an instance
with the beat time of the oldest, and `last` holds the clock of the last completion with its place in the order of R87; `overs` what R32 may still find
overstaying. -/
structure Queues where
  prod : List (Nat × Nat)
  turn : List (Nat × Nat)
  items : List Item
  held : List Held
  nextUid : Nat
  picks : List Pick
  unsig : List (Nat × (Nat × Nat))
  last : Nat × Nat
  overs : List Over
  deriving DecidableEq, Repr

/-! ### Instances, worlds and locks -/

/-- An instance beyond its registers: its settings (R299), whether SETUP was ever made, a pending SHARE, its dirty log ring,
the call that continues, and its freeze time. -/
structure Inst where
  setup : Bool
  root : Nat
  pasid : Nat
  share : Option (Nat × Nat × Nat)
  dlogBase : Nat
  dlogLog2 : Nat
  op : Option Nat
  opArg : Nat × Nat
  frozenAt : Nat
  deriving DecidableEq, Repr

/-- An instance at reset: no SETUP, so no page-table root (R295). -/
def Inst.reset : Inst :=
  { setup := false, root := 0, pasid := 0, share := none, dlogBase := 0, dlogLog2 := 6, op := none, opArg := (0, 0),
    frozenAt := 0 }

/-- A hand-over in progress (R314): the kind of block (0 touch, 1 haptic, 2 generator, 3 lock cell), its number and the
world it goes to. -/
structure Handover where
  kind : Nat
  unit : Nat
  secure : Bool
  deriving DecidableEq, Repr

/-- A guarded sequence that waits for its twin (R417): who opened it, the register and the value held. -/
structure Guarded where
  agent : Agent
  addr : Nat
  value : Word
  deriving DecidableEq, Repr

/-- A write that a posted block has accepted and not yet performed (R414). -/
structure Posted where
  agent : Agent
  addr : Nat
  value : Word
  deriving DecidableEq, Repr

/-! ### Copy engines -/

/-- Who submitted a chain: an item, a post slot of a sequencer, or the blitter of the legacy front end. -/
inductive ChainSrc where
  | item (uid : Nat)
  | post (sq slot block : Nat)
  | blit
  deriving DecidableEq, Repr

/-- A chain that waits or runs (R284). -/
structure Chain where
  src : ChainSrc
  addr : Nat
  deriving DecidableEq, Repr

/-- A copy engine: the chain that runs and those that wait, in order of arrival. -/
structure Copy where
  run : Option Chain
  since : Nat
  waiting : List Chain
  deriving DecidableEq, Repr

def Copy.reset : Copy := { run := none, since := 0, waiting := [] }

/-! ### The seed store -/

/-- What the mirror holds of a seed register (R328, R334): its value, its total writes, the spare pairs it has used, the
MRAM offset of its current pair, and its marks. -/
structure SeedReg where
  value : Nat
  total : Nat
  used : Nat
  pair : Nat
  worn : Bool
  degraded : Bool
  blank : Bool
  deriving DecidableEq, Repr

/-- A seed register that has never been written (R323). -/
def SeedReg.blankAt (i : Nat) : SeedReg :=
  { value := 0, total := 0, used := 0, pair := i * 32, worn := false, degraded := false, blank := true }

/-- Who asked for a seed write: a sequencer, a SEED item, or an RWP write of a world (R325). -/
inductive SeedSrc where
  | seq (n : Nat)
  | item (uid : Nat)
  | rwp (secure : Bool)
  deriving DecidableEq, Repr

/-- An accepted register write (R325). -/
structure SeedWrite where
  src : SeedSrc
  reg : Nat
  value : Nat
  deriving DecidableEq, Repr

/-- Who is told of a record's end: the training logic, the audio block, a front end, or SEED_REC_CMD. -/
inductive RecordSrc where
  | training
  | audio
  | touch (n : Nat)
  | presets
  deriving DecidableEq, Repr

/-- A record that is being stored (R339): its slots, header fields and payload. -/
structure RecordJob where
  src : RecordSrc
  kind : Nat
  unit : Nat
  base : Nat
  size : Nat
  slots : Nat
  extra : Nat
  payload : List Byte
  deriving DecidableEq, Repr

/-- The seed store beyond its registers and its MRAM. `bad` lists the MRAM words of 64 bits whose code is uncorrectable
(R332, R337); `logNext` and `hourNext` are the next entries of the fault log and the hour meter. -/
structure Seed where
  mirror : List (Nat × SeedReg)
  queue : List SeedWrite
  records : List RecordJob
  logRoom : Nat
  logNext : Nat
  logSeq : Nat
  hourNext : Nat
  parked : Bool
  bad : List Nat
  deriving DecidableEq, Repr

/-! ### Power -/

/-- What reaches the power controller before an edge (R372): a vote word of a client, or a POWER item. -/
inductive VoteOp where
  | vote (client value : Nat)
  | item (uid : Nat)
  deriving DecidableEq, Repr

/-- An access of the host that arrives while the device sleeps (R379): a register write of one dword, an access to BAR4, or a configuration
request. -/
inductive Tlp where
  | reg (agent : Agent) (addr : Nat) (value : Word)
  | bar4 (offset n : Nat) (data : Option (List Byte))
  | config (fn : Nat) (op : ConfigOp)
  deriving DecidableEq, Repr

/-- The power controller beyond its registers (R368 to R381). `supply` lists the domains whose supply is lost, `votes`
what waits for the next edge, `waits` the POWER items that wait for a domain; `req` a state request with whether the SSQ
made it; `target` the state being entered; `latched` the wake events to replay;
`heldTlp` the host accesses that wait for the exit; `i3c1` whether a transfer of I3C_1 runs. -/
structure Power where
  supply : List Nat
  votes : List VoteOp
  waits : List Nat
  req : Option (Nat × Bool)
  target : Option Nat
  latched : List Nat
  exiting : Bool
  linkL2 : Bool
  wakeN : Bool
  tjHigh : Bool
  dynAddr : Option Nat
  heldTlp : List Tlp
  i3c1 : Bool
  deriving DecidableEq, Repr

/-! ### The raster engine -/

/-- A line that L2 of a channel holds (R102, R104): which line (twice its number, plus one for host memory), its bytes, the
mask of its dirty bytes, the items that dirtied it, and whether it is pinned. -/
structure L2Line where
  key : Nat
  data : List Byte
  dirty : Nat
  items : List Nat
  pinned : Bool
  deriving DecidableEq, Repr

/-- A line that the texture L1 of a cluster holds (R103). -/
structure L1Line where
  ch : Nat
  cluster : Nat
  key : Nat
  data : List Byte
  deriving DecidableEq, Repr

/-- An attachment of a pass (R98): its index, format, load op (0 LOAD, 1 CLEAR, 2 DONT_CARE), store op, addresses and clear
value. -/
structure Attach where
  idx : Nat
  fmt : Nat
  load : Nat
  discard : Bool
  addr : Nat
  clear : Nat
  spill : Nat
  deriving DecidableEq, Repr

/-- What a vertex wave exported for one vertex (R154): clip-space position and attribute components. -/
structure Vtx where
  pos : List Word
  attrs : List (Nat × Word)
  deriving DecidableEq, Repr

/-- What STATE and BIND set (R98): the STATE packet, and the addresses of the resource table, the vertex buffer table and the constant
block. A draw or a dispatch keeps what was set when it was read. -/
structure Bound where
  words : List Byte
  res : Nat
  vbuf : Nat
  consts : Nat
  deriving DecidableEq, Repr

/-- A draw under way (R97, R98): its DRAW fields, what was bound, the vertex buffer table and the program headers that it checked (no
fragment header: depth-only), what rasterisation makes of its primitives by their number, and how many of its vertices have started and of its
primitives have been assembled. -/
structure DrawState where
  topo : Nat
  idxSize : Nat
  count : Nat
  insts : Nat
  first : Nat
  voff : Int
  firstInst : Nat
  idxAddr : Nat
  bound : Bound
  table : List Byte
  vhead : List Byte
  fhead : List Byte
  cover : List Prim
  next : Nat
  taken : Nat
  deriving DecidableEq, Repr

/-- A dispatch under way (R98): its workgroup counts, what was bound, its program's header and the workgroups that have started. -/
structure DispState where
  nx : Nat
  ny : Nat
  nz : Nat
  bound : Bound
  head : List Byte
  started : List Nat
  deriving DecidableEq, Repr

/-- The list of a tile in the bin pool (R106): the block that is written now and its references, oldest first. -/
structure BinList where
  block : Nat
  refs : List Nat
  deriving DecidableEq, Repr

/-- A pass (R99, R106, R107): its area, attachments, the bin pool in use, the lists of its tiles, the flushed map, the
tiles that were rendered, and the texels that tile memory holds and has not stored. -/
structure PassState where
  width : Nat
  height : Nat
  samples : Nat
  atts : List Attach
  attaching : Bool
  blocks : Nat
  lists : List (Nat × BinList)
  flushed : List Nat
  rendered : List Nat
  texels : List (Nat × Nat)
  deriving DecidableEq, Repr

/-- A fragment that binning has passed on and that is not shaded yet (R97): its draw, its primitive's number there, and the vertices of
that primitive. -/
structure Covered where
  draw : Nat
  prim : Nat
  frag : Frag
  va : Nat
  vb : Nat
  vc : Nat
  deriving DecidableEq, Repr

/-- What the raster engine keeps of a started item (R98, R109): the channel it runs on, its position in the command
buffer, what STATE and BIND set, its pass, its draws with their vertex results and the fragments that wait for shading, its dispatches,
and how many bytes its save area holds. -/
structure Run where
  uid : Nat
  ch : Nat
  pos : Nat
  bound : Bound
  pass : Option PassState
  draws : List DrawState
  vtx : List (Nat × Vtx)
  frags : List Covered
  disps : List DispState
  area : Nat
  deriving DecidableEq, Repr

/-- A fragment lane (R132): its pixel, covered samples, depth and the three vertices of its primitive. -/
structure FragLane where
  x : Nat
  y : Nat
  mask : Nat
  depth : Word
  va : Nat
  vb : Nat
  vc : Nat
  deriving DecidableEq, Repr

/-- A wave (R128 to R132). `kind` is 0 vertex, 1 fragment, 2 compute; `v` holds lane l of register r at 32 r + l; `issue` is its issue
slot; `words` the STATE packet of its draw; `base` the first vertex of a vertex wave; `outs` what its lanes exported: key 256 × lane plus
0 to 15 for colour components, 16 for depth, 32 to 35 for the position and 64 on for attributes. -/
structure Wave where
  id : Nat
  uid : Nat
  ch : Nat
  cluster : Option Nat
  kind : Nat
  prog : Nat
  vregs : Nat
  sregs : Nat
  wgmem : Nat
  text : Nat
  early : Bool
  wdepth : Bool
  kills : Bool
  slots : Nat
  v : List (Nat × Word)
  s : List (Nat × Word)
  p : List (Nat × Word)
  amask : Word
  live : Word
  q : Bool
  pc : Nat
  group : Nat
  barrier : Bool
  issue : Nat
  words : List Byte
  base : Nat
  frags : List (Nat × FragLane)
  outs : List (Nat × Word)
  deriving DecidableEq, Repr

/-- A compute workgroup and its workgroup memory (R130). -/
structure Group where
  id : Nat
  uid : Nat
  size : Nat
  mem : List (Nat × Byte)
  deriving DecidableEq, Repr

/-- A compositor context (R112, R113): who posted it, its head, its item, the clusters it asked for and holds, the
clock at which it took its first cluster, and the cluster-ticks that it had used at clock `since` (R301). -/
structure Ctx where
  sq : Nat
  slot : Nat
  block : Nat
  head : Nat
  inst : Nat
  item : Nat
  mask : Nat
  taken : Nat
  start : Option Nat
  since : Nat
  used : Nat
  deriving DecidableEq, Repr

/-- A save area as SAVE wrote it into an image (R306): its bytes, and the state that the raster engine restores from them. -/
structure SavedArea where
  bytes : List Byte
  run : Run
  waves : List Wave
  groups : List Group
  deriving DecidableEq, Repr

/-- The raster engines beyond their registers, with the save areas written into images so far. -/
structure Ras where
  areas : List SavedArea
  runs : List Run
  waves : List Wave
  groups : List Group
  nextWave : Nat
  l2 : List (Nat × List L2Line)
  l1 : List L1Line
  ctxs : List (Nat × Option Ctx)
  deriving DecidableEq, Repr
/-! ### Layer composition, heads and ports -/

/-- A commit that a head's port took and checks (R161, R162): the copies of the shadow sets that it names by group (0 the
timing, 1 to 16 L0 to L15, 17 G, 18 the rectangle sets, 19 the regions of a legacy head), when its check ends, and the FLIP
item that it binds. -/
structure Commit where
  id : Nat
  sq : Nat
  serial : Nat
  rpj : Bool
  groups : Nat
  due : Nat
  sets : List (Nat × List Word)
  flip : Option Nat
  deriving DecidableEq, Repr

/-- One group of a pending set (R161): its words, the commit that it comes from, whether it holds a shared retire entry (R177), and
whether a reprojection pass committed it (R124). -/
structure Pend where
  group : Nat
  words : List Word
  commit : Nat
  res : Bool
  rpj : Bool
  deriving DecidableEq, Repr

/-- A commit receipt not yet written (R165). -/
structure Receipt where
  commit : Nat
  sq : Nat
  serial : Nat
  head : Nat
  result : Nat
  clamped : Bool
  rpj : Bool
  groups : Nat
  frame : Nat
  superseded : Nat
  deriving DecidableEq, Repr

/-- A retire record that is due and not yet written (R175 to R177); `own` tells that it stands in its layer's own entry. -/
structure RetRec where
  head : Nat
  layer : Nat
  frame : Nat
  addr : Nat
  owner : Nat
  own : Bool
  deriving DecidableEq, Repr

/-- A late-reprojection pass (R124 to R126): the clusters it runs on, the clock at which it started, none while it waits for
clusters or for the other head's pass, and its source set and owner. -/
structure RpjPass where
  mask : Nat
  start : Option Nat
  words : List Word
  owner : Nat
  deriving DecidableEq, Repr

/-- A head beyond its registers (R161, R167, R182 to R197). The last latch line was line `pos` of its frame, `lines` lines
after the clock `base`; `extra` and `adjust` are the lines that Adaptive-Sync and frame synchronisation add to the frame
under way; `line` is the next line to compose; `crcs` and `gots` hold the running and the decided values of the rectangles
(16 on: legacy regions); `planes` the active UDC-4 settings of its layers; `bufs` the buffers that its layers show, by layer
with address and owner (an instance, or 32 and the enclave of G). -/
structure Head where
  frame : Nat
  flip : Nat
  base : Nat
  lines : Nat
  pos : Nat
  extra : Nat
  adjust : Int
  cut : Bool
  checks : List Commit
  checkEnd : Nat
  portAt : Option Nat
  coming : List Pend
  after : List Pend
  starting : Bool
  line : Nat
  taken : Option Nat
  flips : List (Nat × Nat)
  idle : Nat
  gOnly : Bool
  crcs : List (Nat × Nat)
  gots : List (Nat × Nat)
  closed : Bool
  fallNext : Bool
  clearFall : Bool
  clearBlank : Bool
  planes : List (Nat × (Word × Word))
  regions : List Word
  tpat : Bool
  srcs : List (Nat × List Word)
  rpj : Option RpjPass
  rpjTarget : Nat
  wb : Bool
  band : Option (Nat × Nat)
  dsc : Option Nat
  under : Bool
  bufs : List (Nat × (Nat × Nat))
  deriving DecidableEq, Repr

/-- A head that has never run. -/
def Head.reset : Head :=
  { frame := 0, flip := 0, base := 0, lines := 0, pos := 0, extra := 0, adjust := 0, cut := false, checks := [],
    checkEnd := 0, portAt := none, coming := [], after := [], starting := false, line := 0, taken := none, flips := [],
    idle := 0, gOnly := false, crcs := [], gots := [], closed := false, fallNext := false, clearFall := false, clearBlank := false,
    planes := [], regions := [], tpat := false, srcs := [], rpj := none, rpjTarget := 0, wb := false, band := none,
    dsc := none, under := false, bufs := [] }

/-- A compositor beyond its registers: receipts, due retire records in order, and the consumer index that it has read of
each retire ring. -/
structure Cmp where
  receipts : List Receipt
  recs : List RetRec
  cons : List (Nat × Nat)
  deriving DecidableEq, Repr

def Cmp.reset : Cmp := { receipts := [], recs := [], cons := [] }

/-- A port beyond its registers (R198 to R200): the heads of its streams, the settings under which its link was trained,
what the sink reported, and an apply that waits for PORTS. -/
structure Port where
  streams : List (Option Nat)
  mst : Bool
  cfg : Word
  sink : DpSink
  wait : Option DpSink
  deriving DecidableEq, Repr

def Port.reset : Port :=
  { streams := [none, none, none, none], mst := false, cfg := 0,
    sink := { present := false, trains := false, psr := false, su := false, gran := 1 }, wait := none }

/-- The heads, the compositors and the ports; the clock of the last GENLOCK_IN pulse and of the last Weft frame reference;
and the number of commits so far. -/
structure Disp where
  heads : List (Nat × Head)
  cmps : List (Nat × Cmp)
  ports : List (Nat × Port)
  genlock : Option Nat
  weftRef : Option Nat
  commits : Nat
  deriving DecidableEq, Repr


/-! ### Touch, haptics and audio -/

/-- A contact of a front end (R215, R216): its identifier, its position along the drive and the sense axis in 256ths of a
node, its region and peak, its pixel, the clock and the position at which its hold timer started, whether it is STUCK, and
the state codes of the records that are due at the next frame. -/
structure Contact where
  id : Nat
  drv : Nat
  sns : Nat
  region : List Nat
  peak : Int
  px : Nat
  py : Nat
  start : Nat
  anchor : Nat × Nat
  stuck : Bool
  due : List Nat
  deriving DecidableEq, Repr

/-- A touch front end beyond its registers (R205 to R220). `phase` is 0 stopped, 1 loading or calibrating, 2 scanning; `cfg`
holds its nine configuration words in effect and `snap` those of the last beat edge (R206); baselines lie at 8192 × frequency
+ node and compensation codes at 2048 × frequency + 128 × step + sense line; `last` holds the deltas of the last frame; `recs`
the relaxation records that wait for the end of its frame; and `began` is the clock at which the first step of its frame began. -/
structure Front where
  phase : Nat
  cfg : List Word
  snap : List Word
  base : List (Nat × Int)
  comp : List (Nat × Nat)
  last : List (Nat × Int)
  contacts : List Contact
  frames : Nat
  storeDue : Bool
  lastStore : Option Nat
  recs : List (Word × Word)
  began : Nat
  deriving DecidableEq, Repr

def Front.reset : Front :=
  { phase := 0, cfg := [], snap := [], base := [], comp := [], last := [], contacts := [], frames := 0, storeDue := false,
    lastStore := none, recs := [], began := 0 }

/-- A relaxation channel beyond its registers (R221, R222): its baseline count, the gates since the baseline last moved, the
clocks of its activation and of its last PRESS, whether it wrote HELD, the quadrature state of a knob with the progress of its
sequence, and the detents not yet reported. -/
structure Relax where
  base : Option Int
  gates : Nat
  since : Nat
  lastPress : Option Nat
  heldDone : Bool
  quad : Nat
  turn : Int
  detents : Int
  deriving DecidableEq, Repr

def Relax.reset : Relax :=
  { base := none, gates := 0, since := 0, lastPress := none, heldDone := false, quad := 0, turn := 0, detents := 0 }

/-- Who asked for a haptic effect: a post slot of a sequencer, a trigger pin or a relaxation channel (R230). -/
inductive HapSrc where
  | post (sq slot : Nat)
  | pin (t : Nat)
  | relax (n : Nat)
  deriving DecidableEq, Repr

/-- An effect of a bridge (R228, R229): its index, the scale, its header and segments as the bridge copied them at its start, the
samples played, the phase in units of 1/1,966,080,000 turn, and the samples of braking. -/
structure HapFx where
  src : HapSrc
  scale : Nat
  index : Nat
  bytes : List Byte
  pos : Nat
  phase : Nat
  brake : Nat
  deriving DecidableEq, Repr

/-- A haptic bridge beyond its registers (R223 to R231): the running, the queued and the splicing effect (with the clock of
its request), the clocks of the last starts, the samples of continuous drive and of clipping, the clock at which a rest began,
ΔT in units of 2^−40 K, and the sink samples to play. An effect that has not started holds no copy yet. -/
structure Hap where
  fx : Option HapFx
  queued : Option HapFx
  splice : Option (HapFx × Nat)
  starts : List Nat
  cont : Nat
  clips : Nat
  rest : Option Nat
  dt : Int
  sound : List Int
  deriving DecidableEq, Repr

def Hap.reset : Hap :=
  { fx := none, queued := none, splice := none, starts := [], cont := 0, clips := 0, rest := none, dt := 0, sound := [] }

/-- A trigger pin beyond its registers (R232): the clocks of the last edge that started an effect and of the active edge since
which the level has stood. -/
structure Trig where
  lastStart : Option Nat
  since : Option Nat
  deriving DecidableEq, Repr

def Trig.reset : Trig := { lastStart := none, since := none }

/-- Records that wait for the exit of D-DIM (R375, R380): the front end, its report word, its world, the time and the records. -/
structure HeldReport where
  front : Nat
  rpt : Word
  sec : Bool
  time : Nat
  recs : List (Word × Word)
  deriving DecidableEq, Repr

/-- The touch and haptic blocks beyond their registers; whether VHAP is at least 3.0 V, and whether the start-up calibration waits
for it (R459); and the reports that wait for the exit of D-DIM. -/
structure Glass where
  fronts : List (Nat × Front)
  relax : List (Nat × Relax)
  haps : List (Nat × Hap)
  trigs : List (Nat × Trig)
  vhap : Bool
  calDue : Bool
  held : List HeldReport
  deriving DecidableEq, Repr

/-- A tone and chime generator that sounds (R252, R253): its preset's words, the samples since its start, and the sample at
which a stop began its release. -/
structure Gen where
  words : List Word
  n : Nat
  rel : Option Nat
  deriving DecidableEq, Repr

/-- What a sink's chain keeps (R242, R243): x1, x2, y1 and y2 of each biquad section, the delay contents from the newest, and
the limiter gain in Q1.23. -/
structure SinkSt where
  sections : List (List Int)
  delay : List Int
  l : Nat
  deriving DecidableEq, Repr

def SinkSt.reset : SinkSt := { sections := [], delay := [], l := 0x800000 }

/-- A swap that waits for its edge (R66, R246): its target beat, its ramp and the sequencer that asked. -/
structure AudSwap where
  target : Nat
  ramp : Nat
  who : Option Nat
  deriving DecidableEq, Repr

/-- The audio engine beyond its registers and banks (R237 to R259): the waiting swap, the ramp in progress (its length and its
next sample), the bank that a copy reads, the sink chains, the generators, the requests that wait for the next block, the block
that the sinks play in the beat after the present one with its length, the sink blocks that the secure world wrote (128 × bank +
sink), the guarded sinks that keep an older block and the trims from which they ramp (R251), the streams and captures (16 on)
that a fault stopped, and the TDM ports whose bit clock is lost (R256). -/
structure Aud where
  swap : Option AudSwap
  ramp : Option (Nat × Nat)
  copying : Option Nat
  sinks : List (Nat × SinkSt)
  gens : List (Nat × Option Gen)
  reqs : List (Nat × List (Option Nat))
  block : List (Nat × List Int)
  len : Nat
  secBlks : List Nat
  kept : List (Nat × List Word)
  oldTrim : List (Nat × Int)
  stopped : List Nat
  dead : List Nat
  deriving DecidableEq, Repr

/-! ### The UDC-4 map -/

/-- The legacy front end beyond its register file (R430, R431, R439, R440, R442): the write that has not landed; the open guarded
sequences (the register, its value and the clock at which it opened); the touch FIFOs; whether an apply of the mixer waits for its
swap, whether one more waits behind it, and whether the copy that follows a swap is due; the ramp of a native swap request; and
the segments of a blit that its chain does not hold yet. -/
structure Udc where
  land : Option (Nat × Word)
  twins : List (Nat × Word × Nat)
  fifos : List (Nat × List Word)
  mixing : Bool
  again : Bool
  copyDue : Bool
  native : Option Nat
  blit : List (List Byte)
  deriving DecidableEq, Repr

/-! ### The memory system -/

/-- A line held by a system-cache way (R263): its tag and a valid and a dirty bit for each of four sectors. Ways of a
set are listed from the most recently used. -/
structure ScLine where
  way : Nat
  tag : Nat
  valid : Nat
  dirty : Nat
  deriving DecidableEq, Repr

/-- A request at a bank arbiter (R269): its input, whether R267 places it in tier A, the cycles it has waited, whether it
was promoted, the lines it still needs and whether it is an atomic. -/
structure ArbReq where
  input : Nat
  tierA : Bool
  waited : Nat
  promoted : Bool
  parts : List BankPart
  atomic : Bool
  deriving DecidableEq, Repr

/-- A read in a bank's miss queue (R270): its address, the bytes that it reads, and whether LP5X has returned them. -/
structure Miss where
  pa : Nat
  data : List Byte
  back : Bool
  deriving DecidableEq, Repr

/-- A bank arbiter (R269, R270): the pointers of the tiers, the tier-A cycles used in the window, the cycles of the last hold, the
requests that wait, and the bank's miss queue. -/
structure Arb where
  ptrA : Nat
  ptrB : Nat
  ptrC : Nat
  quota : Nat
  hold : Nat
  reqs : List ArbReq
  window : Nat
  misses : List Miss
  deriving DecidableEq, Repr

/-- An arbiter at reset: all pointers 11, so input 0 comes first (R269). -/
def Arb.reset : Arb := { ptrA := 11, ptrB := 11, ptrC := 11, quota := 0, hold := 0, reqs := [], window := 0, misses := [] }

/-- A request in a controller's queue (R273), with the bytes that it moves. -/
structure CtlReq where
  input : Nat
  urgent : Bool
  arrival : Nat
  bank : Nat
  row : Nat
  addr : Nat
  write : Bool
  bytes : Nat
  deriving DecidableEq, Repr

/-- An open row of an LP5X bank and the tick of its last access (R276). -/
structure OpenRow where
  bank : Nat
  row : Nat
  last : Nat
  deriving DecidableEq, Repr

/-- A neighbour refresh that is scheduled (R278): its bank, the activated row, the tick at which it falls due, and whether the row
below is done already. -/
structure Neighbour where
  bank : Nat
  row : Nat
  due : Nat
  half : Bool
  deriving DecidableEq, Repr

/-- An LP5X controller (R273 to R282): its requests, of which it holds the first 64 and the others wait for a place (R275), its open
rows, the refreshes that are due with the clock since which, the scheduled neighbour refreshes, what inputs 0 to 3 and all inputs have
moved in the window of 1,024 ticks, the seed and draw count of its generator, activation counts, and its write timing. -/
structure Ctl where
  queue : List CtlReq
  rows : List OpenRow
  due : List (Nat × Nat)
  neighbours : List Neighbour
  window : Nat
  scan : Nat
  total : Nat
  seed : Nat
  draws : Nat
  acts : List (Nat × Nat)
  timing : Int
  pendingTiming : Option Int
  deriving DecidableEq, Repr

def Ctl.reset : Ctl :=
  { queue := [], rows := [], due := [], neighbours := [], window := 0, scan := 0, total := 0, seed := 0, draws := 0,
    acts := [], timing := 0, pendingTiming := none }

/-- The memory system beyond its registers. `bypass` lists the banks whose tag array failed (R345); `linkEcc` tells whether link ECC
is in effect (R279), `rfm` after how many activations the devices ask for refresh management (R277), and `trained` holds the training
results in use by channel (R280). -/
structure MemSys where
  sets : List (Nat × List ScLine)
  bypass : List Nat
  linkEcc : Bool
  rfm : Option Nat
  trained : List (Nat × List Byte)
  arbs : List (Nat × Arb)
  ctls : List (Nat × Ctl)
  deriving DecidableEq, Repr
/-! ### Weft links -/

/-- A Weft link (R386, R387): the flits that its peer has not acknowledged with their link sequences, the next sequence to
send, the next to accept, the credits of the four virtual channels, the flits that wait for a credit with their channels, whether software asked
for a retrain (R388), and the flit that the peer's last nak named with how many naks in a row named it (R388). -/
structure WLink where
  replay : List (Nat × List Byte)
  tx : Nat
  rx : Nat
  credits : List Nat
  wait : List (Nat × List Byte)
  retrain : Bool
  failing : Option (Nat × Nat)
  deriving DecidableEq, Repr

def WLink.reset : WLink :=
  { replay := [], tx := 0, rx := 0, credits := [16, 16, 16, 16], wait := [], retrain := false, failing := none }

/-- A window read that waits for its response (R402): its tag, its node, the bytes of its first word that
it skips and its number of bytes. -/
structure WReq where
  tag : Nat
  node : Nat
  skip : Nat
  bytes : Nat
  deriving DecidableEq, Repr

/-- The Weft complex beyond its registers (R386 to R404): the links; the next end-to-end sequence by destination and the one
expected by source; the flits held out of order by 65536 × source + sequence; the next tag and the reads that wait; the beat
number and the wall frame number last acted on; the beats in a row without a block; the next event of the frame timer in 64ths of
a tick; the delay D in ns that the master sent; the number and the clock of the edge that a block placed; and the nodes that have
not acknowledged the broadcast under way, with those that failed it. -/
structure Weft where
  links : List (Nat × WLink)
  next : List (Nat × Nat)
  want : List (Nat × Nat)
  held : List (Nat × List Byte)
  tag : Nat
  reqs : List WReq
  lastBeat : Option Nat
  lastFrame : Option Nat
  missed : Nat
  irregular : Bool
  timer : Option Nat
  delay : Nat
  edge : Option (Nat × Nat)
  bcast : Option (List Nat)
  bcFail : List Nat
  deriving DecidableEq, Repr

/-! ### Start-up -/

/-- What holds the device in reset, and what start-up leaves (R312, R452, R471): whether RESET_N is low, whether VHOLD has
reached 4.7 V, whether the supplies keep it in its own hold, whether heat does (R468), whether REFCLK runs, and whether a fault of the
carrier has stopped the device (R345); the usable keys
with their public keys; the sequencers that the debug port halts, with one entry for each instruction that it lets a halted one execute; and
the instruction of the test logic. -/
structure Boot where
  low : Bool
  vhold : Bool
  brown : Bool
  hot : Bool
  refclk : Bool
  stopped : Bool
  keys : List (Nat × List Byte)
  halts : List Nat
  steps : List Nat
  jtag : JtagOp
  deriving DecidableEq, Repr


/-! ### The device -/

/-- The whole D8. `csr` holds every register of the map at the value that a read returns, but for the fields that a block
computes; `act` the values in effect of shadowed registers (R421); the rest is what no register shows. -/
structure Device where
  grade : Grade
  mode : Mode
  csr : List (Nat × Word)
  act : List (Nat × Word)
  mems : Mems
  beat : Beat
  seqs : List (Nat × Seq)
  flt : Flt
  q : Queues
  insts : List (Nat × Inst)
  headVec : List (Nat × Option Nat)
  handovers : List Handover
  guards : List Guarded
  posted : List (Nat × Option Posted)
  copies : List (Nat × Copy)
  mem : MemSys
  seed : Seed
  pwr : Power
  ras : Ras
  disp : Disp
  glass : Glass
  aud : Aud
  udc : Udc
  weft : Weft
  boot : Boot
  draws : Nat
  out : List Out
  deriving DecidableEq, Repr

/-- The state: the device and the commands that wait, first in, first out. -/
structure State where
  dev : Device
  pending : List Instr
  deriving DecidableEq, Repr

/-- The device right after reset (R425, R456, R475). The part fitted is a C16 and nothing is attached yet; every register
is at the Reset column of its table, and every memory is empty. -/
def Device.reset : Device :=
  { grade := .c16
    mode := .native
    csr := []
    act := []
    mems := { lp5x := [], host := [], flash := [], mram := [], poison := [], tlb := [], ats := [], relaxed := false }
    beat :=
      { started := false, sbeat := 0, stick := 0, clock := 0, samples := 48, tRef := 800000, sRef := 48,
        nextSamples := none, afterSamples := none, clockGood := false, grants := false }
    seqs := []
    flt :=
      { raised := [], serial := 0, cfgRef := 0, commit := false, passOn := false, ssqFaults := [], lostCompute := false,
        lostMixed := false, outage := [] }
    q := { prod := [], turn := [], items := [], held := [], nextUid := 0, picks := [], unsig := [], last := (0, 0), overs := [] }
    insts := []
    headVec := []
    handovers := []
    guards := []
    posted := []
    copies := []
    mem := { sets := [], bypass := [], linkEcc := false, rfm := none, trained := [], arbs := [], ctls := [] }
    seed := { mirror := [], queue := [], records := [], logRoom := 64, logNext := 0, logSeq := 0, hourNext := 0, parked := false, bad := [] }
    pwr := { supply := [], votes := [], waits := [], req := none, target := none, latched := [], exiting := false, linkL2 := false, wakeN := true, tjHigh := false, dynAddr := none, heldTlp := [], i3c1 := false }
    ras := { areas := [], runs := [], waves := [], groups := [], nextWave := 0, l2 := [], l1 := [], ctxs := [] }
    disp := { heads := [], cmps := [], ports := [], genlock := none, weftRef := none, commits := 0 }
    glass := { fronts := [], relax := [], haps := [], trigs := [], vhap := false, calDue := false, held := [] }
    aud := { swap := none, ramp := none, copying := none, sinks := [], gens := [], reqs := [], block := [], len := 0, secBlks := [], kept := [], oldTrim := [], stopped := [], dead := [] }
    udc := { land := none, twins := [], fifos := [], mixing := false, again := false, copyDue := false, native := none, blit := [] }
    weft := { links := [], next := [], want := [], held := [], tag := 0, reqs := [], lastBeat := none, lastFrame := none, missed := 0, irregular := false, timer := none, delay := 3000, edge := none, bcast := none, bcFail := [] }
    boot := { low := true, vhold := false, brown := false, hot := false, refclk := true, stopped := false, keys := [], halts := [], steps := [], jtag := .idcode }
    draws := 0
    out := [] }

/-- The machine right after reset: the device at reset and no command waiting. -/
def State.reset : State := { dev := Device.reset, pending := [] }

end Sys2Proof.Machine
end

