-- ==== Sys2Proof/Machine/Ops.lean ====
section
/-!
DEFINITION. The named operations over the state that every family shares: registers and fields, time, events of the
sequencers, fault records, free values, and the two ways a command answers.
-/

namespace Sys2Proof.Machine

open Sys2Proof

/-- The answer of a command whose effect on the device is `f`: the queue is untouched and the outputs are this command's. -/
def onDev (s : State) (f : Device → Device) : Host.Outcome State Fault Refusal :=
  .next { s with dev := f { s.dev with out := [] } }

/-- An output of the command that runs. -/
def Device.emit (d : Device) (o : Out) : Device := { d with out := d.out ++ [o] }

/-- Whether a change happens: an event whose condition the device does not meet changes nothing (log entry 1). -/
def Device.when (d : Device) (c : Bool) (f : Device → Device) : Device := if c then f d else d

/-! ### Registers -/

/-- What the register at offset `a` holds. -/
def Device.reg (d : Device) (a : Nat) : Word := tget regReset d.csr a

/-- The register at offset `a` set to `w`. -/
def Device.setReg (d : Device) (a : Nat) (w : Word) : Device := { d with csr := tset regReset d.csr a w }

/-- What a shadowed register has in effect (R421). -/
def Device.actReg (d : Device) (a : Nat) : Word := tget regReset d.act a

/-- The value in effect of a shadowed register set to `w`. -/
def Device.setAct (d : Device) (a : Nat) (w : Word) : Device := { d with act := tset regReset d.act a w }

/-- The shadowed register at `a` takes effect: the value last written becomes the value in effect. -/
def Device.applyShadow (d : Device) (a : Nat) : Device := d.setAct a (d.reg a)

/-- What a field holds. -/
def Device.rd (d : Device) (f : Fld) : Nat := wbits (d.reg f.addr) f.hi f.lo

/-- What a shadowed field has in effect. -/
def Device.rdAct (d : Device) (f : Fld) : Nat := wbits (d.actReg f.addr) f.hi f.lo

/-- A field set to `v`, modulo its width. -/
def Device.wr (d : Device) (f : Fld) (v : Nat) : Device :=
  d.setReg f.addr (w32 (putBits (d.reg f.addr).toNat f.hi f.lo v))

/-- A one-bit field read as a Bool. -/
def Device.on (d : Device) (f : Fld) : Bool := d.rd f == 1

/-- The largest value of a field. -/
def Fld.max (f : Fld) : Nat := 2 ^ (f.hi + 1 - f.lo) - 1

/-- A counting field that saturates: one more, up to all ones. -/
def Device.bump (d : Device) (f : Fld) : Device := d.wr f (satAt f.max (d.rd f + 1))

/-- A counting field that saturates, raised by `n`. -/
def Device.bumpBy (d : Device) (f : Fld) (n : Nat) : Device := d.wr f (satAt f.max (d.rd f + n))

/-- A counting field that wraps. -/
def Device.count (d : Device) (f : Fld) : Device := d.wr f (d.rd f + 1)

/-- A field that records the largest value seen, saturating. -/
def Device.worst (d : Device) (f : Fld) (v : Nat) : Device := d.wr f (satAt f.max (max (d.rd f) v))

/-- The 64-bit address that a LO and a HI register hold. -/
def Device.addr64 (d : Device) (lo hi : Nat) : Nat := (d.reg hi).toNat * 2 ^ 32 + (d.reg lo).toNat

/-! ### Free values -/

/-- A value that the manual leaves open: the next draw. -/
def Device.free (d : Device) : Nat × Device := (Config.freeNat d.draws, { d with draws := d.draws + 1 })

/-! ### Time -/

/-- Beat time now (R12, R24): the beat number and the fraction, 0 before the first edge. -/
def Device.beatTime (d : Device) : Nat :=
  if d.beat.started then
    (d.beat.sbeat % 2 ^ 48) * 65536 + satAt 0xFFFF (d.beat.stick * 65536 / max 1 (d.rd Reg.BEAT_PRED_ticks))
  else 0

/-- The device once `stick` has reached `t`: an event that happens at tick `t` of the beat. Time never steps back. -/
def Device.atTick (d : Device) (t : Nat) : Device :=
  if d.beat.stick < t then
    { d with beat := { d.beat with stick := t, clock := d.beat.clock + (t - d.beat.stick) } }
  else d

/-- The device at clock `t`: an event that happens then. -/
def Device.atClock (d : Device) (t : Nat) : Device := if d.beat.clock < t then d.atTick (d.beat.stick + (t - d.beat.clock)) else d

/-- Whether `ticks` can be the FCLK ticks of `n` periods of the 48 kHz sample clock and at most `more` 48ths of a tick: a period is
16,666⅔ ticks, and each of the two clocks lies within its monitor window of 2,000 ppm (R460; log entry 109). -/
def fitsSamples (ticks n more : Nat) : Bool :=
  decide (n * 800000 * 99600 ≤ (48 * ticks + 48) * 100000) && decide (48 * ticks * 100000 ≤ n * 800000 * 100401 + (more + 48) * 100000)

/-- Whether the fallow window is open (R27). -/
def Device.fallow (d : Device) : Bool := d.beat.started && decide (d.rd Reg.BEAT_FALLOW_start ≤ d.beat.stick)

/-! ### Units that reset (R345) -/

/-- The host complex. -/
def unitHost : Nat := 16

/-- The audio complex. -/
def unitAudio : Nat := 17

/-- The memory complex. -/
def unitMemory : Nat := 18

/-- The Weft complex. -/
def unitWeft : Nat := 19

/-- Cluster `k` of channel `c`. -/
def unitCluster (c k : Nat) : Nat := 256 + 16 * c + k

/-- Whether a unit is out of service while it resets. -/
def Device.outOf (d : Device) (u : Nat) : Bool := d.flt.outage.any (fun e => e.1 == u && decide (d.beat.clock < e.2))

/-- Whether cluster `k` of channel `c` is not resetting. -/
def Device.clusterUp (d : Device) (c k : Nat) : Bool := !d.outOf (unitCluster c k)

/-- The clusters of channel `c` that reset, as a mask. -/
def Device.clustersOut (d : Device) (c : Nat) : Nat := maskOf ((List.range 12).filter (fun k => !d.clusterUp c k))

/-- Whether channel `c` is in service: the compute die lives and the channel does not reset. -/
def Device.chanUp (d : Device) (c : Nat) : Bool := !d.flt.lostCompute && !d.outOf c

/-- Whether the host interface is in service. -/
def Device.hostUp (d : Device) : Bool := !d.flt.lostCompute && !d.outOf unitHost

/-- Whether the Weft complex is in service. -/
def Device.weftUp (d : Device) : Bool := !d.flt.lostCompute && !d.outOf unitWeft

/-- A unit out of service for at most `most` ticks (R345): how long its reset takes within that bound is open. -/
def Device.takeOut (d : Device) (u most : Nat) : Device :=
  let (n, d) := d.free
  { d with flt := { d.flt with
      outage := d.flt.outage.filter (fun e => e.1 != u && decide (d.beat.clock < e.2)) ++ [(u, d.beat.clock + n % (most + 1))] } }

/-! ### Sequencers -/

/-- Sequencer `q`: 0 to 3 for CSQ0 to CSQ3, 4 for the SSQ. -/
def Device.seq (d : Device) (q : Nat) : Seq := tget (fun _ => Seq.reset) d.seqs q

/-- Sequencer `q` replaced. -/
def Device.setSeq (d : Device) (q : Nat) (x : Seq) : Device := { d with seqs := tset (fun _ => Seq.reset) d.seqs q x }

/-- Sequencer `q` changed by `f`. -/
def Device.modSeq (d : Device) (q : Nat) (f : Seq → Seq) : Device := d.setSeq q (f (d.seq q))

/-- Event bit `b` set in the sevent of sequencer `q` (R60). -/
def Device.event (d : Device) (q b : Nat) : Device :=
  d.modSeq q (fun x => { x with sevent := x.sevent ||| 2 ^ b })

/-- A word of a sequencer's current DMEM. -/
def Seq.dword (x : Seq) (i : Nat) : Word := tget (fun _ => 0#32) x.dmem i

/-- A word of a sequencer's current DMEM replaced. Each access moves the whole word (R56). -/
def Seq.setDword (x : Seq) (i : Nat) (w : Word) : Seq := { x with dmem := tset (fun _ => 0#32) x.dmem i w }

/-- A word of a sequencer's current IMEM; beyond the text it holds all ones (R51). -/
def Seq.iword (x : Seq) (i : Nat) : Word := tget (fun _ => 0xFFFFFFFF#32) x.imem i

/-- `n` words written into DMEM from word index `i`. -/
def Seq.setDwords (x : Seq) (i : Nat) : List Word → Seq
  | [] => x
  | w :: ws => (x.setDword i w).setDwords (i + 1) ws

/-- The size of a sequencer's DMEM bank in bytes (R46). -/
def dmemSize (q : Nat) : Nat := if q = 4 then 0x10000 else 0x8000

/-! ### Device states -/

/-- Whether the device runs: D-RUN, with no entry to another state under way, from the beat edge after an exit on (R375, R377,
R379). -/
def Device.awake (d : Device) : Bool := d.rd Reg.PWR_STATE_state == 0 && d.pwr.target.isNone && !d.pwr.exiting

/-- Wake source `src`, by its bit of PWR_WAKE_EN (R378, R380, R381): latched once a state is requested, in D-NAP only I3C_0,
the triggers and the relaxation channels; the exit starts when the device is in the state. I3C_0 shows a match that is not
enabled without a wake. -/
def Device.wakeSource (d : Device) (src : Nat) : Device :=
  let st := d.pwr.target.getD (d.rd Reg.PWR_STATE_state)
  if st = 0 || (st == 2 && decide (16 ≤ src) && src != 31) then d
  else if (d.reg Reg.PWR_WAKE_EN).toNat.testBit src then
    let d := d.wr ⟨Reg.PWR_WAKE, src, src⟩ 1
    { d with pwr := { d.pwr with
        latched := if d.pwr.latched.contains src then d.pwr.latched else d.pwr.latched ++ [src]
        exiting := d.pwr.exiting || d.pwr.target.isNone } }
  else if src = 31 then d.wr Reg.PWR_WAKE_i3c 1
  else d

/-- Whether the device sleeps, or is on its way there or back (R377, R379). -/
def Device.asleep (d : Device) : Bool := d.rd Reg.PWR_STATE_state != 0 || d.pwr.target.isSome

/-- A host access arrives (R378, R379): while the device sleeps it is a wake source and waits for the exit. -/
def Device.tlp (d : Device) (t : Tlp) (f : Device → Device) : Device :=
  if d.asleep then { d with pwr := { d.pwr with heldTlp := d.pwr.heldTlp ++ [t] } }.wakeSource 17 else f d

/-! ### Fault records -/

/-- The level of a fault record by its class and cause (R480). -/
def faultLevel (cls cause : Nat) : Nat :=
  match cls with
  | 0x01 => 1
  | 0x02 => 2
  | 0x03 => if cause = 2 then 3 else if cause = 3 then 6 else 4
  | 0x04 => 1
  | 0x05 => 4
  | 0x06 => 3
  | 0x07 => if cause = 2 then 6 else 4
  | 0x08 => if cause = 3 then 3 else if cause = 4 then 4 else 6
  | 0x09 => if cause = 3 then 1 else 3
  | 0x0F => if cause ≤ 2 then 1 else 2
  | 0x10 => 6
  | 0x11 => 1
  | 0x12 => 5
  | _ => 3

/-- Whether two records merge within a beat (R365). -/
def FaultRec.same (a b : FaultRec) : Bool :=
  a.cls == b.cls && a.cause == b.cause && a.block == b.block && a.unit == b.unit && a.sub == b.sub

/-- A raised record joins the records of the beat: merged into one of its kind, or as a new one (R365). -/
def joinFault (r : FaultRec) : List FaultRec → List FaultRec
  | [] => [r]
  | x :: xs => if x.same r then { x with merged := satAt 0xFFFF (x.merged + 1) } :: xs else x :: joinFault r xs

/-- A fault record with its class, cause, the base of the block that raises it and its unit; the rest at zero. -/
def fault (cls cause block unit : Nat) : FaultRec :=
  { cls := cls, cause := cause, secure := false, corrected := false, block := block / 0x100000 % 1024, unit := unit,
    sub := 0, inst := none, time := 0, addr := 0, infoA := 0, infoB := 0, merged := 0 }

/-- A fault record raised: counted in FLT_COUNT and kept for the next beat edge (R365). -/
def Device.raise (d : Device) (r : FaultRec) : Device :=
  let d := { d with flt := { d.flt with raised := joinFault { r with time := d.beatTime } d.flt.raised } }
  d.bump (Reg.FLT_COUNT_count (r.cls - 1))

/-! ### Instances, locks and agents -/

/-- Instance `i` beyond its registers. -/
def Device.inst (d : Device) (i : Nat) : Inst := tget (fun _ => Inst.reset) d.insts i

/-- Instance `i` changed by `f`. -/
def Device.modInst (d : Device) (i : Nat) (f : Inst → Inst) : Device :=
  { d with insts := tset (fun _ => Inst.reset) d.insts i (f (d.inst i)) }

/-- Whether this is a remote node of a mosaic, which has no PCIe function (R403). -/
def Device.remote (d : Device) : Bool := d.mode == .native && !d.on Reg.WFT_MESH_root && d.on Reg.WFT_STATUS_numbered

/-- What signals vector `v` of function `i`: the MSI-X message (R294), or, on a remote node, the EVENT flit to node 0 (R403; log entry
46). -/
def Device.notice (d : Device) (i v : Nat) : Out := if d.remote then .event i v else .msix i v

/-- MSI-X vector `v` of function `i` signalled (R294, R403). -/
def Device.signal (d : Device) (i v : Nat) : Device := d.emit (d.notice i v)

/-- Where the model keeps a setting of the PCIe configuration space of function `fn`: 0 MSI-X Enable, 1 Interrupt Disable, 2 ATS Enable. -/
def pciReg (fn k : Nat) : Nat := 0xC0000000 + fn * 16 + k * 4

/-- Where the model keeps byte offset `k` of the MSI-X table of virtual function `fn` (R293, R294): 64 vectors of 16 bytes. -/
def msixReg (fn k : Nat) : Nat := 0xD0000000 + fn * 0x400 + k

/-- The level of the INTA message of PF0 (R443). -/
def Device.inta (d : Device) : Bool :=
  (d.rd Reg.UDC_INT_STAT_events &&& d.rd Reg.UDC_INT_EN_enables) != 0 && d.reg (pciReg 0 0) == 0#32
    && d.reg (pciReg 0 1) == 0#32

/-- A change of the device, with the INTA message that it causes (R443). -/
def Device.watchInta (d : Device) (f : Device → Device) : Device :=
  let d' := f d
  if d'.inta = d.inta then d' else d'.emit (.inta d'.inta)

/-- Event `b` of the UDC-4 map (R432, R443). -/
def Device.udcEvent (d : Device) (b : Nat) : Device :=
  d.watchInta (fun d => d.wr Reg.UDC_INT_STAT_events (d.rd Reg.UDC_INT_STAT_events ||| 2 ^ b))

/-- Whether an agent acts in the secure world (R309). -/
def agentSecure : Agent → Bool
  | .seq 4 => true
  | .debug s => s
  | _ => false

/-- The state code of an instance: 0 STOPPED, 1 RUNNING, 2 PARKED, 3 FREEZING, 4 FROZEN, 5 RESETTING (R319). -/
def Device.instState (d : Device) (i : Nat) : Nat := d.rd (Reg.INST_STATE_state i)

/-- Whether channel `c` serves instance `i` (R300). -/
def Device.serves (d : Device) (c i : Nat) : Bool := (d.rd (Reg.INST_STATE_channels i)).testBit c

/-- The guarded sequences of an agent discarded (R418): GLB_STATUS.guard_abort tells of one. -/
def Device.dropGuards (d : Device) (ag : Agent) : Device :=
  if d.guards.any (fun g => g.agent == ag) then
    { d with guards := d.guards.filter (fun g => g.agent != ag) }.wr Reg.GLB_STATUS_guard_abort 1
  else d

/-- The owner code of an agent at a lock cell (R316). -/
def lockCode : Agent → Nat
  | .seq n => n + 1
  | _ => 0x10

/-- The agent of an owner code. -/
def lockAgent (c : Nat) : Agent := if c = 0x10 then .manager else .seq (c - 1)

/-- Lock cell `k` released as abandoned: abandoned set, the epoch one higher, its owner's guarded sequences discarded
(R317). A free cell does not change. -/
def Device.abandonLock (d : Device) (k : Nat) : Device :=
  if d.on (Reg.WLD_LOCK_STAT_held k) then
    let ow := d.rd (Reg.WLD_LOCK_STAT_owner k)
    ((((d.wr (Reg.WLD_LOCK_STAT_held k) 0).wr (Reg.WLD_LOCK_STAT_owner k) 0).wr (Reg.WLD_LOCK_STAT_abandoned k) 1).count
      (Reg.WLD_LOCK_STAT_epoch k)).dropGuards (lockAgent ow)
  else d

/-- Every lock cell that owner code `c` holds released as abandoned (R68, R317). -/
def Device.abandonLocks (d : Device) (c : Nat) : Device :=
  (List.range 64).foldl
    (fun d k => if d.on (Reg.WLD_LOCK_STAT_held k) && d.rd (Reg.WLD_LOCK_STAT_owner k) == c then d.abandonLock k else d) d

/-! ### Posted blocks -/

/-- The write that posted block `k` has accepted and not performed (R414); blocks are numbered by bits [27:20] of their base. -/
def Device.postedAt (d : Device) (k : Nat) : Option Posted := tget (fun _ => none) d.posted k

/-- BUSY of posted block `k` shows an accepted write, a hand-over or a bank copy (R314, R414). -/
def Device.busy (d : Device) (k : Nat) : Bool :=
  (d.postedAt k).isSome || (k == 0xB && d.aud.copying.isSome)
    || d.handovers.any (fun h => (h.kind == 0 && k == 0xC) || (h.kind == 1 && k == 0xD) || (h.kind == 2 && k == 0xB))

/-- The posted blocks, with their BUSY fields. -/
def postedBlocks : List (Nat × Fld) :=
  [(0, Reg.GLB_BUSY_busy), (2, Reg.PWR_BUSY_busy), (4, Reg.SEED_BUSY_busy), (0xB, Reg.AUD_BUSY_busy),
    (0xC, Reg.TCH_BUSY_busy), (0xD, Reg.HAP_BUSY_busy)]

/-- The BUSY fields follow what runs. -/
def Device.showBusy (d : Device) : Device := postedBlocks.foldl (fun d b => d.wr b.2 (b2n (d.busy b.1))) d

/-- The beat generator enters or leaves holdover (R21, R22); AUD_STATUS.holdover mirrors it (R257). -/
def Device.setHoldover (d : Device) (on : Bool) : Device := (d.wr Reg.BEAT_STATUS_holdover (b2n on)).wr Reg.AUD_STATUS_holdover (b2n on)

end Sys2Proof.Machine
end

