-- ==== Sys2Proof/Machine/Codes.lean ====
section
/-!
DEFINITION. The result codes of engine commands and mediation calls (R59), the event bits of sevent (R60), the trap causes
(R70) and the completion statuses (R91).
-/

namespace Sys2Proof.Machine

/-- Result codes (R59). -/
def resOk : Nat := 0x00
def resOkAbandoned : Nat := 0x01
def resBusy : Nat := 0x02
def resDenied : Nat := 0x03
def resInvalid : Nat := 0x04
def resWorn : Nat := 0x05
def resLate : Nat := 0x06
def resEmpty : Nat := 0x07
def resPowerfail : Nat := 0x08
def resBadsig : Nat := 0x09

/-- Event bits (R60). -/
def evRay : Nat := 8
def evSeed : Nat := 12
def evSwap : Nat := 13
def evContact : Nat := 14
def evMail : Nat := 15
def evLatch : Nat := 16
def evReceipt : Nat := 24

/-- Trap causes (R70). -/
def trapIllegal : Nat := 0x01
def trapImemRange : Nat := 0x02
def trapImemEcc : Nat := 0x03
def trapDmemRange : Nat := 0x04
def trapDmemAlign : Nat := 0x05
def trapDmemEcc : Nat := 0x06
def trapPortRange : Nat := 0x07
def trapPortDenied : Nat := 0x08
def trapPortError : Nat := 0x09
def trapOverrun : Nat := 0x0A
def trapInsn : Nat := 0x0B

/-- Completion statuses (R91). -/
def stDone : Nat := 0x00
def stDoneLate : Nat := 0x01
def stFault : Nat := 0x10
def stTranslation : Nat := 0x11
def stQuota : Nat := 0x20
def stInvalid : Nat := 0x21
def stVote : Nat := 0x22
def stWorn : Nat := 0x23
def stCancelled : Nat := 0x30
def stAbandoned : Nat := 0x31

/-- The base of the CSQ block of sequencer `q` (R408). -/
def csqBase (q : Nat) : Nat := 0x1000000 + q * 0x400000

/-- The base of the RAS, CMP or head-pair block of channel `c`: `k` 1, 2 or 3 (R408). -/
def chanBase (c k : Nat) : Nat := 0x1000000 + c * 0x400000 + k * 0x100000

end Sys2Proof.Machine
end

