-- ==== Sys2Proof/Machine/Mem.lean ====
section
/-!
DEFINITION. Memory: LP5X and host memory by byte, translation of instance addresses with its cache (R295 to R297), the
enclave check (R310, R311), the system cache that every LP5X access passes (R262 to R266), poisoned lines (R348) and the
dirty log (R308).
-/

namespace Sys2Proof.Machine

open Sys2Proof

/-- What a byte of a memory reads as when nothing has written it (log entry 2). -/
def memDflt (_ : Nat) : Byte := 0#8

/-- `n` bytes of a memory from address `a`. -/
def rawRead (m : List (Nat × Byte)) (a n : Nat) : List Byte := (List.range n).map (fun i => tget memDflt m (a + i))

/-- Bytes written into a memory from address `a`. -/
def rawWrite (m : List (Nat × Byte)) (a : Nat) : List Byte → List (Nat × Byte)
  | [] => m
  | b :: bs => rawWrite (tset memDflt m a b) (a + 1) bs

/-- Every memory is in the canonical form. -/
def Memory.wf (m : Mems) : Bool := twf memDflt m.lp5x && twf memDflt m.host && twf memDflt m.flash && twf memDflt m.mram

/-- How an access fails: a translation fault (R296), or an uncorrectable error of a fault class (R348). -/
inductive MemErr where
  | trans
  | ecc (cls : Nat)
  deriving DecidableEq, Repr

/-- Where an address leads: LP5X or host memory. -/
inductive Target where
  | lp5x (pa : Nat)
  | host (ha : Nat)
  deriving DecidableEq, Repr

/-- The attached LP5X capacity in bytes (R262). -/
def Device.capacity (d : Device) : Nat := d.rd Reg.MEM_CFG_size * 2 ^ 30

/-- The base of enclave `e`. -/
def Device.encBase (d : Device) (e : Nat) : Nat := d.addr64 (Reg.WLD_ENC_LO e) (Reg.WLD_ENC_HI e)

/-- The size of enclave `e` in bytes. -/
def Device.encSize (d : Device) (e : Nat) : Nat := d.rd (Reg.WLD_ENC_CFG_size e) * 2 ^ 21

/-- Whether an LP5X address falls in an enabled enclave (R310). -/
def Device.inEnclave (d : Device) (pa : Nat) : Bool :=
  (List.range 16).any (fun e =>
    d.on (Reg.WLD_ENC_CFG_valid e) && decide (d.encBase e ≤ pa) && decide (pa < d.encBase e + d.encSize e))

/-- The refusal of a normal-world access that reaches an enclave (R311). -/
def Device.violate (d : Device) (inst : Option Nat) (pa : Nat) : Device :=
  (d.wr Reg.WLD_STATUS_viol 1).raise { fault 0x0B 2 0x500000 0 with secure := true, inst := inst, addr := pa }

/-! ### The system cache -/

/-- The system-cache bank, and the channel behind it, of an LP5X address (R262). -/
def bankOf (pa : Nat) : Nat := bits pa 11 8 ^^^ bits pa 15 12 ^^^ bits pa 19 16 ^^^ bits pa 23 20

/-- The number of a line within its bank. Each 4 KiB group gives every bank one granule, two lines. -/
def lineInBank (pa : Nat) : Nat := (pa / 4096) * 2 + pa / 128 % 2

/-- The key of the set that holds a line: 2,048 sets in each bank (log entry 3). -/
def setOf (pa : Nat) : Nat := bankOf pa * 2048 + lineInBank pa % 2048

/-- The tag of a line within its set. -/
def tagOf (pa : Nat) : Nat := lineInBank pa / 2048

/-- The sectors of 32 bytes that `n` bytes from `pa` touch within their line, as a mask. -/
def sectorMask (pa n : Nat) : Nat :=
  maskOf ((List.range 4).filter (fun s => decide (s * 32 < pa % 128 + n) && decide (pa % 128 < s * 32 + 32)))

/-- The way that a miss replaces: an unused allowed way, or the least recently used of the allowed ones (R263, R266). -/
def victim (ways : List Nat) (ls : List ScLine) : Option Nat :=
  match ways.find? (fun w => !ls.any (·.way == w)) with
  | some w => some w
  | none => (ls.reverse.find? (fun l => ways.contains l.way)).map (·.way)

/-- The ways that a request of `input` may replace, none when its class allocates on neither (R266). -/
def Device.scWays (d : Device) (input : Nat) (write : Bool) : List Nat :=
  let al := d.rd (Reg.SC_CLASS_CFG_alloc input)
  if al = 1 || al = 3 || (al = 2 && !write) then [] else onesBelow 16 (d.rd (Reg.SC_CLASS_CFG_ways input))

/-- The lines of one set. -/
def Device.scSet (d : Device) (k : Nat) : List ScLine := tget (fun _ => []) d.mem.sets k

/-- The lines of one set replaced. -/
def Device.setScSet (d : Device) (k : Nat) (ls : List ScLine) : Device :=
  { d with mem := { d.mem with sets := tset (fun _ => []) d.mem.sets k ls } }

/-- Controller `b`. -/
def Device.ctl (d : Device) (b : Nat) : Ctl := tget (fun _ => Ctl.reset) d.mem.ctls b

/-- Controller `b` changed by `f`. -/
def Device.modCtl (d : Device) (b : Nat) (f : Ctl → Ctl) : Device :=
  { d with mem := { d.mem with ctls := tset (fun _ => Ctl.reset) d.mem.ctls b (f (d.ctl b)) } }

/-- The bank and the row of its channel's LP5X in which an address lies (R262): consecutive granules of a channel fall in one row until
the row is full. How many granules a row holds and where a row lies is open. -/
def lpPlace (pa : Nat) : Nat × Nat := Config.rowPlace (pa / 4096 / max 1 Config.rowGranules)

/-- A request of `n` bytes at `pa` reaches the controller behind its bank, which never refuses one (R273, R275). -/
def Device.ctlPush (d : Device) (input : Nat) (urgent write : Bool) (pa n : Nat) : Device :=
  let (bank, row) := lpPlace pa
  d.modCtl (bankOf pa) (fun x => { x with queue := x.queue ++
    [{ input := input, urgent := urgent, arrival := d.beat.clock, bank := bank, row := row, addr := pa, write := write, bytes := n }] })

/-- The bytes of the sectors of a mask. -/
def sectorBytes (m : Nat) : Nat := 32 * (onesBelow 4 m).length

/-- The address of the line that a set of bank `b` holds under a tag. -/
def lineAddr (b k tag : Nat) : Nat :=
  let l := tag * 2048 + k % 2048
  let hi := l / 2 * 4096
  hi + (b ^^^ bits hi 15 12 ^^^ bits hi 19 16 ^^^ bits hi 23 20) * 256 + l % 2 * 128

/-- One access of up to a line passes the system cache: a hit, or a miss that allocates by the class of its input (R263,
R266); the bank counts it. Sectors that a read lacks are filled from LP5X, dirty sectors of a line that is replaced are written back,
and what the class does not let the cache hold goes through. -/
def Device.scTouch (d : Device) (input : Nat) (write : Bool) (pa n : Nat) (urgent : Bool := false) : Device :=
  let b := bankOf pa
  let ls := d.scSet (setOf pa)
  let m := sectorMask pa n
  let through := if write then n else sectorBytes m
  if d.mem.bypass.contains b then (d.count (Reg.SC_BANK_MISS_count b)).ctlPush input urgent write pa through
  else
    match ls.find? (fun l => l.tag == tagOf pa) with
    | some l =>
      let l' := { l with valid := l.valid ||| m, dirty := if write then l.dirty ||| m else l.dirty }
      let lacks := without m l.valid
      let d := d.setScSet (setOf pa) (l' :: ls.filter (fun x => x.way != l.way))
      if write || lacks == 0 then d.count (Reg.SC_BANK_HIT_count b)
      else (d.count (Reg.SC_BANK_MISS_count b)).ctlPush input urgent false pa (sectorBytes lacks)
    | none =>
      let d := d.count (Reg.SC_BANK_MISS_count b)
      match victim (d.scWays input write) ls with
      | none => d.ctlPush input urgent write pa through
      | some w =>
        let d := match ls.find? (fun l => l.way == w && l.dirty != 0) with
          | some l => d.ctlPush input urgent true (lineAddr b (setOf pa) l.tag) (sectorBytes l.dirty)
          | none => d
        let d := if write then d else d.ctlPush input urgent false pa through
        d.setScSet (setOf pa)
          ({ way := w, tag := tagOf pa, valid := m, dirty := if write then m else 0 } :: ls.filter (fun x => x.way != w))

/-- Every line that `n` bytes from `pa` touch passes the system cache. -/
def Device.scSpan (d : Device) (input : Nat) (write : Bool) (pa n : Nat) (urgent : Bool := false) : Device :=
  (List.range ((127 + (n + pa % 128)) / 128)).foldl
    (fun d k =>
      let s := if k = 0 then pa else (pa / 128 + k) * 128
      d.scTouch input write s (min (pa + n) ((pa / 128 + k + 1) * 128) - s) urgent) d

/-! ### Translation -/

/-- Whether a page-table entry has a bit set that its layout shows as zero (R295). -/
def pteBad (leaf : Bool) (e : Nat) : Bool :=
  bits e 11 4 != 0 || bits e 63 52 != 0 || (!leaf && bits e 3 1 != 0)

/-- One walk from table `t` (R295). Answers the leaf, or none with whether an enclave was in the way. -/
def Device.walk (d : Device) (i va : Nat) : Nat → Nat → Option TlbEntry × Option Nat
  | 0, _ => (none, none)
  | lvl + 1, t =>
    let ea := t + 8 * (va / 2 ^ (12 + 9 * lvl) % 512)
    if d.capacity ≤ ea then (none, none)
    else if d.inEnclave ea then (none, some ea)
    else
      let e := leNat (rawRead d.mems.lp5x ea 8)
      if !e.testBit 0 || pteBad (lvl == 0) e then (none, none)
      else if lvl = 0 then
        (some { inst := i, page := va / 4096, frame := bits e 51 12, host := e.testBit 2, writable := e.testBit 1,
                dirty := e.testBit 3, leaf := ea }, none)
      else d.walk i va lvl (bits e 51 12 * 4096)

/-- The page-table entries that a walk from table `t` reads (R295). -/
def Device.walkReads (d : Device) (va : Nat) : Nat → Nat → List Nat
  | 0, _ => []
  | lvl + 1, t =>
    let ea := t + 8 * (va / 2 ^ (12 + 9 * lvl) % 512)
    if d.capacity ≤ ea || d.inEnclave ea then []
    else
      let e := leNat (rawRead d.mems.lp5x ea 8)
      ea :: (if !e.testBit 0 || pteBad (lvl == 0) e then [] else d.walkReads va lvl (bits e 51 12 * 4096))

/-- The reads of a walk pass the system cache (R264), by the input of the host interface (log entry 3). -/
def Device.walkPass (d : Device) (i va : Nat) : Device :=
  (d.walkReads va 4 (d.inst i).root).foldl (fun d ea => d.scSpan 8 false ea 8) d

/-- The cached translation of a page of an instance. -/
def Device.cached (d : Device) (i va : Nat) : Option TlbEntry :=
  d.mems.tlb.find? (fun e => e.inst == i && e.page == va / 4096)

/-- The translation of an instance address: from the cache, or by a walk that is then cached (R297). -/
def Device.entry (d : Device) (i va : Nat) : Option TlbEntry × Device :=
  match d.cached i va with
  | some e => (some e, d)
  | none =>
    if !(d.inst i).setup || 2 ^ 48 ≤ va then (none, d)
    else
      match d.walk i va 4 (d.inst i).root with
      | (some e, _) =>
        let d := d.walkPass i va
        (some e, { d with mems := { d.mems with tlb := e :: d.mems.tlb } })
      | (none, some pa) => (none, (d.walkPass i va).violate (some i) pa)
      | (none, none) => (none, d.walkPass i va)

/-- A physical address of the normal world: none when it lies at or above the capacity or in an enclave. -/
def Device.normalPhys (d : Device) (inst : Option Nat) (pa : Nat) : Option Target × Device :=
  if d.capacity ≤ pa then (none, d)
  else if d.inEnclave pa then (none, d.violate inst pa)
  else (some (.lp5x pa), d)

/-- Where an address of a space leads, for a read or a write; none is a translation fault (R296, R310, R428). -/
def Device.target (d : Device) (sp : Space) (write : Bool) (a : Nat) : Option Target × Device :=
  match sp with
  | .inst i =>
    match d.entry i a with
    | (none, d) => (none, d)
    | (some e, d) =>
      if write && !e.writable then (none, d)
      else
        let pa := e.frame * 4096 + a % 4096
        if e.host then
          (some (.host pa),
            if d.reg (pciReg i 2) == 0#32 || d.mems.ats.any (fun x => x.fn == i && x.page == e.frame) then d
            else { d with mems := { d.mems with ats := ⟨i, (d.inst i).pasid, e.frame⟩ :: d.mems.ats } })
        else d.normalPhys (some i) pa
  | .enclave e =>
    if d.on (Reg.WLD_ENC_CFG_valid e) && decide (a < d.encSize e) && decide (d.encBase e + a < d.capacity) then
      (some (.lp5x (d.encBase e + a)), d)
    else (none, d)
  | .securePhys => (if a < d.capacity then some (.lp5x a) else none, d)
  | .phys => d.normalPhys none a
  | .legacy =>
    if a < 0x20000000 then d.normalPhys (some 0) (d.rd Reg.GLB_LPW_BASE_base * 2 ^ 30 + a) else (none, d)

/-! ### Access -/

/-- A span of bytes cut at page boundaries. -/
def pageSpans (a n : Nat) : List (Nat × Nat) :=
  (List.range ((4095 + (n + a % 4096)) / 4096)).map (fun k =>
    let s := if k = 0 then a else (a / 4096 + k) * 4096
    (s, min (a + n) ((a / 4096 + k + 1) * 4096) - s))

/-- Whether LP5X serves requests: after a failed training it serves none (R283), nor while the memory complex resets (R345) or after the loss of
its die (R13). -/
def Device.memUp (d : Device) : Bool :=
  d.rd Reg.MEM_TRAIN_fail_mask == 0 && !d.outOf unitMemory && !d.flt.lostCompute

/-- Whether a poisoned line lies in `n` bytes from `pa` (R348). -/
def Device.poisoned (d : Device) (pa n : Nat) : Bool :=
  d.mems.poison.any (fun l => decide (l * 128 < pa + n) && decide (pa < l * 128 + 128))

/-- Whom the record of a failed access names (R83, R362): an instance with an address in its space, or nobody, for the target `t`. -/
def errRecord (r : FaultRec) (who : Option (Nat × Nat)) (t : Nat) : FaultRec :=
  match who with
  | some (i, a) => { r with inst := some i, addr := a }
  | none => { r with addr := t }

/-- One span within a page read at its target, for the agent that `who` names. -/
def Device.readAt (d : Device) (input : Nat) (t : Target) (n : Nat) (who : Option (Nat × Nat) := none)
    (urgent : Bool := false) : Except MemErr (List Byte) × Device :=
  match t with
  | .host ha =>
    if !d.hostUp then (.error (.ecc 0x03), d.raise (errRecord (fault 0x03 1 Reg.HIF_CTL 0) who ha))
    else (.ok (rawRead d.mems.host ha n), d)
  | .lp5x pa =>
    if !d.memUp then (.error (.ecc 0x03), d.raise (errRecord (fault 0x03 2 0x800000 (bankOf pa)) who pa))
    else if d.poisoned pa n then
      (.error (.ecc 0x02), d.raise (errRecord (fault 0x02 6 0x900000 (bankOf pa)) who pa))
    else (.ok (rawRead d.mems.lp5x pa n), d.scSpan input false pa n urgent)

/-- Whom a failed access at address `a` of a space names. -/
def spaceWho (sp : Space) (a : Nat) : Option (Nat × Nat) :=
  match sp with
  | .inst i => some (i, a)
  | _ => none

/-- Bytes read from an address space (R295, R296): an error of any page fails the whole read. -/
def Device.readSpans (d : Device) (sp : Space) (input : Nat) : List (Nat × Nat) → Except MemErr (List Byte) × Device
  | [] => (.ok [], d)
  | (a, n) :: r =>
    match d.target sp false a with
    | (none, d) => (.error .trans, d)
    | (some t, d) =>
      match d.readAt input t n (spaceWho sp a) with
      | (.error e, d) => (.error e, d)
      | (.ok bs, d) =>
        match d.readSpans sp input r with
        | (.error e, d) => (.error e, d)
        | (.ok cs, d) => (.ok (bs ++ cs), d)

/-- `n` bytes read from address `a` of a space, as arbiter input `input` (R267). -/
def Device.read (d : Device) (sp : Space) (input a n : Nat) : Except MemErr (List Byte) × Device :=
  d.readSpans sp input (pageSpans a n)

/-- Whether a D8 write to host memory as arbiter input `input` carries the Relaxed Ordering attribute: HIF_CTL.relaxed, as it is in effect
(R421), sets it on the write-back data of the compositors and on records. -/
def Device.relaxes (d : Device) (input : Nat) : Bool := d.rdAct Reg.HIF_CTL_relaxed == 1 && (decide (input < 4) || input == 8)

/-- One span within a page written at its target; a poisoned line that is written whole is no longer poisoned. -/
def Device.writeAt (d : Device) (input : Nat) (t : Target) (bs : List Byte) (urgent : Bool := false) : Except MemErr Unit × Device :=
  match t with
  | .host ha =>
    if !d.hostUp then (.error (.ecc 0x03), d.raise (errRecord (fault 0x03 1 Reg.HIF_CTL 0) none ha))
    else (.ok (), { d with mems := { d.mems with host := rawWrite d.mems.host ha bs, relaxed := d.relaxes input } })
  | .lp5x pa =>
    if !d.memUp then (.error (.ecc 0x03), d)
    else
      let d := d.scSpan input true pa bs.length urgent
      (.ok (),
        { d with mems := { d.mems with
            lp5x := rawWrite d.mems.lp5x pa bs
            poison := d.mems.poison.filter (fun l => !(decide (pa ≤ l * 128) && decide (l * 128 + 128 ≤ pa + bs.length))) } })

/-- Bytes written into an address space, page by page; a page that faults stops the write (writes before it stand). -/
def Device.writeSpans (d : Device) (sp : Space) (input : Nat) (bs : List Byte) :
    List (Nat × Nat) → Except MemErr Unit × Device
  | [] => (.ok (), d)
  | (a, n) :: r =>
    match d.target sp true a with
    | (none, d) => (.error .trans, d)
    | (some t, d) =>
      match d.writeAt input t (bs.take n) with
      | (.error e, d) => (.error e, d)
      | (.ok (), d) => d.writeSpans sp input (bs.drop n) r

/-- Bytes written, without the dirty log. -/
def Device.writeRaw (d : Device) (sp : Space) (input a : Nat) (bs : List Byte) : Except MemErr Unit × Device :=
  d.writeSpans sp input bs (pageSpans a bs.length)

/-- The consumer index in the 32-bit word that follows a ring of `2^k` entries of `size` bytes (R308, R364, R176). -/
def Device.ringCons (d : Device) (sp : Space) (input base k size : Nat) : Option Nat × Device :=
  match d.read sp input (base + 2 ^ k * size) 4 with
  | (.ok bs, d) => (some (leNat bs % 2 ^ (k + 1)), d)
  | (.error _, d) => (none, d)

/-- An entry appended to the dirty log of instance `i` (R308); the log ring lies in INST_0's space. -/
def Device.dlogAppend (d : Device) (i va : Nat) : Device :=
  let k := (d.inst i).dlogLog2
  let base := (d.inst i).dlogBase
  let p := d.rd (Reg.INST_DLOG_prod i)
  match d.ringCons (.inst 0) 8 base k 8 with
  | (none, d) => d.wr (Reg.INST_DLOG_overflow i) 1
  | (some c, d) =>
    let held := (p + 2 ^ (k + 1) - c) % 2 ^ (k + 1)
    if 2 ^ k ≤ held then d.wr (Reg.INST_DLOG_overflow i) 1
    else
      let phase := if p < 2 ^ k then 2 ^ 63 else 0
      let (_, d) := d.writeRaw (.inst 0) 8 (base + p % 2 ^ k * 8) (leBytes 8 (va / 4096 * 4096 + phase))
      let d := d.wr (Reg.INST_DLOG_prod i) ((p + 1) % 2 ^ (k + 1))
      if held + 1 = 2 ^ k / 2 then d.signal 0 12 else d

/-- The first write to a clean page of an instance whose dirty log runs (R308): the dirty bit is set by an atomic at the system cache. -/
def Device.dlogPage (d : Device) (i va : Nat) : Device :=
  if !d.on (Reg.INST_DLOG_enable i) then d
  else
    match d.cached i va with
    | none => d
    | some e =>
      if e.dirty then d
      else
        let b := (rawRead d.mems.lp5x e.leaf 1).headD 0#8
        let d := d.scSpan 8 true e.leaf 8
        let d := { d with mems := { d.mems with
          lp5x := rawWrite d.mems.lp5x e.leaf [b ||| 8#8]
          tlb := d.mems.tlb.map (fun x : TlbEntry => if x.inst == i && x.page == e.page then { x with dirty := true } else x) } }
        d.dlogAppend i va

/-- Bytes written to address `a` of a space, as arbiter input `input`; writes for an instance feed its dirty log. -/
def Device.write (d : Device) (sp : Space) (input a : Nat) (bs : List Byte) : Except MemErr Unit × Device :=
  match d.writeRaw sp input a bs with
  | (.error e, d) => (.error e, d)
  | (.ok (), d) =>
    match sp with
    | .inst i => (.ok (), (pageSpans a bs.length).foldl (fun d s => d.dlogPage i s.1) d)
    | _ => (.ok (), d)

end Sys2Proof.Machine
end

