-- ==== Sys2Proof/Machine/Harvest.lean ====
section
/-!
DEFINITION. Items and their completion: the fields of a descriptor (R84), the completion record (R88 to R91), the harvest
ring (R81, R89, R94) and its interrupt (R96).
-/

namespace Sys2Proof.Machine

open Sys2Proof

/-- The size code k of a ring: values outside `lo` to `hi` are treated as 6 (R96, R180, R366). -/
def ringK (hi v : Nat) : Nat := if 6 ≤ v && v ≤ hi then v else 6

/-! ### Descriptor fields -/

def Item.cls (x : Item) : Nat := leAt x.desc 0 1
def Item.flags (x : Item) : Nat := leAt x.desc 1 1
def Item.hasDeadline (x : Item) : Bool := x.flags.testBit 0
def Item.order (x : Item) : Bool := x.flags.testBit 1
def Item.irq (x : Item) : Bool := x.flags.testBit 2
def Item.tag (x : Item) : Nat := leAt x.desc 2 2
def Item.deadline (x : Item) : Nat := leAt x.desc 8 8
def Item.user (x : Item) : Nat := leAt x.desc 0x10 8
/-- `n` payload bytes at offset `o` of the descriptor. -/
def Item.pay (x : Item) (o n : Nat) : Nat := leAt x.desc o n

/-- Whether an item is a RENDER or COMPUTE item, the kinds that picks and contexts run (R62). -/
def Item.renders (x : Item) : Bool := x.cls == 1 || x.cls == 2

/-! ### The item table -/

/-- The item with an identity. -/
def Device.item (d : Device) (uid : Nat) : Option Item := d.q.items.find? (fun x => x.uid == uid)

/-- The item with an identity changed by `f`. -/
def Device.modItem (d : Device) (uid : Nat) (f : Item → Item) : Device :=
  { d with q := { d.q with items := d.q.items.map (fun x => if x.uid == uid then f x else x) } }

/-- The items of a queue in admission order. -/
def Device.queueItems (d : Device) (i n : Nat) : List Item := d.q.items.filter (fun x => x.inst == i && x.queue == n)

/-- Item entries that an instance uses: undecided items and records not yet written (R83, R94). -/
def Device.entries (d : Device) (i : Nat) : Nat :=
  (d.q.items.filter (fun x => x.inst == i)).length + (d.q.held.filter (fun h => h.inst == i)).length

/-- The producer index that the D8 holds for queue `n` of instance `i` (R82). -/
def Device.prodOf (d : Device) (i n : Nat) : Nat := tget (fun _ => 0) d.q.prod (i * 16 + n)

/-- The producer index of a queue set. -/
def Device.setProd (d : Device) (i n v : Nat) : Device :=
  { d with q := { d.q with prod := tset (fun _ => 0) d.q.prod (i * 16 + n) v } }

/-- The size code of a work queue (R81, R96). -/
def Device.queueK (d : Device) (i n : Nat) : Nat := ringK 16 (d.rd (Reg.INST_Q_CFG_log2_size i n))

/-- The descriptors that wait in the ring of a queue (R81). -/
def Device.waitingDescs (d : Device) (i n : Nat) : Nat :=
  ringDiff (2 ^ (d.queueK i n + 1)) (d.prodOf i n) (d.rd (Reg.INST_Q_CONS_cons i n))

/-- Whether descriptors of instance `i` are admitted at all (R83, R94, R96, R377, R379): its state, its harvest ring, no fault of
a record write, and a device that runs. -/
def Device.admits (d : Device) (i : Nat) : Bool :=
  (d.instState i == 1 || d.instState i == 2) && d.on (Reg.INST_HRV_CFG_enable i)
    && !d.on (Reg.INST_HRV_STATUS_write_fault i) && d.awake && !d.pwr.exiting && !d.flt.lostCompute

/-- The unread records of instance `i` (R83). -/
def Device.unread (d : Device) (i : Nat) : Nat :=
  ringDiff (2 ^ (ringK 16 (d.rd (Reg.INST_HRV_CFG_log2_size i)) + 1)) (d.rd (Reg.INST_HRV_PROD_prod i))
    (d.rd (Reg.INST_HRV_CONS_cons i))

/-- Whether instance `i` lacks an item entry or a harvest slot (R83, R299). -/
def Device.lacksSlot (d : Device) (i : Nat) : Bool :=
  decide (d.rd (Reg.INST_QUOTA_quota i) ≤ d.entries i) || decide (2048 ≤ d.q.items.length + d.q.held.length)
    || decide (2 ^ ringK 16 (d.rd (Reg.INST_HRV_CFG_log2_size i)) ≤ d.entries i + d.unread i)

/-- The queues of instance `i` with a descriptor to admit. -/
def Device.readyQueues (d : Device) (i : Nat) : List Nat :=
  (List.range 16).filter (fun n => d.on (Reg.INST_Q_CFG_enable i n) && decide (0 < d.waitingDescs i n))

/-- INST_i_QUOTA.held follows the entries in use (R319), and INST_HRV_STATUS.admit_stall tells of a wait (R83, R96). -/
def Device.showEntries (d : Device) (i : Nat) : Device :=
  (d.wr (Reg.INST_QUOTA_held i) (d.entries i)).wr (Reg.INST_HRV_STATUS_admit_stall i)
    (b2n (d.admits i && d.lacksSlot i && !(d.readyQueues i).isEmpty))

/-- The work slots of channel `c` that items hold (R105). -/
def Device.slotsHeld (d : Device) (c : Nat) : List Nat :=
  d.q.items.filterMap (fun x => match x.slot with | some s => if s.ch = c then some s.slot else none | none => none)

/-- RAS_SLOT_FREE follows the slots held (R127). -/
def Device.showSlots (d : Device) (c : Nat) : Device :=
  d.wr (Reg.RAS_SLOT_FREE_free c) (d.rd (Reg.RAS_SLOT_CFG_count c) - (d.slotsHeld c).length)

/-- The head of a queue's admitted list (R83, R111): the oldest preempted item that nothing runs, else the oldest item that
has not started and that nothing has taken. -/
def Device.queueHead (d : Device) (i n : Nat) : Option Item :=
  let xs := (d.queueItems i n).filter (fun x => x.stage == 0)
  match xs.find? (·.started) with
  | some x => some x
  | none => xs.head?

/-- Whether an item may start: one with order set waits until every earlier item of its queue has completed (R87). -/
def Device.mayStart (d : Device) (x : Item) : Bool :=
  x.started || !x.order || !(d.queueItems x.inst x.queue).any (fun y => decide (y.uid < x.uid))

/-! ### Records -/

/-- The completion record of R88 without its phase bit, which is set as it is written. -/
def recordBytes (status detail tag queue source ovf time user late wait : Nat) : List Byte :=
  leBytes 1 status ++ leBytes 1 detail ++ leBytes 2 tag ++ leBytes 1 queue ++ leBytes 1 source ++ leBytes 2 ovf
    ++ leBytes 8 time ++ leBytes 8 user ++ leBytes 4 late ++ leBytes 4 wait

/-- The signal of the harvest vector for the records not yet signalled (R96). -/
def Device.signalHarvest (d : Device) (i : Nat) : Device :=
  ({ d with q := { d.q with unsig := tset (fun _ => (0, 0)) d.q.unsig i (0, 0) } }).signal i 0

/-- The count trigger of instance `i` (R96): a signal once as many unsignalled records exist as its threshold says. -/
def Device.countSignal (d : Device) (i : Nat) : Device :=
  let n := (tget (fun _ => (0, 0)) d.q.unsig i).1
  let c := d.rd (Reg.INST_HRV_IRQ_count i)
  if d.on (Reg.INST_HRV_IRQ_enable i) && c != 0 && decide (c ≤ n) then d.signalHarvest i else d

/-- A record written to the ring of instance `i` counts toward its interrupt (R96). -/
def Device.noteRecord (d : Device) (i : Nat) (irq : Bool) : Device :=
  let (n, old) := tget (fun _ => (0, 0)) d.q.unsig i
  let d := { d with q := { d.q with
    unsig := tset (fun _ => (0, 0)) d.q.unsig i (n + 1, if n = 0 then d.beatTime else old) } }
  if irq && d.on (Reg.INST_HRV_IRQ_enable i) then d.signalHarvest i else d.countSignal i

/-- What follows the write of a record at `a` with the producer index at `p` in a ring of 2^k: the index moves on, or the fault is held
against the instance (R94). -/
def recordWritten (i p k a : Nat) (irq : Bool) (w : Except MemErr Unit × Device) : Bool × Device :=
  match w with
  | (.ok (), d) =>
    (true, (d.wr (Reg.INST_HRV_PROD_prod i) ((p + 1) % 2 ^ (k + 1))).noteRecord i irq)
  | (.error _, d) =>
    (false, (d.wr (Reg.INST_HRV_STATUS_write_fault i) 1).raise
      { fault 0x11 2 0x600000 i with inst := some i, addr := a })

/-- One record written into the harvest ring of instance `i` (R81, R89): whether it was written, and the device. A write
that faults holds the record, stops admission and raises NOTICE (R94). -/
def Device.writeRecord (d : Device) (i : Nat) (bytes : List Byte) (irq : Bool) : Bool × Device :=
  let k := ringK 16 (d.rd (Reg.INST_HRV_CFG_log2_size i))
  let p := d.rd (Reg.INST_HRV_PROD_prod i) % 2 ^ (k + 1)
  let a := d.addr64 (Reg.INST_HRV_BASE_LO i) (Reg.INST_HRV_BASE_HI i) + p % 2 ^ k * 32
  let b := bytes.set 5 ((bytes.getD 5 0#8) ||| (if p < 2 ^ k then 0x80#8 else 0#8))
  recordWritten i p k a irq (d.write (.inst i) 8 a b)

/-- The held records of instance `i` written in order until one faults. A record for a ring that is disabled is not
written (R93). -/
def Device.flushHeld (d : Device) (i : Nat) : List Held → List Held → Device
  | [], done => { d with q := { d.q with held := done.reverse } }
  | h :: hs, done =>
    if h.inst != i || d.on (Reg.INST_HRV_STATUS_write_fault i) then d.flushHeld i hs (h :: done)
    else if !d.on (Reg.INST_HRV_CFG_enable i) then d.flushHeld i hs done
    else
      match d.writeRecord i h.bytes h.irq with
      | (true, d) => d.flushHeld i hs done
      | (false, d) => d.flushHeld i hs (h :: done)

/-- Every record of instance `i` that can be written is written. -/
def Device.flush (d : Device) (i : Nat) : Device := (d.flushHeld i d.q.held []).showEntries i

/-- A record decided for instance `i` joins those to write. -/
def Device.postRecord (d : Device) (i : Nat) (irq : Bool) (bytes : List Byte) : Device :=
  ({ d with q := { d.q with held := d.q.held ++ [(⟨i, irq, bytes⟩ : Held)] } }).flush i

/-- The wait field of R88: picks used, and whole beats from admission to the first pick or commit. -/
def Item.waitField (x : Item) : Nat :=
  satAt 0xFFFF x.picks + satAt 0xFFFF (match x.firstAt with | some t => (t - x.time) / 65536 | none => 0) * 65536

/-- Who decides a completion when it is not a channel: the queue front end goes last (R87). -/
def frontEnd : Nat := 4

/-- A completion is decided by channel `r`, or by the front end (R87). Within one FCLK cycle channels go in their order: a decision that
comes after one of a later channel falls in the cycle that follows. -/
def Device.turn (d : Device) (r : Nat) : Device :=
  let d := if d.q.last.1 = d.beat.clock && r < d.q.last.2 then d.atTick (d.beat.stick + 1) else d
  { d with q := { d.q with last := (d.beat.clock, r) } }

/-- The completion of an item decided at beat time `t` (R88, R90, R91): `status` is DONE for work that ended, and becomes
DONE_LATE past a deadline. Its entry, its work slot and its place in the table are released; its record is written. -/
def Device.completeAt (d : Device) (x : Item) (status detail t : Nat) : Device :=
  let isLate := x.hasDeadline && decide (x.deadline < t)
  let st := if status = stDone && isLate then stDoneLate else status
  let plain := decide (0x20 ≤ status) && decide (status ≤ 0x30)
  let src := x.inst + (if x.preempted then 32 else 0)
  let bytes := recordBytes st detail x.tag x.queue src (if plain then 0 else satAt 0xFFFF x.ovf) t x.user
    (if plain || !isLate then 0 else satAt 0xFFFFFFFF (t - x.deadline)) (if plain then 0 else x.waitField)
  let d := { d with q := { d.q with items := d.q.items.filter (fun y => y.uid != x.uid) } }
  let d := match x.slot with | some s => d.showSlots s.ch | none => d
  d.postRecord x.inst x.irq bytes

/-- The completion of the item `uid` decided now, by channel `r` or the front end. -/
def Device.completeBy (d : Device) (r uid status detail : Nat) : Device :=
  match d.item uid with
  | some x => (d.turn r).completeAt x status detail (d.turn r).beatTime
  | none => d

/-- The completion of the item `uid` decided now by the queue front end. -/
def Device.complete (d : Device) (uid status detail : Nat) : Device := d.completeBy frontEnd uid status detail

/-- The record of a descriptor that is refused or cannot be read during admission (R83, R86): no work was done. -/
def Device.refuseDesc (d : Device) (i n status detail tag user : Nat) (irq : Bool) : Device :=
  (d.turn frontEnd).postRecord i irq (recordBytes status detail tag n i 0 d.beatTime user 0 0)

end Sys2Proof.Machine
end

