-- ==== Sys2Proof/Machine/L2.lean ====
section
/-!
DEFINITION. The caches of a raster engine (R102 to R104): L2 of each channel, coherent among the channel's own agents, and
the texture L1 of each cluster, coherent with nothing. A set that is full gives up one line (log entry 21).
-/

namespace Sys2Proof.Machine

open Sys2Proof

/-- The lines that L2 of channel `c` holds. -/
def Device.l2 (d : Device) (c : Nat) : List L2Line := tget (fun _ => []) d.ras.l2 c

/-- The lines of L2 of channel `c` replaced. -/
def Device.setL2 (d : Device) (c : Nat) (ls : List L2Line) : Device :=
  { d with ras := { d.ras with l2 := tset (fun _ => []) d.ras.l2 c ls } }

/-- The number of the line that a target lies in, with the memory it belongs to. -/
def Target.key : Target → Nat
  | .lp5x pa => pa / 128 * 2
  | .host ha => ha / 128 * 2 + 1

/-- The first byte of a line. -/
def lineTarget (key : Nat) : Target := if key % 2 = 0 then .lp5x (key / 2 * 128) else .host (key / 2 * 128)

/-- The byte of a target within its line. -/
def Target.within : Target → Nat
  | .lp5x pa => pa % 128
  | .host ha => ha % 128

/-- A span of bytes cut at line boundaries. -/
def lineSpans (a n : Nat) : List (Nat × Nat) :=
  (List.range ((127 + (n + a % 128)) / 128)).map (fun k =>
    let s := if k = 0 then a else (a / 128 + k) * 128
    (s, min (a + n) ((a / 128 + k + 1) * 128) - s))

/-- A line of L2 replaced. -/
def Device.putL2 (d : Device) (c : Nat) (l : L2Line) : Device :=
  d.setL2 c ((d.l2 c).map (fun x => if x.key == l.key then l else x))

/-- The dirty bytes of `new` over the bytes that memory holds. -/
def mergeDirty (mask : Nat) (old new : List Byte) : List Byte :=
  ((old.zip new).zipIdx).map (fun p => if mask.testBit p.2 then p.1.2 else p.1.1)

/-- A dirty line written to the system cache. -/
def Device.l2WriteBack (d : Device) (c : Nat) (l : L2Line) : Device :=
  if l.dirty = 0 then d
  else
    let t := lineTarget l.key
    let old := match t with
      | .lp5x pa => rawRead d.mems.lp5x pa 128
      | .host ha => rawRead d.mems.host ha 128
    let (_, d) := d.writeAt (4 + c) t (mergeDirty l.dirty old l.data)
    d.putL2 c { l with dirty := 0, items := [] }

/-- Room in L2 of channel `c` for a line of the number `key` (R102): when the 16 ways of its set are taken, one line of them that is not
pinned leaves, written back when it is dirty; which one is open (log entry 21). -/
def Device.l2Room (d : Device) (c key : Nat) : Device :=
  if (d.l2 c).length < 16 then d
  else
    let set := (d.l2 c).filter (fun l => Config.l2Set l.key % 1024 == Config.l2Set key % 1024)
    if set.length < 16 then d
    else
      let (n, d) := d.free
      let may := set.filter (fun l => !l.pinned)
      match may[n % may.length]? with
      | some l =>
        let d := d.l2WriteBack c l
        d.setL2 c ((d.l2 c).filter (fun x => x.key != l.key))
      | none => d

/-- A line of channel `c` in L2, filled from memory when it is not there. -/
def Device.l2Line (d : Device) (c key : Nat) : Except MemErr L2Line × Device :=
  match (d.l2 c).find? (fun l => l.key == key) with
  | some l => (.ok l, d)
  | none =>
    match d.readAt (4 + c) (lineTarget key) 128 with
    | (.error e, d) => (.error e, d)
    | (.ok bs, d) =>
      let d := d.l2Room c key
      let l : L2Line := { key := key, data := bs, dirty := 0, items := [], pinned := false }
      (.ok l, d.setL2 c (l :: d.l2 c))

/-- Bytes read through L2, span by span. -/
def Device.l2ReadSpans (d : Device) (c i : Nat) : List (Nat × Nat) → Except MemErr (List Byte) × Device
  | [] => (.ok [], d)
  | (a, n) :: r =>
    match d.target (.inst i) false a with
    | (none, d) => (.error .trans, d)
    | (some t, d) =>
      match d.l2Line c t.key with
      | (.error e, d) => (.error e, d)
      | (.ok l, d) =>
        match d.l2ReadSpans c i r with
        | (.error e, d) => (.error e, d)
        | (.ok bs, d) => (.ok ((l.data.drop t.within).take n ++ bs), d)

/-- `n` bytes read through L2 of channel `c` from address `a` of instance `i`. -/
def Device.l2Read (d : Device) (c i a n : Nat) : Except MemErr (List Byte) × Device := d.l2ReadSpans c i (lineSpans a n)

/-- `new` written over `old` from position `o`. -/
def overlay (old new : List Byte) (o : Nat) : List Byte := old.take o ++ new ++ old.drop (o + new.length)

/-- The dirty log of the instance whose space this is, if any (R308). -/
def Device.dlogSpace (d : Device) (sp : Space) (a : Nat) : Device :=
  match sp with
  | .inst i => d.dlogPage i a
  | _ => d

/-- Bytes written through L2 for item `u`, span by span; each first write to a clean page of an instance feeds the dirty log (R308). -/
def Device.l2WriteSpans (d : Device) (c : Nat) (sp : Space) (u : Nat) (bs : List Byte) : List (Nat × Nat) → Except MemErr Unit × Device
  | [] => (.ok (), d)
  | (a, n) :: r =>
    match d.target sp true a with
    | (none, d) => (.error .trans, d)
    | (some t, d) =>
      match d.l2Line c t.key with
      | (.error e, d) => (.error e, d)
      | (.ok l, d) =>
        let d := d.putL2 c
          { l with data := overlay l.data (bs.take n) t.within, dirty := l.dirty ||| ((2 ^ n - 1) * 2 ^ t.within),
                   items := if l.items.contains u then l.items else u :: l.items }
        (d.dlogSpace sp a).l2WriteSpans c sp u (bs.drop n) r

/-- Bytes written through L2 of channel `c` to address `a` of instance `i`, for item `u`. -/
def Device.l2Write (d : Device) (c i u a : Nat) (bs : List Byte) : Except MemErr Unit × Device :=
  d.l2WriteSpans c (.inst i) u bs (lineSpans a bs.length)

/-- Bytes of a bin pool or a save area written through L2 of channel `c`, for item `u` (R105, R109); the pools lie at device addresses
(log entry 116). -/
def Device.poolWrite (d : Device) (c u a : Nat) (bs : List Byte) : Except MemErr Unit × Device :=
  d.l2WriteSpans c .securePhys u bs (lineSpans a bs.length)

/-- Every dirty line of L2 that `p` selects is written to the system cache (R104). -/
def Device.l2Clean (d : Device) (c : Nat) (p : L2Line → Bool) : Device :=
  ((d.l2 c).filter p).foldl (fun d l => d.l2WriteBack c l) d

/-- The lines that an item dirtied, in every channel, are written back (R104). -/
def Device.l2CleanItem (d : Device) (u : Nat) : Device :=
  (List.range 4).foldl (fun d c => d.l2Clean c (fun l => l.items.contains u)) d

/-- Every clean line that is not pinned leaves L2 (R104). -/
def Device.l2DropClean (d : Device) (c : Nat) : Device :=
  d.setL2 c ((d.l2 c).filter (fun l => l.dirty != 0 || l.pinned))

/-- The lines of an instance's address range that translate. -/
def Device.rangeKeys (d : Device) (i a n : Nat) : List Nat × Device :=
  (lineSpans a n).foldl
    (fun (acc : List Nat × Device) s =>
      match acc.2.target (.inst i) false s.1 with
      | (some t, d) => (t.key :: acc.1, d)
      | (none, d) => (acc.1, d)) ([], d)

/-- The L1 lines of a cluster removed (R103). -/
def Device.l1Drop (d : Device) (c k : Nat) : Device :=
  { d with ras := { d.ras with l1 := d.ras.l1.filter (fun l => !(l.ch == c && l.cluster == k)) } }

/-- The L1 lines of the clusters of a mask removed. -/
def Device.l1DropMask (d : Device) (c mask : Nat) : Device := (onesBelow 12 mask).foldl (fun d k => d.l1Drop c k) d

/-- The lines that the L1 of cluster `k` of channel `c` keeps beside a new one of the number `key` (R102): when the 8 ways of its set are
taken, one line of them leaves; which one is open (log entry 21). -/
def Device.l1Room (d : Device) (c k key : Nat) : Device :=
  let mine := d.ras.l1.filter (fun l => l.ch == c && l.cluster == k)
  if mine.length < 8 then d
  else
    let set := mine.filter (fun l => Config.l1Set l.key % 32 == Config.l1Set key % 32)
    if set.length < 8 then d
    else
      let (n, d) := d.free
      match set[n % set.length]? with
      | some v => { d with ras := { d.ras with l1 := d.ras.l1.filter (fun l => l != v) } }
      | none => d

/-- A line as a cluster's L1 holds it, filled through L2 when it is not there. -/
def Device.l1Line (d : Device) (c k key : Nat) : Except MemErr (List Byte) × Device :=
  match d.ras.l1.find? (fun l => l.ch == c && l.cluster == k && l.key == key) with
  | some l => (.ok l.data, d)
  | none =>
    match d.l2Line c key with
    | (.error e, d) => (.error e, d)
    | (.ok l, d) =>
      let d := d.l1Room c k key
      (.ok l.data, { d with ras := { d.ras with l1 := ({ ch := c, cluster := k, key := key, data := l.data } : L1Line) :: d.ras.l1 } })

/-- Bytes read through the L1 of a cluster, span by span. -/
def Device.l1ReadSpans (d : Device) (c k i : Nat) : List (Nat × Nat) → Except MemErr (List Byte) × Device
  | [] => (.ok [], d)
  | (a, n) :: r =>
    match d.target (.inst i) false a with
    | (none, d) => (.error .trans, d)
    | (some t, d) =>
      match d.l1Line c k t.key with
      | (.error e, d) => (.error e, d)
      | (.ok bs, d) =>
        match d.l1ReadSpans c k i r with
        | (.error e, d) => (.error e, d)
        | (.ok cs, d) => (.ok ((bs.drop t.within).take n ++ cs), d)

/-- `n` bytes read through the L1 of cluster `k` of channel `c` from address `a` of instance `i`. -/
def Device.l1Read (d : Device) (c k i a n : Nat) : Except MemErr (List Byte) × Device := d.l1ReadSpans c k i (lineSpans a n)

/-- The lines of `n` bytes written back and removed from L2 of channel `c`, before an access at the system cache (R149). -/
def Device.l2Evict (d : Device) (c key : Nat) : Device :=
  let d := d.l2Clean c (fun l => l.key == key)
  d.setL2 c ((d.l2 c).filter (fun l => l.key != key))

end Sys2Proof.Machine
end

