-- ==== Sys2Proof/Machine/Operands.lean ====
section
/-!
DEFINITION. The operand forms of the Kryent scalar instructions (R46, R47, R51): general registers, immediates and DMEM
addresses.
-/

namespace Sys2Proof.Machine

open Sys2Proof

/-- A general register read: g0 reads as zero (R47). -/
def Seq.gr (x : Seq) (r : Nat) : Word := if r = 0 then 0#32 else tget (fun _ => 0#32) x.g r

/-- A general register written: a write to g0 is discarded (R47). -/
def Seq.setGr (x : Seq) (r : Nat) (w : Word) : Seq :=
  if r = 0 then x else { x with g := tset (fun _ => 0#32) x.g r w }

/-- The value of an immediate that its format extends with its sign (sext of R51). -/
def sext18 (imm : BitVec 18) : Int := imm.toInt

/-- The value of an immediate that its format extends with zeros (zext of R51), as a word. -/
def zext18 (imm : BitVec 18) : Word := imm.setWidth 32

/-- An immediate extended with its sign, as a word. -/
def simm (imm : BitVec 18) : Word := imm.signExtend 32

/-- The effective address ra + sext(imm18) (R54). -/
def Seq.ea (x : Seq) (ra : Nat) (imm : BitVec 18) : Word := x.gr ra + simm imm

/-- The address of a branch or jump: pc + 4 × the signed offset, as an integer (R54). -/
def Seq.branchTo (x : Seq) (off : BitVec 22) : Word := w32 (wrapInt 32 ((x.pc : Int) + 4 * off.toInt))

/-- A byte of a word, by its little-endian position. -/
def wordByte (w : Word) (i : Nat) : Nat := bits w.toNat (8 * i + 7) (8 * i)

/-- A half-word of a word, by its little-endian position. -/
def wordHalf (w : Word) (i : Nat) : Nat := bits w.toNat (16 * i + 15) (16 * i)

end Sys2Proof.Machine
end

