-- ==== Sys2Proof/Machine/Flags.lean ====
section
/-!
DEFINITION. The flag computations of the Kryent scalar instructions (R52).
-/

namespace Sys2Proof.Machine

open Sys2Proof

/-- z and n from a result (R52). -/
def Seq.zn (x : Seq) (r : Word) : Seq := { x with z := r == 0#32, n := r.msb }

/-- The carry out of bit 31 of a sum (R52). -/
def addCarry (a b : Word) : Bool := decide (2 ^ 32 ≤ a.toNat + b.toNat)

/-- Signed overflow of a sum (R52). -/
def addOvf (a b : Word) : Bool := (a.msb == b.msb) && ((a + b).msb != a.msb)

/-- The borrow of a difference: a below b, read as unsigned numbers (R52). -/
def subBorrow (a b : Word) : Bool := decide (a.toNat < b.toNat)

/-- Signed overflow of a difference (R52). -/
def subOvf (a b : Word) : Bool := (a.msb != b.msb) && ((a - b).msb != a.msb)

/-- All four flags of a sum. -/
def Seq.addFlags (x : Seq) (a b : Word) : Seq := { x.zn (a + b) with c := addCarry a b, v := addOvf a b }

/-- All four flags of a difference. -/
def Seq.subFlags (x : Seq) (a b : Word) : Seq := { x.zn (a - b) with c := subBorrow a b, v := subOvf a b }

/-- c after a shift: the last bit shifted out, unchanged for a count of 0 (R52). -/
def Seq.shiftC (x : Seq) (k : Nat) (last : Bool) : Seq := if k = 0 then x else { x with c := last }

/-- The last bit that a left shift by `k` shifts out. -/
def shlLast (a : Word) (k : Nat) : Bool := a.toNat.testBit (32 - k)

/-- The last bit that a right shift by `k` shifts out. -/
def shrLast (a : Word) (k : Nat) : Bool := a.toNat.testBit (k - 1)

/-- z, n, c and v as the bits of sflags[3:0] (R49). -/
def Seq.flagBits (x : Seq) : Nat := b2n x.z + 2 * b2n x.n + 4 * b2n x.c + 8 * b2n x.v

/-- z, n, c and v set from bits [3:0]. -/
def Seq.setFlagBits (x : Seq) (f : Nat) : Seq :=
  { x with z := f.testBit 0, n := f.testBit 1, c := f.testBit 2, v := f.testBit 3 }

/-- sflags as a draft reads it (R49). -/
def Seq.sflags (x : Seq) : Word := w32 (x.flagBits + 16 * b2n x.inTrap + 256 * x.saved)

/-- z after an engine command: 1 for OK and OK_ABANDONED (R52). -/
def Seq.cmdZ (x : Seq) (code : Nat) : Seq := { x with z := code ≤ 1 }

/-- Whether a branch condition holds (R53). -/
def Seq.cond (x : Seq) (c : Nat) : Bool :=
  match c with
  | 0x0 => true
  | 0x1 => x.z
  | 0x2 => !x.z
  | 0x3 => x.n != x.v
  | 0x4 => x.n == x.v
  | 0x5 => x.z || x.n != x.v
  | 0x6 => !x.z && x.n == x.v
  | 0x7 => x.c
  | 0x8 => !x.c
  | 0x9 => x.c || x.z
  | 0xA => !x.c && !x.z
  | 0xB => x.n
  | 0xC => !x.n
  | 0xD => x.v
  | 0xE => !x.v
  | _ => false

end Sys2Proof.Machine
end

