-- ==== Sys2Proof/Machine/Trap.lean ====
section
/-!
DEFINITION. How a sequencer runs an instruction: the counted cycles (R34), the ways an instruction ends, traps (R70), the
halt (R72), the end of a pass (R63) and the encodings of instruction words that an ILLEGAL trap reports (R51).
-/

namespace Sys2Proof.Machine

open Sys2Proof

/-! ### Instruction words -/

/-- A word in format R (R51). -/
def encR (rd ra rb fn : Nat) : Word := w32 (rd % 16 * 2 ^ 22 + ra % 16 * 2 ^ 18 + rb % 16 * 2 ^ 14 + fn % 64 * 2 ^ 8)

/-- A word in format I (R51). -/
def encI (op rd ra : Nat) (imm : BitVec 18) : Word :=
  w32 (op % 64 * 2 ^ 26 + rd % 16 * 2 ^ 22 + ra % 16 * 2 ^ 18 + imm.toNat)

/-- A word in format U or B (R51): `r` is rd or cond. -/
def encU (op r : Nat) (imm : BitVec 22) : Word := w32 (op % 64 * 2 ^ 26 + r % 16 * 2 ^ 22 + imm.toNat)

/-- A word in format E (R51). -/
def encE (rd ra rb fn cls : Nat) : Word :=
  w32 (0x3C * 2 ^ 26 + rd % 16 * 2 ^ 22 + ra % 16 * 2 ^ 18 + rb % 16 * 2 ^ 14 + fn % 64 * 2 ^ 8 + cls % 256)

/-- The word of `ERET`, format Z (R51). -/
def encZ : Word := 0xF8000000#32

/-! ### Traps and halts -/

/-- A pass that ends: its counted cycles are reported (R34, R45). -/
def Device.endPass (d : Device) (q : Nat) : Device :=
  (d.wr (Reg.BEAT_SQ_LAST_cycles q) (satAt 0x3FFFFF (d.seq q).spass)).modSeq q
    (fun x => { x with running := false, wait := .running })

/-- A sequencer halts (R72): the pass is left at once, its lock cells are released as abandoned, and a further fault
record is written (R74). In LEGACY and MIXED modes a halt of CSQ0 or CSQ1 also sets UDC_STAT.draft_fault (R429). -/
def Device.haltSeq (d : Device) (q : Nat) : Device :=
  let d := d.modSeq q (fun x => { x with running := false, wait := .running, halted := true })
  let d := (d.abandonLocks (q + 1)).dropGuards (.seq q)
  let d := d.raise { fault 0x0A 2 (csqBase q) q with secure := q == 4 }
  if d.mode != .native && q ≤ 1 then d.wr Reg.UDC_STAT_draft_fault 1 else d

/-- A trap with the address `epc` that R70 gives for sepc. TRAP_INSN writes no fault record, every other trap does, the one of a
handler address beyond the IMEM too (R54, R74). DEDUCED (log entry 18): stvec 1 to 3 is not 0, so it names a handler at address 0
(its bits [1:0] are ignored), and R72 halts for stvec 0 only. -/
def Device.trapAt (d : Device) (q cause : Nat) (stval epc : Word) : Device :=
  let d := if cause = trapInsn then d
    else d.raise { fault 0x0A 1 (csqBase q) q with secure := q == 4, addr := stval.toNat, infoA := cause }
  let d := ((d.wr (Reg.CSQ_STATUS_last_cause q) cause).wr (Reg.CSQ_TRAP_PC_pc q) epc.toNat).wr
    (Reg.CSQ_TRAP_VAL_value q) stval.toNat
  let x := d.seq q
  if x.inTrap then d.haltSeq q
  else
    let x := { x with saved := x.flagBits, scause := cause, stval := stval, sepc := epc, spass := x.spass + 4,
                      now := x.now + 4 }
    if x.stvec = 0#32 then (d.setSeq q x).haltSeq q
    else
      let t := w32 (x.stvec.toNat / 4 * 4)
      let d := d.setSeq q { x with inTrap := true, pc := t.toNat }
      if 0x10000 ≤ t.toNat then
        let d := d.raise { fault 0x0A 1 (csqBase q) q with secure := q == 4, addr := t.toNat, infoA := trapImemRange }
        (((d.wr (Reg.CSQ_STATUS_last_cause q) trapImemRange).wr (Reg.CSQ_TRAP_PC_pc q) t.toNat).wr
          (Reg.CSQ_TRAP_VAL_value q) t.toNat).haltSeq q
      else d

/-- How an instruction ends: with its effect and the next instruction, with a transfer of control, or with a trap. -/
inductive Ran where
  | next (d : Device)
  | jump (d : Device) (target : Word)
  | trap (cause : Nat) (stval : Word)
  | stop (d : Device)

/-- Whether sequencer `q` can execute an instruction: a pass runs and does not wait, and the debug port does not hold it
(R312). -/
def Device.canRun (d : Device) (q : Nat) : Bool :=
  (d.seq q).running && (d.seq q).wait == .running && decide (q ≤ 4) && (!d.boot.halts.contains q || d.boot.steps.contains q)

/-- An instruction of a sequencer that the debug port steps uses up its step (R312). -/
def Device.useStep (d : Device) (q : Nat) : Device :=
  if d.boot.halts.contains q then { d with boot := { d.boot with steps := d.boot.steps.erase q } } else d

/-- The sequential step of the pc. Past 0xFFFC the fetch of 0x1_0000 takes an IMEM_RANGE trap (R54). -/
def Device.advance (d : Device) (q : Nat) : Device :=
  let p := (d.seq q).pc + 4
  let d := d.modSeq q (fun x => { x with pc := p })
  if 0x10000 ≤ p then d.trapAt q trapImemRange (w32 p) (w32 p) else d

/-- Whether a wait is a stall, whose cycles count against the budget; sleeping is not (R34, R54). -/
def Wait.stalls : Wait → Bool
  | .port _ _ | .seed _ _ _ | .post _ _ => true
  | _ => false

/-- The cycles of a stall so far counted (R34, R54). -/
def Device.countStall (d : Device) (q : Nat) : Device :=
  d.modSeq q (fun x =>
    let k := d.beat.stick - x.now
    if x.wait.stalls then { x with now := x.now + k, spass := x.spass + k } else x)

/-- The OVERRUN trap that fell due in a stall is taken before the next instruction (R34, R54, R70). -/
def Device.dueTrap (d : Device) (q : Nat) : Device :=
  let x := d.seq q
  if x.running && x.ovr == .due then
    (d.setSeq q { x with ovr := .taken, overrun := some x.spass }).trapAt q trapOverrun (w32 x.spass) (w32 x.pc)
  else d

/-- A stall of sequencer `q` ends now with `f` (R54): the time it took is counted, and the next instruction follows. -/
def Device.unstall (d : Device) (q : Nat) (f : Seq → Seq) : Device :=
  (((d.countStall q).modSeq q (fun x => { f x with wait := .running })).advance q).dueTrap q

/-- A sleep of sequencer `q` ends now with `f` (R63, R64): it is not counted, and the next instruction follows. -/
def Device.wakeUp (d : Device) (q : Nat) (f : Seq → Seq) : Device :=
  (d.modSeq q (fun x => { f x with wait := .running, now := max x.now d.beat.stick })).advance q

/-- The end of an instruction applied: `d0` is the device as the instruction found it. DEDUCED (log entry 18): an instruction whose
target takes IMEM_RANGE traps instead of its other effects, so `JAL` and `JALR` write no rd, and `ERET` restores no flag and leaves
in_trap set, whereby its own trap halts the sequencer (R72). -/
def Ran.finish (r : Ran) (d0 : Device) (q : Nat) : Device :=
  match r with
  | .next d => d.advance q
  | .jump d t =>
    if 0x10000 ≤ t.toNat then d0.trapAt q trapImemRange t (w32 (d0.seq q).pc)
    else d.modSeq q (fun x => { x with pc := t.toNat })
  | .trap c v => d0.trapAt q c v (w32 (d0.seq q).pc)
  | .stop d => d

/-- Sequencer `q` executes an instruction of `cycles` counted cycles that reads the registers `reads`; a load's result
that the next instruction reads costs one more (R54). An instruction on a sequencer that is not executing does nothing
(log entry 1). -/
def Device.runInstr (d : Device) (q cycles : Nat) (reads : List Nat) (f : Device → Seq → Ran) : Device :=
  if d.canRun q then
    let d := (d.useStep q).atTick (d.seq q).now
    let x := d.seq q
    let k := cycles + (if x.loadRd != 0 && reads.contains x.loadRd then 1 else 0)
    let t := max x.now d.beat.stick
    let y := { x with now := t + k, spass := x.spass + k, loadRd := 0 }
    let d0 := d.setSeq q { x with now := t, loadRd := 0 }
    let d1 := d.setSeq q y
    match f d1 y with
    | .trap c v => Ran.finish (.trap c v) d0 q
    | r => r.finish d1 q
  else d

/-- An instruction whose only effect is on its sequencer. -/
def Device.runSeq (d : Device) (q cycles : Nat) (reads : List Nat) (f : Seq → Seq) : Device :=
  d.runInstr q cycles reads (fun d x => .next (d.setSeq q (f x)))

/-- The result word of an engine command (R59), its flag (R52), and the cycles it counts. -/
def Seq.result (x : Seq) (rd code slot serial : Nat) : Seq :=
  (x.setGr rd (w32 (code + slot * 256 + serial % 65536 * 65536))).cmdZ code

/-! ### Lock cells -/

/-- A request for lock cell `k` by an agent: its result and the device (R68, R316, R318). -/
def Device.lockAcquire (d : Device) (ag : Agent) (k : Nat) : Nat × Device :=
  if 63 < k then (resInvalid, d)
  else
    match d.handovers.find? (fun h => h.kind == 3 && h.unit == k) with
    | some h => (if agentSecure ag == h.secure then resBusy else resDenied, d)
    | none =>
      if d.on (Reg.WLD_LOCK_STAT_secure k) != agentSecure ag then (resDenied, d)
      else if d.on (Reg.WLD_LOCK_STAT_held k) then
        (if d.rd (Reg.WLD_LOCK_STAT_owner k) = lockCode ag then resOk else resBusy, d)
      else
        let ab := d.on (Reg.WLD_LOCK_STAT_abandoned k)
        (if ab then resOkAbandoned else resOk,
          ((d.wr (Reg.WLD_LOCK_STAT_held k) 1).wr (Reg.WLD_LOCK_STAT_owner k) (lockCode ag)).wr
            (Reg.WLD_LOCK_STAT_abandoned k) 0)

/-- A release of lock cell `k` by an agent: OK for its owner, DENIED for anyone else (R68, R316). -/
def Device.lockRelease (d : Device) (ag : Agent) (k : Nat) : Nat × Device :=
  if 63 < k then (resDenied, d)
  else
    match d.handovers.find? (fun h => h.kind == 3 && h.unit == k) with
    | some h => (if agentSecure ag == h.secure then resBusy else resDenied, d)
    | none =>
      if d.on (Reg.WLD_LOCK_STAT_held k) && d.rd (Reg.WLD_LOCK_STAT_owner k) == lockCode ag then
        (resOk, (d.wr (Reg.WLD_LOCK_STAT_held k) 0).wr (Reg.WLD_LOCK_STAT_owner k) 0)
      else (resDenied, d)

end Sys2Proof.Machine
end

