-- ==== Sys2Proof/Machine/Picks.lean ====
section
/-!
DEFINITION. Posts of the sequencers (R59, R61, R62, R78), picks and their ends (R28 to R33), work slots (R105), preemption
(R109, R111), the compositor context (R112 to R114) and what a stopped item leaves (R99, R100).
-/

namespace Sys2Proof.Machine

open Sys2Proof

/-! ### Posts -/

/-- The post in a slot of a sequencer. -/
def Seq.post (x : Seq) (slot : Nat) : Option Post := tget (fun _ => none) x.posts slot

/-- The lowest-numbered post slot that is free. -/
def Seq.freePost (x : Seq) : Option Nat := (List.range 8).find? (fun k => (x.post k).isNone)

/-- A post takes a slot of a sequencer. -/
def Device.takePost (d : Device) (q slot : Nat) (p : Post) : Device :=
  d.modSeq q (fun x => { x with posts := tset (fun _ => none) x.posts slot (some p) })

/-- A post ends (R61, R78): its outcome goes into word 3 of its block and its event bit is set; the outcome of a post of a
replaced image is discarded. The slot is free. -/
def Device.endPost (d : Device) (q slot outcome : Nat) : Device :=
  match (d.seq q).post slot with
  | none => d
  | some p =>
    let d := d.modSeq q (fun x => { x with posts := tset (fun _ => none) x.posts slot none })
    if p.stale then d
    else (d.modSeq q (fun x => x.setDword (p.block / 4 + 3) (w32 outcome))).event q slot

/-- `POST` of class `cls` (R61, R62): `f` is what the engine answers to the words of the block and the slot. -/
def Device.runPost (d : Device) (q rd ra cls : Nat) (f : Device → Nat → Nat → Nat → Nat → Nat → Nat × Device) : Device :=
  d.runInstr q 6 [ra] (fun d x =>
    let a := (x.gr ra).toNat
    if dmemSize q ≤ a then .trap trapDmemRange (x.gr ra)
    else if a % 16 != 0 then .trap trapDmemAlign (x.gr ra)
    else
      let n := (x.postSerial + 1) % 65536
      let d := d.modSeq q (fun x => { x with postSerial := n })
      let done := fun (d : Device) (code slot : Nat) => Ran.next (d.modSeq q (fun x => x.result rd code slot n))
      match x.freePost with
      | none => done d resBusy 0
      | some k =>
        let d := d.takePost q k { cls := cls, block := a, stale := false }
        let (code, d) := f d k a (x.dword (a / 4)).toNat (x.dword (a / 4 + 1)).toNat (x.dword (a / 4 + 2)).toNat
        if code = resOk then done d resOk k
        else done (d.modSeq q (fun x => { x with posts := tset (fun _ => none) x.posts k none })) code 0)

/-! ### Runs -/

/-- The run of an item. -/
def Device.run (d : Device) (u : Nat) : Option Run := d.ras.runs.find? (fun r => r.uid == u)

/-- The run of an item changed. -/
def Device.modRun (d : Device) (u : Nat) (f : Run → Run) : Device :=
  { d with ras := { d.ras with runs := d.ras.runs.map (fun r => if r.uid == u then f r else r) } }

/-- The run of an item that starts: at the first packet, with nothing bound. -/
def Run.fresh (u c : Nat) : Run :=
  { uid := u, ch := c, pos := 0, bound := { words := List.replicate 64 0#8, res := 0, vbuf := 0, consts := 0 }, pass := none, draws := [],
    vtx := [], frags := [], disps := [], area := 0 }

/-- What the raster engine holds of an item discarded: its run, its waves, its workgroups. -/
def Device.dropRun (d : Device) (u : Nat) : Device :=
  { d with ras := { d.ras with
      runs := d.ras.runs.filter (fun r => r.uid != u)
      waves := d.ras.waves.filter (fun w => w.uid != u)
      groups := d.ras.groups.filter (fun g => g.uid != u) } }

/-! ### Clusters -/

/-- The compositor context of channel `c`. -/
def Device.ctx (d : Device) (c : Nat) : Option Ctx := tget (fun _ => none) d.ras.ctxs c

/-- The compositor context of channel `c` replaced; RAS_STATUS.ctx_running follows (R127). DEDUCED (log entry 106): a posted context that
still waits for its first cluster counts as running. -/
def Device.setCtx (d : Device) (c : Nat) (x : Option Ctx) : Device :=
  { d with ras := { d.ras with ctxs := tset (fun _ => none) d.ras.ctxs c x } }.wr (Reg.RAS_STATUS_ctx_running c)
    (b2n x.isSome)

/-- The number of clusters in a mask. -/
def clusterCount (mask : Nat) : Nat := (onesBelow 12 mask).length

/-- The clusters that the compositor context of channel `c` holds. -/
def Device.ctxHolds (d : Device) (c : Nat) : Nat := match d.ctx c with | some x => x.taken | none => 0

/-- The clusters that reprojection passes of channel `c` that started by clock `t` run on: those of their masks that the context does
not hold (R126). -/
def Device.rpjHolds (d : Device) (c t : Nat) : Nat :=
  [2 * c, 2 * c + 1].foldl
    (fun a h =>
      match (tget (fun _ => Head.reset) d.disp.heads h).rpj with
      | some r =>
        match r.start with
        | some t' => if t' ≤ t then a ||| without (if r.mask = 0 then 0xFFF else r.mask) (d.ctxHolds c) else a
        | none => a
      | none => a) 0

/-- Whether two picks are one. -/
def Pick.same (p r : Pick) : Bool := p.sq == r.sq && p.slot == r.slot

/-- The clusters that a running pick holds (R29, R112): those of its mask that the context, a reprojection pass and the running
picks that started before it leave. -/
def Device.pickHolds (d : Device) (p : Pick) : Nat :=
  let xs := d.q.picks.filter (fun x => x.ch == p.ch && !x.held)
  let first := (xs.takeWhile (fun x => !x.same p)).filter (fun x => decide (x.start ≤ p.start))
    ++ (xs.dropWhile (fun x => !x.same p)).filter (fun x => decide (x.start < p.start))
  if p.held then 0 else without p.mask (d.ctxHolds p.ch ||| d.rpjHolds p.ch p.start ||| first.foldl (fun a x => a ||| x.mask) 0)

/-- The clusters that running picks of channel `c` hold. -/
def Device.pickMask (d : Device) (c : Nat) : Nat :=
  (d.q.picks.filter (fun p => p.ch == c && !p.held)).foldl (fun a p => a ||| d.pickHolds p) 0

/-- The cluster-ticks of the work of channel `c` counted up to now (R301); what holds a cluster changes only after this. -/
def Device.settleUse (d : Device) (c : Nat) : Device :=
  let now := d.beat.clock
  let picks := d.q.picks.map (fun p : Pick =>
    if p.ch == c && !p.held then { p with used := p.used + clusterCount (d.pickHolds p) * (now - p.since), since := now } else p)
  let d := match d.ctx c with
    | some x => d.setCtx c (some { x with used := x.used + clusterCount x.taken * (now - x.since), since := now })
    | none => d
  { d with q := { d.q with picks := picks } }

/-- The context of channel `c` takes the clusters of its mask that are free and do not reset (R32, R112, R113). -/
def Device.ctxGrab (d : Device) (c : Nat) : Device :=
  match d.ctx c with
  | none => d
  | some x =>
    let t := x.taken ||| without x.mask (d.pickMask c ||| d.rpjHolds c d.beat.clock ||| d.clustersOut c)
    if t = x.taken then d
    else
      let d := d.settleUse c
      (d.setCtx c ((d.ctx c).map (fun x =>
        { x with taken := t, start := some (x.start.getD d.beat.clock), since := d.beat.clock }))).l1DropMask c t

/-- The reprojection pass of head `h` has ended or is abandoned: its clusters are free, and the context takes those that it waits
for (R112, R126). -/
def Device.rpjFree (d : Device) (h : Nat) : Device :=
  let d := d.settleUse (h / 2)
  let heads := tset (fun _ => Head.reset) d.disp.heads h { tget (fun _ => Head.reset) d.disp.heads h with rpj := none }
  { d with disp := { d.disp with heads := heads } }.ctxGrab (h / 2)

/-- Credit spent by work that ends on channel `c` (R301); the edge saturates it at ±4 G. -/
def Device.spendCredit (d : Device) (i c used : Nat) : Device :=
  let f := Reg.INST_CREDIT_credit i c
  d.wr f (wrapInt 32 (sextNat 32 (d.rd f) - (used : Nat)))

/-! ### Ends of work -/

/-- A pick ends with a code (R29, R62): its credit is spent, and of the clusters that it held the context takes those that it waits
for (R112). -/
def Device.endPick (d : Device) (p : Pick) (code : Nat) : Device :=
  let d := d.settleUse p.ch
  let used := match d.q.picks.find? (fun x => x.same p) with | some x => x.used | none => 0
  let freed := if p.held then 0 else d.pickHolds p
  let d := match d.ctx p.ch with
    | some x =>
      let t := x.taken ||| without (x.mask &&& freed) (d.clustersOut p.ch)
      if t = x.taken then d
      else (d.setCtx p.ch (some { x with taken := t, start := some (x.start.getD d.beat.clock), since := d.beat.clock })).l1DropMask p.ch t
    | none => d
  let d := { d with q := { d.q with picks := d.q.picks.filter (fun x : Pick => !x.same p) } }
  let d := if p.held then d else d.spendCredit p.inst p.ch used
  d.endPost p.sq p.slot code

/-- The context of channel `c` ends with the completion status of its item (R62, R112). -/
def Device.endCtx (d : Device) (c status : Nat) : Device :=
  let d := d.settleUse c
  match d.ctx c with
  | none => d
  | some x =>
    let d := d.setCtx c none
    let d := if x.start.isSome then d.spendCredit x.inst c x.used else d
    d.endPost x.sq x.slot status

/-- The pick that runs or holds an item. -/
def Device.pickOf (d : Device) (u : Nat) : Option Pick := d.q.picks.find? (fun p => p.item == u)

/-- The channel whose context runs an item. -/
def Device.ctxOf (d : Device) (u : Nat) : Option Nat :=
  (List.range 4).find? (fun c => match d.ctx c with | some x => x.item == u | none => false)

/-- The status that a record of an item will carry for work that ended (R90). -/
def Item.doneStatus (x : Item) (d : Device) : Nat :=
  if x.hasDeadline && x.deadline < d.beatTime then stDoneLate else stDone

/-- An item's work ends on the raster engine under a status (R99, R104, R112): its dirty lines are cleaned, its pick ends
with `code` or its context with the status, and its completion is decided. -/
def Device.endItem (d : Device) (u status detail code : Nat) : Device :=
  match d.item u with
  | none => d
  | some x =>
    let shown := if status = stDone then x.doneStatus d else status
    let d := (d.dropRun u).l2CleanItem u
    match d.pickOf u with
    | some p => (d.endPick p code).completeBy p.ch u status detail
    | none =>
      match d.ctxOf u with
      | some c => (d.endCtx c shown).completeBy c u status detail
      | none => d.complete u status detail

/-- An item stops with a failure (R29, R99, R100). -/
def Device.stopItem (d : Device) (u status detail : Nat) : Device := d.endItem u status detail 6

/-- An item stops at a failed access at `a` of its memory (R100, R348): `det` is the detail of a translation fault. -/
def Device.memStop (d : Device) (u : Nat) (e : MemErr) (det a : Nat) : Device :=
  match d.item u, d.run u with
  | some x, some r =>
    match e with
    | .trans =>
      (d.raise { fault 0x0B 1 (chanBase r.ch 1) r.ch with inst := some x.inst, addr := a }).stopItem u stTranslation det
    | .ecc cls => d.stopItem u stFault cls
  | _, _ => d

/-! ### Preemption -/

/-- A pick is asked to release its clusters, with the end code that it will report (R29, R30). A pick already asked keeps
its first code. -/
def Device.preemptPick (d : Device) (p : Pick) (code : Nat) : Device :=
  { d with q := { d.q with picks := d.q.picks.map (fun x : Pick =>
      if x.sq == p.sq && x.slot == p.slot && !x.held && x.preempt.isNone then { x with preempt := some (code, d.beat.clock) }
      else x) } }

/-- Every running pick that `sel` selects is preempted. -/
def Device.preemptAll (d : Device) (sel : Pick → Bool) (code : Nat) : Device :=
  (d.q.picks.filter sel).foldl (fun d p => d.preemptPick p code) d

/-- The waves of an item leave their clusters, keeping their state (R109, R155). -/
def Device.suspendWaves (d : Device) (u : Nat) : Device :=
  { d with ras := { d.ras with waves := d.ras.waves.map (fun w => if w.uid == u then { w with cluster := none } else w) } }

/-- The address of a work slot: the save area first, the bin pool after its 3 MiB (R105). -/
def Device.slotBase (d : Device) (sl : SlotRef) : Nat :=
  d.rd (Reg.RAS_SLOT_HI_addr_hi sl.ch) * 2 ^ 32 + d.rd (Reg.RAS_SLOT_LO_addr_lo sl.ch) * 2 ^ 16
    + sl.slot * d.rd (Reg.RAS_SLOT_CFG_size_mib sl.ch) * 2 ^ 20

/-- What R109 and R155 save of a wave. -/
def Wave.saveList (x : Wave) : List Nat :=
  [x.prog, x.pc, x.amask.toNat, x.live.toNat, b2n x.q, b2n x.barrier] ++ (x.p ++ x.s ++ x.v).flatMap (fun e => [e.1, e.2.toNat])

/-- What R109 saves of an item: its position, STATE, BIND and pass, how far binning has come, the flushed map, tile memory, its waves with
their allocated registers, and workgroup memory. -/
def Device.saveList (d : Device) (u : Nat) (r : Run) : List Nat :=
  [r.pos, r.bound.res, r.bound.vbuf, r.bound.consts] ++ r.bound.words.map (·.toNat) ++ r.draws.flatMap (fun x => [x.next, x.taken])
    ++ (match r.pass with | some p => p.flushed ++ p.texels.flatMap (fun e => [e.1, e.2]) | none => [])
    ++ (d.ras.waves.filter (fun w => w.uid == u)).flatMap Wave.saveList
    ++ (d.ras.groups.filter (fun g => g.uid == u)).flatMap (fun g => g.mem.flatMap (fun e => [e.1, e.2.toNat]))

/-- How many bytes that takes (R109): 512 for the position, a bit for each tile, four bytes for each texel in tile memory, the allocated
registers of the waves, and workgroup memory as allocated, in a save area of 3 MiB (log entry 116). -/
def Device.saveSize (d : Device) (u : Nat) (r : Run) : Nat :=
  min (3 * 2 ^ 20) (512
    + (match r.pass with
        | some p => (7 + (31 + p.width) / 32 * ((31 + p.height) / 32)) / 8 + 4 * p.texels.length
        | none => 0)
    + ((d.ras.waves.filter (fun w => w.uid == u)).map (fun x => 128 * x.vregs + 4 * x.sregs + 64)).sum
    + ((d.ras.groups.filter (fun g => g.uid == u)).map (·.size)).sum)

/-- The state of an item written to its save area (R109). -/
def Device.saveArea (d : Device) (u : Nat) : Device :=
  match d.item u, d.run u with
  | some x, some r =>
    match x.slot with
    | some sl =>
      let n := d.saveSize u r
      let content := d.saveList u r
      ((d.poolWrite r.ch u (d.slotBase sl) ((List.range n).map (Config.poolByte content))).2).modRun u (fun r => { r with area := n })
    | none => d
  | _, _ => d

/-- A preempted pick has released every cluster: its state is in its save area, its item is back in its admitted list, its dirty lines are
written back, and the pick ends (R30, R104, R109, R111). -/
def Device.releasePick (d : Device) (p : Pick) (code since : Nat) : Device :=
  let d := ((d.suspendWaves p.item).saveArea p.item).l2CleanItem p.item
  let d := d.modItem p.item (fun x => { x with stage := 0, preempted := true })
  let d := d.worst (Reg.BEAT_CH_PICKSTAT_worst p.ch) (d.beat.clock - since)
  d.endPick p code

/-! ### Starting work -/

/-- An item starts on channel `c` (R104, R105): at its first pick or context clean, unpinned lines leave L2. -/
def Device.startItem (d : Device) (u c : Nat) : Device :=
  match d.item u with
  | none => d
  | some x =>
    if x.started then d.modRun u (fun r => { r with ch := c })
    else
      let d := d.l2DropClean c
      let d := d.modItem u (fun y => { y with started := true, firstAt := some (y.firstAt.getD d.beatTime) })
      { d with ras := { d.ras with runs := d.ras.runs ++ [Run.fresh u c] } }

/-- A pick starts now with `budget` ticks (R33). -/
def Device.startPick (d : Device) (p : Pick) (budget : Nat) : Device :=
  let p' := { p with held := false, budget := budget, start := d.beat.clock, since := d.beat.clock, used := 0 }
  let d := d.settleUse p.ch
  let d := { d with q := { d.q with picks := d.q.picks.map (fun x : Pick => if x.sq == p.sq && x.slot == p.slot then p' else x) } }
  (d.startItem p.item p.ch).l1DropMask p.ch p.mask

/-- The lowest-numbered free work slot of channel `c` (R105). -/
def Device.freeSlot (d : Device) (c : Nat) : Option Nat :=
  (List.range (d.rd (Reg.RAS_SLOT_CFG_count c))).find? (fun k => !(d.slotsHeld c).contains k)

/-- The common checks of PICK and CTX on an instance and its channel (R62, R300, R371). -/
def Device.workDenied (d : Device) (c i : Nat) : Bool :=
  !d.chanUp c || !d.serves c i || d.instState i != 1 || d.rd (Reg.PWR_DOM_state (2 + c)) != 2

/-- What PICK answers for a block of sequencer `q` (R33, R62, R105, R371). A PICK of the SSQ names no channel (log entry 22).
-/
def Device.pickPost (d : Device) (q slot block w0 w1 w2 : Nat) : Nat × Device :=
  let i := bits w0 4 0
  let n := bits w0 15 8
  let budget := bits w1 21 0
  let mask := bits w2 11 0
  if w0 ≠ putBits (n * 256) 4 0 i || 2 ^ 22 ≤ w1 || 4096 ≤ w2 || 15 < n || mask = 0 || budget = 0 then (resInvalid, d)
  else if 4 ≤ q || d.workDenied q i then (resDenied, d)
  else
    match d.queueHead i n with
    | none => (resEmpty, d)
    | some x =>
      if !x.renders || !d.mayStart x then (resEmpty, d)
      else
        let slotFor := match x.slot with
          | some s => some s
          | none => (d.freeSlot q).map (fun k => ({ ch := q, slot := k } : SlotRef))
        match slotFor with
        | none => (resBusy, d)
        | some sl =>
          let d := (d.modItem x.uid (fun y =>
            { y with stage := 1, picks := y.picks + 1, slot := some sl })).showSlots sl.ch
          let left := d.rd Reg.BEAT_FALLOW_start - d.beat.stick
          let trimmed := min budget left
          let hold := !d.beat.grants || d.fallow || (trimmed < budget && trimmed < 1600)
          let p : Pick :=
            { ch := q, sq := q, slot := slot, block := block, inst := i, item := x.uid, mask := mask, budget := budget,
              start := 0, held := true, preempt := none, since := 0, used := 0 }
          let d := { d with q := { d.q with picks := d.q.picks ++ [p] } }
          (resOk, if hold then d else d.startPick p trimmed)

/-- What CTX answers for a block of sequencer `q` (R62, R112, R114). -/
def Device.ctxPost (d : Device) (q slot block w0 w1 w2 : Nat) : Nat × Device :=
  let h := bits w0 2 0
  let urgent := bitOn w0 8
  let i := bits w1 4 0
  let n := bits w1 15 8
  let mask := bits w2 11 0
  let c := h / 2
  if w0 ≠ h + 256 * b2n urgent || w1 ≠ i + 256 * n || 4096 ≤ w2 || 15 < n || mask = 0 then (resInvalid, d)
  else if (q < 4 && c != q) || d.workDenied c i then (resDenied, d)
  else if (d.ctx c).isSome then (resBusy, d)
  else
    match d.queueHead i n with
    | none => (resEmpty, d)
    | some x =>
      if !x.renders || !d.mayStart x then (resEmpty, d)
      else if x.started then (resInvalid, d)
      else
        let d := (d.modItem x.uid (fun y => { y with stage := 2 })).startItem x.uid c
        let d := d.setCtx c (some { sq := q, slot := slot, block := block, head := h, inst := i, item := x.uid, mask := mask,
                                    taken := 0, start := none, since := 0, used := 0 })
        let d := if urgent then d.preemptAll (fun p => p.ch == c && (d.pickHolds p &&& mask) != 0) 3 else d
        (resOk, d.ctxGrab c)

/-- `POST` of a PICK block (R61, R62). -/
def execPostPick (sq rd ra : Nat) (s : State) : Host.Outcome State Fault Refusal :=
  onDev s (fun d => d.runPost sq rd ra 1 (fun d k a => d.pickPost sq k a))

/-- `POST` of a CTX block (R62, R112). -/
def execPostCtx (sq rd ra : Nat) (s : State) : Host.Outcome State Fault Refusal :=
  onDev s (fun d => d.runPost sq rd ra 2 (fun d k a => d.ctxPost sq k a))

/-! ### Events of picks -/

/-- The pick that a post slot runs. -/
def Device.pickAt (d : Device) (q slot : Nat) : Option Pick := d.q.picks.find? (fun p => p.sq == q && p.slot == slot)

/-- `PICK_BUDGET_EXPIRE` (R29): the budget of the pick in a post slot is used up. -/
def execPickBudgetExpire (sq slot : Nat) (s : State) : Host.Outcome State Fault Refusal :=
  onDev s (fun d =>
    match d.pickAt sq slot with
    | some p => d.when (!p.held && p.preempt.isNone) (fun d => (d.atClock (p.start + p.budget)).preemptPick p 1)
    | none => d)

/-- `FALLOW_OPEN` (R28, R29): the fallow window opens; every running pick is preempted and no pick starts. -/
def execFallowOpen (s : State) : Host.Outcome State Fault Refusal :=
  onDev s (fun d =>
    d.when (d.beat.started && d.beat.grants) (fun d =>
      let d := d.atTick (d.rd Reg.BEAT_FALLOW_start)
      { d with beat := { d.beat with grants := false } }.preemptAll (fun _ => true) 2))

/-- `PREEMPT_RELEASE` (R30, R155): every cluster of a preempted pick is released, `after` ticks after the request. -/
def execPreemptRelease (sq slot after : Nat) (s : State) : Host.Outcome State Fault Refusal :=
  onDev s (fun d =>
    match d.pickAt sq slot with
    | some p =>
      match p.preempt with
      | some (code, t) => d.when (after ≤ 16000) (fun d => (d.atClock (t + after)).releasePick p code t)
      | none => d
    | none => d)

/-- Cluster `k` of channel `c` is stopped and resets within 12 µs (R32, R345): its wave state and its L1 are gone, it leaves the context
that took it, and it serves again from the end of its reset. -/
def Device.stopCluster (d : Device) (c k : Nat) : Device :=
  let d := d.takeOut (unitCluster c k) 9600
  let d := match d.ctx c with
    | some x =>
      if x.taken.testBit k then
        let d := d.settleUse c
        d.setCtx c ((d.ctx c).map (fun x : Ctx => { x with taken := without x.taken (2 ^ k) }))
      else d
    | none => d
  d.l1Drop c k

/-- Cluster `k` has overstayed for the work of an instance on channel `c` (R32): counted, recorded, stopped. -/
def Device.overstay (d : Device) (c k i : Nat) : Device :=
  let d := (d.bump (Reg.BEAT_CH_PICKSTAT_overstay c)).worst (Reg.BEAT_CH_PICKSTAT_worst c) 16000
  (d.raise { fault 0x06 1 (chanBase c 1) c with sub := k, inst := some i }).stopCluster c k

/-- `CLUSTER_OVERSTAY` (R32): cluster `k` of a preempted pick has not released 16,000 ticks after the request. The first such cluster
ends the pick; each other that it held and that overstays at the same tick is stopped too. -/
def execClusterOverstay (sq slot k : Nat) (s : State) : Host.Outcome State Fault Refusal :=
  onDev s (fun d =>
    match d.q.overs.find? (fun o => o.sq == sq && o.slot == slot && o.clock == d.beat.clock && o.left.testBit k) with
    | some o =>
      let rest := d.q.overs.map (fun x : Over => if x == o then { x with left := without x.left (2 ^ k) } else x)
      let d : Device := { d with q := { d.q with overs := rest } }
      d.overstay o.ch k o.inst
    | none =>
      match d.pickAt sq slot with
      | some p =>
        match p.preempt with
        | some (_, t) =>
          d.when ((d.pickHolds p).testBit k) (fun d =>
            let o : Over := { sq := sq, slot := slot, ch := p.ch, inst := p.inst, left := without (d.pickHolds p) (2 ^ k),
                              clock := (d.atClock (t + 16000)).beat.clock }
            let d := (d.atClock (t + 16000)).overstay p.ch k p.inst
            let d : Device := { d with q := { d.q with overs := [o] } }
            d.endItem p.item stFault 0x06 5)
        | none => d
      | none => d)

/-- `CTX_LIMIT_EXPIRE` (R113): the context of channel `c` has run for RAS_CTX_LIMIT.ticks. -/
def execCtxLimitExpire (c : Nat) (s : State) : Host.Outcome State Fault Refusal :=
  onDev s (fun d =>
    match d.ctx c with
    | some x =>
      match x.start with
      | some t =>
        let d := d.atClock (t + d.rd (Reg.RAS_CTX_LIMIT_ticks c))
        (d.raise { fault 0x06 2 (chanBase c 1) c with sub := x.head, inst := some x.inst }).stopItem x.item stFault 0x06
      | none => d
    | none => d)

end Sys2Proof.Machine
end

