-- ==== Sys2Proof/Machine/Seed.lean ====
section
/-!
DEFINITION. The seed store (R321 to R344, R67, R470): slot pairs in MRAM, the mirror, the queue of register writes, wear,
power failure, records, the hour meter and the fault log.
-/

namespace Sys2Proof.Machine

open Sys2Proof

/-! ### The mirror -/

/-- What the mirror holds of seed register `i`. -/
def Device.seedReg (d : Device) (i : Nat) : SeedReg := tget SeedReg.blankAt d.seed.mirror i

/-- The mirror's entry of seed register `i` replaced. -/
def Device.setSeedReg (d : Device) (i : Nat) (r : SeedReg) : Device :=
  { d with seed := { d.seed with mirror := tset SeedReg.blankAt d.seed.mirror i r } }

/-- The value of seed register `i` in the mirror: 0 until ready (R328). -/
def Device.seedValue (d : Device) (i : Nat) : Nat :=
  if d.on Reg.SEED_STATUS_ready then (d.seedReg i).value else 0

/-- The endurance of a pair (R334). -/
def endurance : Nat := 1000000

/-- Whether a register is worn (R327, R335): a write was lost, or its last permitted write has completed. -/
def Device.seedWorn (d : Device) (i : Nat) : Bool :=
  let r := d.seedReg i
  r.worn || (decide (endurance * (r.used + 1) ≤ r.total) && (decide (3 ≤ r.used) || d.rd Reg.SEED_SPARE_free == 0))

/-- The information word of seed register `i` (R328). -/
def Device.seedInfo (d : Device) (i : Nat) : Nat :=
  if d.on Reg.SEED_STATUS_ready then
    let r := d.seedReg i
    b2n r.blank * 2 ^ 31 + b2n (d.seedWorn i) * 2 ^ 30 + b2n r.degraded * 2 ^ 29 + r.used % 4 * 2 ^ 24 + r.total % 2 ^ 24
  else 0

/-- SEED_SPARE.worn and SEED_STATUS.queued follow the mirror and the queue (R344). -/
def Device.showSeed (d : Device) : Device :=
  (d.wr Reg.SEED_SPARE_worn ((d.seed.mirror.filter (fun p => d.seedWorn p.1)).length)).wr Reg.SEED_STATUS_queued
    d.seed.queue.length

/-- The enabled guard registers that name sink `k`: source and minimum. -/
def Device.guardsOf (d : Device) (k : Nat) : List (Nat × Nat) :=
  (List.range 32).filterMap (fun j =>
    if d.on (Reg.AUD_GUARD_enable j) && d.rd (Reg.AUD_GUARD_sink j) == k then
      some (d.rd (Reg.AUD_GUARD_source j), d.rd (Reg.AUD_GUARD_min j))
    else none)

/-- Whether a sink is guarded (R251). -/
def Device.guarded (d : Device) (k : Nat) : Bool := !(d.guardsOf k).isEmpty

/-- AUD_SINK_k_STAT.guarded follows the guard registers. -/
def Device.showGuards (d : Device) : Device :=
  (List.range 128).foldl (fun d k => d.wr (Reg.AUD_SINK_STAT_guarded k) (b2n (d.guarded k))) d

/-- The fields of access RWP show the mirror (R329), and what depends on them follows (R251). -/
def Device.showRwp (d : Device) (i : Nat) : Device :=
  let v := (d.seedReg i).value
  if 0xF80 ≤ i && i ≤ 0xF9F then d.setReg (Reg.AUD_GUARD (i - 0xF80)) (w32 v &&& 0xFFFEFFFF#32) |>.showGuards
  else if i = 0xFA0 then d.wr Reg.MEM_TRAIN_force_full (v / 2 ^ 15)
  else if i = 0xFB0 then
    d.setReg Reg.WLD_DBG ((d.reg Reg.WLD_DBG &&& 0xFFFFFFF0#32) ||| (w32 v &&& 0xF#32))
  else d

/-! ### Slots -/

/-- The slot at an MRAM offset when it is valid (R324): its value, its sequence and its register number. -/
def Device.slotAt (d : Device) (o : Nat) : Option (Nat × Nat × Nat) :=
  if d.seed.bad.contains (o / 8) || d.seed.bad.contains (o / 8 + 1) then none
  else
    let b := rawRead d.mems.mram o 16
    if leAt b 12 4 = crc32c (b.take 12) && leAt b 8 4 < 4096 then some (leAt b 0 4, leAt b 4 4 % 2 ^ 24, leAt b 8 4)
    else none

/-- The slot at an offset when it is valid and names register `i`. -/
def Device.slotOf (d : Device) (i o : Nat) : Option (Nat × Nat) :=
  match d.slotAt o with
  | some (v, n, r) => if r = i then some (v, n) else none
  | none => none

/-- A slot's 16 bytes (R324). -/
def slotBytes (i v n : Nat) : List Byte :=
  let b := leBytes 4 v ++ leBytes 4 (n % 2 ^ 24) ++ leBytes 4 i
  b ++ leBytes 4 (crc32c b)

/-- Bytes written into the MRAM; the words written whole are good again. -/
def Device.mramWrite (d : Device) (o : Nat) (bs : List Byte) : Device :=
  { d with
    mems := { d.mems with mram := rawWrite d.mems.mram o bs }
    seed := { d.seed with bad := d.seed.bad.filter (fun w => !(decide (o ≤ w * 8) && decide (w * 8 + 8 ≤ o + bs.length))) } }

/-- A word of the MRAM that its code cannot correct (R332, R337). -/
def Device.mramBad (d : Device) (w : Nat) : Device :=
  if d.seed.bad.contains w then d else { d with seed := { d.seed with bad := w :: d.seed.bad } }

/-- The offset of spare pair `p` (R321). -/
def spareAt (p : Nat) : Nat := 0x20000 + p * 32

/-- Whether a pair holds no valid slot (R334). -/
def Device.pairFree (d : Device) (o : Nat) : Bool := (d.slotAt o).isNone && (d.slotAt (o + 16)).isNone

/-- The lowest-numbered free spare pair (R334). -/
def Device.freeSpare (d : Device) : Option Nat := (List.range 1024).find? (fun p => d.pairFree (spareAt p))

/-- The target of a write within a pair, and the highest valid sequence there (R326). -/
def Device.pairTarget (d : Device) (i o : Nat) : Nat × Nat :=
  match d.slotOf i o, d.slotOf i (o + 16) with
  | none, none => (o, 0)
  | none, some (_, n) => (o, n)
  | some (_, m), none => (o + 16, m)
  | some (_, m), some (_, n) => if m < n then (o, n) else (o + 16, m)

/-! ### The mirror load -/

/-- One slot taken into the mirror: the highest sequence stands (R324, R328). -/
def Device.loadSlot (d : Device) (o : Nat) : Device :=
  match d.slotAt o with
  | none => d
  | some (v, n, i) =>
    if o < 0x20000 && o / 32 != i then d
    else
      let r := d.seedReg i
      let pair := o / 32 * 32
      let used := if o < 0x20000 then 0
        else (((List.range 1024).filter (fun p =>
          (d.slotOf i (spareAt p)).isSome || (d.slotOf i (spareAt p + 16)).isSome)).length)
      if r.blank || r.total < n then
        d.setSeedReg i { r with value := v, total := n, used := max used r.used, pair := pair, blank := false }
      else d.setSeedReg i { r with used := max used r.used }

/-- The offsets of the slots of the register area of which some byte is not zero, each once, in order. -/
def Device.usedSlots (d : Device) : List Nat :=
  ((d.mems.mram.filter (fun e => decide (e.1 < 0x28000))).map (fun e => e.1 / 16 * 16)).eraseDups

/-- The number of free spare pairs (R334). -/
def Device.countSpares (d : Device) : Nat :=
  1024 - (((d.usedSlots.filter (fun o => decide (0x20000 ≤ o) && (d.slotAt o).isSome)).map (· / 32)).eraseDups).length

/-- SEED_SPARE.free set, and the record of a pool that runs low (R334). -/
def Device.setSpares (d : Device) (n : Nat) : Device :=
  let d := d.wr Reg.SEED_SPARE_free n
  let low := decide (n < 64)
  let d := d.when (low && !d.on Reg.SEED_STATUS_spare_low) (fun d => d.raise (fault 0x0F 3 0x400000 0))
  d.wr Reg.SEED_STATUS_spare_low (b2n low)

/-- The newest valid cell of the hour meter, by powered time (R341): its index and its three counts. -/
def Device.hourCell (d : Device) : Option (Nat × Nat × Nat × Nat) :=
  (List.range 512).foldl
    (fun best k =>
      let b := rawRead d.mems.mram (0x40000 + 16 * k) 16
      if leAt b 12 4 = crc32c (b.take 12) then
        let c := (k, leAt b 0 4, leAt b 4 4, leAt b 8 4)
        match best with
        | none => some c
        | some (_, p, _, _) => if p < c.2.1 then some c else best
      else best) none

/-- The newest valid entry of the fault log (R342): its index and its sequence. -/
def Device.logCell (d : Device) : Option (Nat × Nat) :=
  (((d.mems.mram.filter (fun e => decide (0x140000 ≤ e.1) && decide (e.1 < 0x1C0000))).map
    (fun e => (e.1 - 0x140000) / 64)).eraseDups).foldl
    (fun best k =>
      let b := rawRead d.mems.mram (0x140000 + 64 * k) 64
      if leAt b 0x3C 4 = crc32c (b.take 0x3C) then
        match best with
        | none => some (k, leAt b 0x34 4)
        | some (_, n) => if n < leAt b 0x34 4 then some (k, leAt b 0x34 4) else best
      else best) none

/-- The start of the seed store (R328, R341, R342): the mirror, the hour meter and the place in the fault log. -/
def Device.loadSeed (d : Device) : Device :=
  let d := { d with seed := { d.seed with mirror := [], queue := [], records := [], parked := false, logRoom := 64 } }
  let d := d.usedSlots.foldl Device.loadSlot d
  let d := d.setSpares d.countSpares
  let d := match d.hourCell with
    | some (k, p, a, b) =>
      { ((d.wr (Reg.SEED_HOUR_seconds 0) p).wr (Reg.SEED_HOUR_seconds 1) a).wr (Reg.SEED_HOUR_seconds 2) b with
        seed := { d.seed with hourNext := (k + 1) % 512 } }
    | none => { d with seed := { d.seed with hourNext := 0 } }
  let d := match d.logCell with
    | some (k, n) => { d with seed := { d.seed with logNext := (k + 1) % 8192, logSeq := n + 1 } }
    | none => { d with seed := { d.seed with logNext := 0, logSeq := 1 } }
  let d := (d.seed.mirror.map (·.1)).foldl Device.showRwp d
  (d.wr Reg.SEED_STATUS_ready 1).showSeed

/-! ### Requests -/

/-- Whether R322 and R470 reserve a seed register. -/
def seedReserved (i : Nat) : Bool :=
  (0xF01 ≤ i && i ≤ 0xF7F) || (0xFA1 ≤ i && i ≤ 0xFAF) || (0xFB1 ≤ i && i ≤ 0xFBF) || (0xFC4 ≤ i && i ≤ 0xFCF)
    || (0xFF4 ≤ i && i ≤ 0xFFF)

/-- Whether R322 lets the normal world write a seed register. -/
def seedNormal (i : Nat) : Bool := i ≤ 0xBFF || i == 0xF00 || i == 0xFA0

/-- The world of a requester. -/
def SeedSrc.secure : SeedSrc → Bool
  | .seq n => n == 4
  | .item _ => false
  | .rwp s => s

/-- Whether a request holds one of the five places reserved for sequencers (R325). -/
def SeedSrc.isSeq : SeedSrc → Bool
  | .seq _ => true
  | _ => false

/-- The newest accepted value of a register (R470). -/
def Device.seedNewest (d : Device) (i : Nat) : Nat :=
  match d.seed.queue.reverse.find? (fun w => w.reg == i) with
  | some w => w.value
  | none => (d.seedReg i).value

/-- The result of the checks on a request (R325, R67, R322, R470). -/
def Device.seedCheck (d : Device) (src : SeedSrc) (i v : Nat) : Nat :=
  if 4096 ≤ i then resInvalid
  else if seedReserved i || (!src.secure && !seedNormal i) then resDenied
  else if i = 0xFC1 && (d.seedNewest i &&& v &&& 0xF) != (d.seedNewest i &&& 0xF) then resDenied
  else if d.seedWorn i then resWorn
  else if d.on Reg.SEED_STATUS_pfail then resPowerfail
  else if !src.isSeq && decide (11 ≤ (d.seed.queue.filter (fun w => !w.src.isSeq)).length) then resBusy
  else resOk

/-- The result byte of SEED_LASTRES (R344). -/
def Device.seedResult (d : Device) (src : SeedSrc) (code : Nat) : Device :=
  match src with
  | .seq n =>
    if n = 4 then d.wr Reg.SEED_LASTRES_1_ssq code
    else d.wr ⟨Reg.SEED_LASTRES_0, 8 * n + 7, 8 * n⟩ code
  | .rwp s => if s then d.wr Reg.SEED_LASTRES_1_rwp_s code else d.wr Reg.SEED_LASTRES_1_rwp_n code
  | .item _ => d

/-- A request for a register write (R325): refused at once, or accepted and queued. -/
def Device.seedRequest (d : Device) (src : SeedSrc) (i v : Nat) : Nat × Device :=
  let code := d.seedCheck src i v
  if code = resOk then
    (code, ({ d with seed := { d.seed with queue := d.seed.queue ++ [({ src := src, reg := i, value := v % 2 ^ 32 } : SeedWrite)] } }.seedResult src code).showSeed)
  else (code, d.seedResult src code)

/-- A write of a register with RWP fields (R329): the whole seed register with every RWP field taken from the value. -/
def Device.rwpRequest (d : Device) (secure : Bool) (a : Nat) (v : Nat) : Device :=
  if a = Reg.MEM_TRAIN then (d.seedRequest (.rwp secure) 0xFA0 (v &&& 0x8000)).2
  else if a = Reg.WLD_DBG then (d.seedRequest (.rwp secure) 0xFB0 (v &&& 0xF)).2
  else
    let j := (a - Reg.AUD_GUARD 0) / 4
    if Reg.AUD_GUARD 0 ≤ a && j < 32 && a = Reg.AUD_GUARD j then
      (d.seedRequest (.rwp secure) (0xF80 + j) (v &&& 0xFFFEFFFF)).2
    else d

/-! ### Performing a write -/

/-- The writer learns the outcome (R326, R327). -/
def Device.seedTell (d : Device) (src : SeedSrc) (code : Nat) : Device :=
  let d := d.seedResult src code
  match src with
  | .seq n => (d.event n evSeed).modSeq n (fun x => { x with seedBusy := false })
  | .item u => if code = resOk then d.complete u stDone 0 else d.complete u stWorn 1
  | .rwp _ => d

/-- A lost write (R327). -/
def Device.seedLost (d : Device) (w : SeedWrite) : Device :=
  let d := d.setSeedReg w.reg { d.seedReg w.reg with worn := true }
  let d := (d.wr Reg.SEED_STATUS_lost 1).raise { fault 0x0F 1 0x400000 0 with addr := w.reg }
  d.seedTell w.src resWorn

/-- A slot is written and read back well: the mirror takes the value (R326). -/
def Device.seedPut (d : Device) (w : SeedWrite) (o n used : Nat) : Device :=
  let d := d.mramWrite o (slotBytes w.reg w.value n)
  let r := d.seedReg w.reg
  let d := d.setSeedReg w.reg
    { r with value := w.value, total := n, used := used, pair := o / 32 * 32, degraded := false, blank := false }
  let d := if o < 0x20000 || used = r.used then d else d.setSpares (d.rd Reg.SEED_SPARE_free - 1)
  (d.showRwp w.reg).seedTell w.src resOk

/-- Where a write goes (R326, R334): its slot, its sequence and the spare pairs used then; none when no permitted write
is left. -/
def Device.seedPlan (d : Device) (i : Nat) : Option (Nat × Nat × Nat) :=
  let r := d.seedReg i
  if d.seedWorn i then none
  else if r.total < endurance * (r.used + 1) then
    let (o, n) := d.pairTarget i r.pair
    some (o, n + 1, r.used)
  else if 3 ≤ r.used then none
  else d.freeSpare.map (fun p => (spareAt p, r.total + 1, r.used + 1))

/-- The write goes again, into a spare pair, after a read-back that differs (R327). -/
def Device.seedAgain (d : Device) (w : SeedWrite) (n used : Nat) : Device :=
  if 3 ≤ used then d.seedLost w
  else
    match d.freeSpare with
    | some p => d.seedPut w (spareAt p) n (used + 1)
    | none => d.seedLost w

/-- One accepted write is performed, with the outcome that the MRAM gives (R326, R327, R332). -/
def Device.seedPerform (d : Device) (w : SeedWrite) (e : WriteEnd) : Device :=
  match d.seedPlan w.reg with
  | none => d.seedLost w
  | some (o, n, used) =>
    match e with
    | .good => d.seedPut w o n used
    | .differs => ((d.mramBad (o / 8)).mramBad (o / 8 + 1)).seedAgain w n used
    | .cutWord0 => d.mramBad (o / 8)
    | .cutWord1 => (d.mramWrite o ((slotBytes w.reg w.value n).take 8)).mramBad (o / 8 + 1)
    | .cutAfter => d.mramWrite o (slotBytes w.reg w.value n)

/-- Whether an outcome is a cut of VHOLD (R332). -/
def isCut : WriteEnd → Bool
  | .good => false
  | .differs => false
  | _ => true

/-! ### SEED items -/

/-- A SEED item handed to the seed store (R85, R325, R330): accepted, refused, or left in its admitted list. -/
def Device.seedSubmit (d : Device) (x : Item) : Device :=
  let (code, d) := d.seedRequest (.item x.uid) (x.pay 0x20 2 % 4096) (x.pay 0x24 4)
  if code = resOk then d.modItem x.uid (fun y => { y with stage := 6, started := true })
  else if code = resBusy then d
  else if code = resPowerfail then d.complete x.uid stWorn 2
  else if code = resWorn then d.complete x.uid stWorn 1
  else d.complete x.uid stInvalid 5

/-- The SEED items that wait for a place: those at the head of their queue that may start, oldest first. -/
def Device.seedWaiting (d : Device) : List Item :=
  d.q.items.filter (fun x =>
    x.cls == 6 && x.stage == 0 && d.mayStart x && ((d.queueHead x.inst x.queue).map (·.uid)) == some x.uid)

/-- A place that has become free goes to the oldest SEED item that waits (R325). -/
def Device.seedPlace (d : Device) : Device :=
  match d.seedWaiting with
  | x :: _ => d.seedSubmit x
  | [] => d

/-- `SEEDW` that stalls on its earlier write is taken up again when that write is persistent (R67). -/
def Device.seedResume (d : Device) (q : Nat) : Device :=
  let x := d.seq q
  match x.wait with
  | .seed rd i v =>
    if x.seedBusy then d
    else
      let (code, d) := d.seedRequest (.seq q) i.toNat v.toNat
      d.unstall q (fun x => { (x.result rd code 0 0) with seedBusy := code == resOk })
  | _ => d

/-- `SEED_ITEM`: the queue front end submits the SEED item at the head of queue `n` of instance `i` (R85, R325). -/
def execSeedItem (i n : Nat) (s : State) : Host.Outcome State Fault Refusal :=
  onDev s (fun d =>
    match d.queueHead i n with
    | some x => d.when (x.cls == 6 && d.mayStart x) (fun d => d.seedSubmit x)
    | none => d)

/-- `SEEDW` (R67): the request is answered at once; one that follows a write in flight stalls. -/
def execSeedw (sq rd ra rb : Nat) (s : State) : Host.Outcome State Fault Refusal :=
  onDev s (fun d => d.runInstr sq 4 [ra, rb] (fun d x =>
    let i := x.gr ra
    let v := x.gr rb
    if x.seedBusy then .stop (d.setSeq sq { x with wait := .seed rd i v })
    else
      let (code, d) := d.seedRequest (.seq sq) i.toNat v.toNat
      .next (d.modSeq sq (fun x => { (x.result rd code 0 0) with seedBusy := code == resOk }))))

/-! ### Power failure -/

/-- The hour meter counts and writes the next cell in rotation (R341). -/
def Device.hourWrite (d : Device) (sec t75 t90 : Nat) : Device :=
  let d := (((d.wr (Reg.SEED_HOUR_seconds 0) (d.rd (Reg.SEED_HOUR_seconds 0) + sec)).wr (Reg.SEED_HOUR_seconds 1)
    (d.rd (Reg.SEED_HOUR_seconds 1) + t75)).wr (Reg.SEED_HOUR_seconds 2) (d.rd (Reg.SEED_HOUR_seconds 2) + t90))
  let b := leBytes 4 (d.rd (Reg.SEED_HOUR_seconds 0)) ++ leBytes 4 (d.rd (Reg.SEED_HOUR_seconds 1))
    ++ leBytes 4 (d.rd (Reg.SEED_HOUR_seconds 2))
  let k := d.seed.hourNext
  let d := d.mramWrite (0x40000 + 16 * k) (b ++ leBytes 4 (crc32c b))
  { d with seed := { d.seed with hourNext := (k + 1) % 512 } }

/-! ### Records -/

/-- The bytes of the slot of a record job at offset `o`. -/
def Device.recordHead (d : Device) (o : Nat) : List Byte := rawRead d.mems.mram o 32

/-- The payload of the record slot at an offset when the slot is valid (R339): its sequence and its payload. -/
def Device.recordAt (d : Device) (kind o size : Nat) : Option (Nat × List Byte) :=
  let h := d.recordHead o
  let n := leAt h 8 4
  if leAt h 0x1C 4 = crc32c (h.take 0x1C) && leAt h 0 1 = kind && n + 32 ≤ size
      && !d.seed.bad.any (fun w => decide (o ≤ w * 8 + 7) && decide (w * 8 < o + 32 + n)) then
    let p := rawRead d.mems.mram (o + 32) n
    if leAt h 0x10 4 = crc32c p then some (leAt h 4 4, p) else none
  else none

/-- The newest valid record of a kind among its slots (R339): its offset, its sequence and its payload. -/
def Device.newestRecord (d : Device) (kind base size slots : Nat) : Option (Nat × Nat × List Byte) :=
  (List.range slots).foldl
    (fun best k =>
      match d.recordAt kind (base + k * size) size with
      | none => best
      | some (n, p) =>
        match best with
        | none => some (base + k * size, n, p)
        | some (_, m, _) => if m < n then some (base + k * size, n, p) else best) none

/-- The slot that a record goes to (R339): an invalid slot, else the oldest; a slot of 1,000,000 writes is retired. -/
def Device.recordTarget (d : Device) (j : RecordJob) : Option Nat :=
  let live := ((List.range j.slots).map (fun k => j.base + k * j.size)).filter
    (fun o => leAt (d.recordHead o) 0x0C 4 < endurance)
  match live.find? (fun o => (d.recordAt j.kind o j.size).isNone) with
  | some o => some o
  | none =>
    (live.foldl
      (fun (best : Option (Nat × Nat)) o =>
        match d.recordAt j.kind o j.size, best with
        | some (n, _), some (_, m) => if n < m then some (o, n) else best
        | some (n, _), none => some (o, n)
        | none, b => b) none).map (·.1)

/-- The requester learns that its record is refused (R214, R259, R281, R340). -/
def Device.recordRefused (d : Device) (src : RecordSrc) (code : Nat) : Device :=
  match src with
  | .training => (d.wr Reg.MEM_TRAIN_store_refused 1).raise (fault 0x0F 4 0x400000 0)
  | .audio => (d.wr Reg.AUD_STATUS_store_refused 1).raise (fault 0x0F 4 0x400000 0)
  | .touch n => (d.wr (Reg.TCH_STATUS_store_refused n) 1).raise (fault 0x0E 5 0xC00000 n)
  | .presets =>
    ((d.wr Reg.SEED_REC_CMD_done 1).wr Reg.SEED_REC_CMD_result code).when (code == resWorn)
      (fun d => d.raise (fault 0x0F 4 0x400000 0))

/-- The store of a record is asked for (R339): refused at once, or queued. -/
def Device.recordRequest (d : Device) (j : RecordJob) : Device :=
  if d.on Reg.SEED_STATUS_pfail then d.recordRefused j.src resPowerfail
  else if (d.recordTarget j).isNone then d.recordRefused j.src resWorn
  else { d with seed := { d.seed with records := d.seed.records ++ [j] } }

/-- The header of a record (R339), without its CRC word. -/
def recordHeader (j : RecordJob) (seqn writes : Nat) : List Byte :=
  leBytes 4 (j.kind + j.unit % 256 * 256) ++ leBytes 4 seqn ++ leBytes 4 j.payload.length ++ leBytes 4 writes
    ++ leBytes 4 (crc32c j.payload) ++ leBytes 8 j.extra

/-- A record that commits (R339): the target is made invalid, takes payload and header, and the header CRC comes last. -/
def Device.recordCommit (d : Device) (j : RecordJob) (o : Nat) : Device :=
  let seqn := match d.newestRecord j.kind j.base j.size j.slots with | some (_, n, _) => n + 1 | none => 1
  let h := recordHeader j seqn (leAt (d.recordHead o) 0x0C 4 + 1)
  (d.mramWrite o (h ++ leBytes 4 (crc32c h))).mramWrite (o + 32) j.payload

/-- A record that stops after `chunks` chunks: its target is invalid and is never committed (R330). -/
def Device.recordStop (d : Device) (j : RecordJob) (chunks : Nat) : Device :=
  match d.recordTarget j with
  | none => d
  | some o => (d.mramWrite (o + 0x1C) (leBytes 4 0)).mramWrite (o + 32) (j.payload.take (chunks * 4096))

/-- `RECORD_WRITE`: the oldest requested record is written and committed (R336, R339). Register writes go first. A
training record that is written clears force_full (R281). -/
def execRecordWrite (s : State) : Host.Outcome State Fault Refusal :=
  onDev s (fun d =>
    match d.seed.records with
    | [] => d
    | j :: js =>
      if d.seed.parked || !d.seed.queue.isEmpty then d
      else
        let d := { d with seed := { d.seed with records := js } }
        match d.recordTarget j with
        | none => d.recordRefused j.src resWorn
        | some o =>
          let d := d.recordCommit j o
          match j.src with
          | .presets => (d.wr Reg.SEED_REC_CMD_done 1).wr Reg.SEED_REC_CMD_result resOk
          | .training => d.when (d.on Reg.MEM_TRAIN_force_full) (fun d => (d.seedRequest (.rwp true) 0xFA0 0).2)
          | _ => d)

/-- The record job of the head timing presets (R321, R340). -/
def presetJob (payload : List Byte) : RecordJob :=
  { src := .presets, kind := 0x13, unit := 0, base := 0x44000, size := 0x1000, slots := 2, extra := 0, payload := payload }

/-- A write of 1 to SEED_REC_CMD.go (R340): 2 KiB of presets are read from INST_0's space and stored. -/
def Device.seedRecGo (d : Device) : Device :=
  if d.seed.records.any (fun j => j.src == .presets) then
    (d.wr Reg.SEED_REC_CMD_done 1).wr Reg.SEED_REC_CMD_result resBusy
  else
    let d := d.wr Reg.SEED_REC_CMD_done 0
    match d.read (.inst 0) 11 (d.addr64 Reg.SEED_REC_SRC_LO Reg.SEED_REC_SRC_HI) 2048 with
    | (.ok bs, d) => d.recordRequest (presetJob bs)
    | (.error _, d) =>
      (((d.raise { fault 0x0B 1 0x400000 0 with inst := some 0 }).wr Reg.SEED_REC_CMD_done 1).wr Reg.SEED_REC_CMD_result
        resInvalid)

/-- `SEED_REC_CMD` written with go (R340, R344): only the manager and the SSQ write it. -/
def execSeedRecCmd (ag : Agent) (s : State) : Host.Outcome State Fault Refusal :=
  onDev s (fun d => if ag = .manager || ag = .seq 4 then d.seedRecGo else d)

/-- The first part of a power failure (R330): writes are refused, and a record in progress stops. -/
def Device.pfailTrip (d : Device) (chunks : Nat) : Device :=
  let d := (d.wr Reg.SEED_STATUS_pfail 1).wr Reg.SEED_STATUS_pfail_seen 1
  let d := match d.seed.records with | j :: _ => d.recordStop j chunks | [] => d
  let js := d.seed.records
  js.foldl (fun d j => d.recordRefused j.src resPowerfail) { d with seed := { d.seed with records := [] } }

/-- `POWER_FAIL_TRIP`: PWRFAIL_N falls (`pin`), or the main supply browns out (R330, R361). -/
def execPowerFailTrip (pin : Bool) (chunks : Nat) (s : State) : Host.Outcome State Fault Refusal :=
  onDev s (fun d =>
    d.when (!d.on Reg.SEED_STATUS_pfail)
      (fun d => (d.pfailTrip chunks).raise (fault 0x08 (if pin then 2 else 1) 0x400000 0)))

/-- `MRAM_PARK`: the queued writes are done; one hour-meter cell is written and the MRAM is parked (R330). The operands
are the seconds since the last cell, in all, above 75 °C and above 90 °C. -/
def execMramPark (sec t75 t90 : Nat) (s : State) : Host.Outcome State Fault Refusal :=
  onDev s (fun d =>
    d.when (d.on Reg.SEED_STATUS_pfail && d.seed.queue.isEmpty && !d.seed.parked)
      (fun d =>
        let d := d.hourWrite (satAt 60 sec) (satAt 60 t75) (satAt 60 t90)
        { d with seed := { d.seed with parked := true } }))

/-- `PFAIL_RECOVER`: the supply is back for 10 ms before VHOLD fell, without a reset (R333). -/
def execPfailRecover (s : State) : Host.Outcome State Fault Refusal :=
  onDev s (fun d =>
    d.when (d.on Reg.SEED_STATUS_pfail)
      (fun d => { d.wr Reg.SEED_STATUS_pfail 0 with seed := { d.seed with parked := false } }))

/-- One slot found uncorrectable by a scrub (R337). -/
def Device.scrubBadSlot (d : Device) (o : Nat) : Device :=
  let owner := if o < 0x20000 then some (o / 32) else (d.slotAt o).map (fun t => t.2.2)
  let d := (d.bump Reg.SEED_SCRUB_uncorrectable).wr Reg.SEED_STATUS_degraded_seen 1
  match owner with
  | none => d
  | some i =>
    (d.setSeedReg i { d.seedReg i with degraded := !(d.seedReg i).blank }).raise { fault 0x0F 2 0x400000 0 with addr := i }

/-- `SCRUB_PASS` (R337, R347): `corrected` lists the MRAM words whose code corrected a bit, `bad` those it could not
correct. A corrected word is rewritten as it was. -/
def execScrubPass (corrected bad : List Nat) (s : State) : Host.Outcome State Fault Refusal :=
  onDev s (fun d =>
    d.when (d.on Reg.SEED_STATUS_ready && !d.seed.parked) (fun d =>
      let d := corrected.foldl
        (fun d w => (d.bump Reg.SEED_SCRUB_corrected).raise { fault 0x01 4 0x400000 0 with corrected := true, addr := w * 8 }) d
      let slots := ((bad.filter (fun w => decide (w * 8 < 0x28000))).map (fun w => w / 2 * 16)).eraseDups
      let d := slots.foldl Device.scrubBadSlot d
      bad.foldl Device.mramBad d))

/-- `HOUR_METER_WRITE` (R341): 60 s of powered time have passed, `t75` and `t90` of them above 75 °C and 90 °C. -/
def execHourMeterWrite (t75 t90 : Nat) (s : State) : Host.Outcome State Fault Refusal :=
  onDev s (fun d =>
    d.when (d.on Reg.SEED_STATUS_ready && !d.seed.parked) (fun d => d.hourWrite 60 (satAt 60 t75) (satAt 60 t90)))

/-- `LOG_ROOM_REFILL` (R342): a second has passed. -/
def execLogRoomRefill (s : State) : Host.Outcome State Fault Refusal :=
  onDev s (fun d => { d with seed := { d.seed with logRoom := satAt 64 (d.seed.logRoom + 4) } })

/-- One fault record offered to the fault log (R330, R342). -/
def Device.logRecord (d : Device) (rec48 : List Byte) : Device :=
  if d.on Reg.SEED_STATUS_pfail || d.seed.parked || d.seed.logRoom == 0 || !d.on Reg.SEED_STATUS_ready then
    d.bump Reg.SEED_LOG_dropped
  else
    let b := rec48 ++ leBytes 4 (d.rd (Reg.SEED_HOUR_seconds 0)) ++ leBytes 4 d.seed.logSeq ++ leBytes 4 0
    let d := d.mramWrite (0x140000 + 64 * d.seed.logNext) (b ++ leBytes 4 (crc32c b))
    { d.count Reg.SEED_LOG_written with
      seed := { d.seed with
        logRoom := d.seed.logRoom - 1, logNext := (d.seed.logNext + 1) % 8192, logSeq := (d.seed.logSeq + 1) % 2 ^ 32 } }

end Sys2Proof.Machine
end

