-- ==== Sys2Proof/Machine/Queue.lean ====
section
/-!
DEFINITION. Work queues and admission (R80 to R96, R302): doorbells, descriptors and their checks, the queue page and the
items that the queue front end completes itself.
-/

namespace Sys2Proof.Machine

open Sys2Proof

/-! ### Doorbells -/

/-- A doorbell write of queue `n` of instance `i` (R82). -/
def Device.doorbell (d : Device) (i n : Nat) (value : Word) : Device :=
  let v := wbits value 16 0
  let m := 2 ^ (d.queueK i n + 1)
  let new := ringDiff m v (d.rd (Reg.INST_Q_CONS_cons i n))
  if d.on (Reg.INST_Q_CFG_enable i n) && decide (v < m) && decide (d.waitingDescs i n ≤ new)
      && decide (new ≤ 2 ^ d.queueK i n) then (d.setProd i n v).showEntries i
  else d.wr (Reg.INST_Q_STATUS_bad_doorbell i n) 1

/-- `DOORBELL` (R82): the owner of instance `i` writes a producer index of queue `n`. -/
def execDoorbell (i n : Nat) (value : Word) (s : State) : Host.Outcome State Fault Refusal :=
  onDev s (fun d => d.when d.hostUp (fun d => d.doorbell i n value))

/-! ### Descriptors -/

/-- Whether `n` bytes from offset `o` are all zero. -/
def zeroAt (bs : List Byte) (o n : Nat) : Bool := leAt bs o n == 0

/-- Whether every payload byte and bit outside the named fields of a class is zero (R85). DEDUCED (log entry 33): the length of a RENDER or
COMPUTE payload takes the 4 bytes at 0x28, so bytes 0x2C to 0x3F are outside its fields. -/
def payloadZero (cls : Nat) (b : List Byte) : Bool :=
  match cls with
  | 1 => zeroAt b 0x2C 20
  | 2 => zeroAt b 0x2C 20
  | 3 => leAt b 0x20 4 < 8 && leAt b 0x24 4 < 2 ^ 18 && zeroAt b 0x30 16
  | 4 => leAt b 0x28 4 < 4 && zeroAt b 0x2C 20
  | 5 => zeroAt b 0x20 32
  | 6 => leAt b 0x20 4 < 4096 && zeroAt b 0x28 24
  | _ => leAt b 0x20 4 < 256 && leAt b 0x24 4 < 4 && zeroAt b 0x28 24

/-- Whether the payload fields of a class are in range (R86, R372, detail 0x05). -/
def Device.payloadInRange (d : Device) (i cls : Nat) (b : List Byte) : Bool :=
  match cls with
  | 1 => leAt b 0x28 4 != 0 && leAt b 0x28 4 % 64 == 0
  | 2 => leAt b 0x28 4 != 0 && leAt b 0x28 4 % 64 == 0
  | 3 => d.serves (leAt b 0x20 4 / 2) i && leAt b 0x24 4 != 0 && !bitOn (leAt b 0x24 4) 17
  | 6 => !seedReserved (leAt b 0x20 4) && seedNormal (leAt b 0x20 4)
  | 7 => decide (2 ≤ leAt b 0x20 4) && decide (leAt b 0x20 4 ≤ 10) && decide (leAt b 0x24 4 < 3)
  | _ => true

/-- The detail code of the first check of R86 that a descriptor of instance `i` fails, in the order of the table. -/
def Device.checkDesc (d : Device) (i : Nat) (b : List Byte) : Option Nat :=
  let cls := leAt b 0 1
  let flags := leAt b 1 1
  if cls = 0 || 7 < cls then some 1
  else if (cls = 6 || cls = 7) && i != 0 then some 2
  else if !(decide (flags < 16) && zeroAt b 4 4 && (bitOn flags 0 || zeroAt b 8 8) && zeroAt b 0x18 4
      && (bitOn flags 3 || zeroAt b 0x1C 4) && payloadZero cls b) then some 3
  else if bitOn flags 3 && crc32c (b.take 0x1C ++ b.drop 0x20) != leAt b 0x1C 4 then some 4
  else if !d.payloadInRange i cls b then some 5
  else none

/-- The queue whose turn it is to be admitted (R83): in turn, from the lowest number. -/
def Device.admitQueue (d : Device) (i : Nat) : Option Nat :=
  let t := tget (fun _ => 0) d.q.turn i
  match (d.readyQueues i).find? (fun n => decide (t ≤ n)) with
  | some n => some n
  | none => (d.readyQueues i).head?

/-- One token of the rate limit spent (R302): none is left, or the device after it. A rate of 0 removes the limit. -/
def Device.spendToken (d : Device) (i : Nat) : Option Device :=
  if d.rd (Reg.INST_RATE_rate i) = 0 then some d
  else if d.rd (Reg.INST_RATE_tokens i) = 0 then none
  else some (d.wr (Reg.INST_RATE_tokens i) (d.rd (Reg.INST_RATE_tokens i) - 1))

/-- A descriptor that passed its checks becomes an item at the tail of its queue's admitted list (R83). -/
def Device.newItem (d : Device) (i n : Nat) (b : List Byte) : Device :=
  let x : Item :=
    { uid := d.q.nextUid, inst := i, queue := n, desc := b, time := d.beatTime, started := false, preempted := false,
      picks := 0, ovf := 0, firstAt := none, slot := none, stage := 0 }
  { d with q := { d.q with items := d.q.items ++ [x], nextUid := d.q.nextUid + 1 } }

/-- A descriptor that was read at `a`, taken up or refused (R83). -/
def admitRead (i n a : Nat) (p : Except MemErr (List Byte) × Device) : Device :=
  match p with
  | (.error .trans, d) =>
    (d.raise { fault 0x0B 1 0x600000 i with inst := some i, addr := a }).refuseDesc i n stTranslation 4 0 0 false
  | (.error (.ecc cls), d) => d.refuseDesc i n stFault cls 0 0 false
  | (.ok b, d) =>
    let irq := bitOn (leAt b 1 1) 2
    match d.checkDesc i b with
    | some det => d.refuseDesc i n stInvalid det (leAt b 2 2) (leAt b 0x10 8) irq
    | none =>
      match d.spendToken i with
      | none => d.refuseDesc i n stQuota 0 (leAt b 2 2) (leAt b 0x10 8) irq
      | some d => d.newItem i n b

/-- Steps 2 to 4 of R83 for the descriptor at the consumer index of queue `n`. -/
def Device.admitOne (d : Device) (i n : Nat) : Device :=
  let k := d.queueK i n
  let c := d.rd (Reg.INST_Q_CONS_cons i n)
  let a := d.addr64 (Reg.INST_Q_BASE_LO i n) (Reg.INST_Q_BASE_HI i n) + c % 2 ^ k * 64
  admitRead i n a ((d.wr (Reg.INST_Q_CONS_cons i n) ((c + 1) % 2 ^ (k + 1))).read (.inst i) 8 a 64)

/-- `DESCRIPTOR_ADMIT` (R83): one descriptor of instance `i`, from the queue whose turn it is. -/
def execDescriptorAdmit (i : Nat) (s : State) : Host.Outcome State Fault Refusal :=
  onDev s (fun d =>
    if d.admits i && !d.lacksSlot i then
      match d.admitQueue i with
      | some n =>
        ({ d with q := { d.q with turn := tset (fun _ => 0) d.q.turn i ((n + 1) % 16) } }.admitOne i n).showEntries i
      | none => d
    else d.showEntries i)

/-! ### The queue page -/

/-- The items of a queue that have not started complete as CANCELLED (R91). DEDUCED (log entry 121): a pick that waits for the next grant
with one of them stays, and then starts without an item. -/
def Device.cancelQueue (d : Device) (i n detail : Nat) : Device :=
  ((d.queueItems i n).filter (fun x => !x.started)).foldl (fun d x => d.complete x.uid stCancelled detail) d

/-- `INST_Q_CFG_WRITE` (R96): a write of INST_Q_n_CFG by the owner of instance `i`. -/
def Device.writeQCfg (d : Device) (i n : Nat) (value : Word) : Device :=
  let en := bitOn value.toNat 31
  let sz := wbits value 4 0
  if d.on (Reg.INST_Q_CFG_enable i n) then
    let d := if sz = d.rd (Reg.INST_Q_CFG_log2_size i n) then d else d.wr (Reg.INST_Q_STATUS_cfg_err i n) 1
    if en then d else ((d.wr (Reg.INST_Q_CFG_enable i n) 0).cancelQueue i n 2).showEntries i
  else
    let d := (d.wr (Reg.INST_Q_CFG_log2_size i n) sz).wr (Reg.INST_Q_CFG_enable i n) (b2n en)
    if en then d.setProd i n (d.rd (Reg.INST_Q_CONS_cons i n)) else d

/-- A write of a base register of a ring (R96): ignored, with the error bit `err`, when it would change an enabled ring. -/
def Device.writeRingBase (d : Device) (enabled : Bool) (err : Fld) (addr : Nat) (value : Word) (mask : Word) : Device :=
  let v := value &&& mask
  if enabled then (if v = d.reg addr then d else d.wr err 1) else d.setReg addr v

/-- `INST_HRV_CFG_WRITE` (R96): a write of INST_HRV_CFG by the owner of instance `i`. -/
def Device.writeHrvCfg (d : Device) (i : Nat) (value : Word) : Device :=
  let en := bitOn value.toNat 31
  let sz := wbits value 4 0
  if d.on (Reg.INST_HRV_CFG_enable i) then
    let d := if sz = d.rd (Reg.INST_HRV_CFG_log2_size i) then d else d.wr (Reg.INST_HRV_STATUS_cfg_err i) 1
    if en then d
    else if d.entries i = 0 then (d.wr (Reg.INST_HRV_CFG_enable i) 0).showEntries i
    else d.wr (Reg.INST_HRV_STATUS_cfg_err i) 1
  else
    ((d.wr (Reg.INST_HRV_CFG_log2_size i) sz).wr (Reg.INST_HRV_CFG_enable i) (b2n en)).showEntries i

/-- A write of INST_HRV_CONS by the owner of instance `i` (R96). -/
def Device.writeHrvCons (d : Device) (i : Nat) (value : Word) : Device :=
  let v := wbits value 16 0
  let m := 2 ^ (ringK 16 (d.rd (Reg.INST_HRV_CFG_log2_size i)) + 1)
  let old := d.rd (Reg.INST_HRV_CONS_cons i)
  if v < m && ringDiff m v old ≤ ringDiff m (d.rd (Reg.INST_HRV_PROD_prod i)) old then
    (d.wr (Reg.INST_HRV_CONS_cons i) v).showEntries i
  else d.wr (Reg.INST_HRV_STATUS_bad_cons i) 1

/-- write_fault cleared by the owner of instance `i` (R94): the held records are written in order. -/
def Device.clearWriteFault (d : Device) (i : Nat) : Device := (d.wr (Reg.INST_HRV_STATUS_write_fault i) 0).flush i

/-- `INST_Q_CFG_WRITE` (R96). -/
def execInstQCfgWrite (i n : Nat) (value : Word) (s : State) : Host.Outcome State Fault Refusal :=
  onDev s (fun d => d.writeQCfg i n value)

/-- `INST_HRV_CFG_WRITE` (R96). -/
def execInstHrvCfgWrite (i : Nat) (value : Word) (s : State) : Host.Outcome State Fault Refusal :=
  onDev s (fun d => d.writeHrvCfg i value)

/-- `HRV_CONS_WRITE` (R96). -/
def execHrvConsWrite (i : Nat) (value : Word) (s : State) : Host.Outcome State Fault Refusal :=
  onDev s (fun d => d.writeHrvCons i value)

/-- `HRV_WRITE_FAULT_CLEAR` (R94). -/
def execHrvWriteFaultClear (i : Nat) (s : State) : Host.Outcome State Fault Refusal :=
  onDev s (fun d => d.clearWriteFault i)

/-- `HRV_IRQ_AGE` (R96): the oldest unsignalled record of instance `i` is `beats` whole beats old. -/
def execHrvIrqAge (i : Nat) (s : State) : Host.Outcome State Fault Refusal :=
  onDev s (fun d =>
    let (n, old) := tget (fun _ => (0, 0)) d.q.unsig i
    let b := d.rd (Reg.INST_HRV_IRQ_beats i)
    d.when (d.on (Reg.INST_HRV_IRQ_enable i) && b != 0 && n != 0 && decide (b * 65536 ≤ d.beatTime - old))
      (fun d => d.signalHarvest i))

/-- `FENCE` (R85): the FENCE at the head of queue `n` of instance `i` completes when no earlier item of its queue is
left. -/
def execFence (i n : Nat) (s : State) : Host.Outcome State Fault Refusal :=
  onDev s (fun d =>
    match d.queueHead i n with
    | some x =>
      d.when (x.cls == 5 && !(d.queueItems i n).any (fun y => decide (y.uid < x.uid)))
        (fun d => (d.complete x.uid stDone 0).showEntries i)
    | none => d)

end Sys2Proof.Machine
end

