-- ==== Sys2Proof/Machine/Touch.lean ====
section
/-!
DEFINITION. Touch front ends and relaxation channels (R205 to R222): baselines, contacts, reports, stores, and the records of
buttons and knobs. What a panel measures comes with the commands.
-/

namespace Sys2Proof.Machine

open Sys2Proof

/-! ### Access -/

/-- Front end `n` beyond its registers. -/
def Device.front (d : Device) (n : Nat) : Front := tget (fun _ => Front.reset) d.glass.fronts n

/-- Front end `n` changed by `f`. -/
def Device.modFront (d : Device) (n : Nat) (f : Front → Front) : Device :=
  { d with glass := { d.glass with fronts := tset (fun _ => Front.reset) d.glass.fronts n (f (d.front n)) } }

/-- Relaxation channel `n` beyond its registers. -/
def Device.relaxCh (d : Device) (n : Nat) : Relax := tget (fun _ => Relax.reset) d.glass.relax n

/-- Relaxation channel `n` changed by `f`. -/
def Device.modRelax (d : Device) (n : Nat) (f : Relax → Relax) : Device :=
  { d with glass := { d.glass with relax := tset (fun _ => Relax.reset) d.glass.relax n (f (d.relaxCh n)) } }

/-- The nine configuration words of front end `n`. -/
def Device.frontRegs (d : Device) (n : Nat) : List Word := (List.range 9).map (fun i => d.reg (Reg.TCH_CFG n + 4 * i))

/-- Configuration word `i` of a front end in effect. -/
def Front.w (x : Front) (i : Nat) : Nat := (x.cfg.getD i 0#32).toNat

/-- Whether a front end is the lower one of a ganged pair (R217). -/
def Front.ganged (x : Front) (n : Nat) : Bool := n % 2 == 0 && bitOn (x.w 0) 30

/-- The sense lines of a panel. -/
def Front.cols (x : Front) (n : Nat) : Nat := if x.ganged n then 128 else 64

/-- The samples of a drive step (R205, R235): TCH_n_SCAN.step from 8 to 96, rounded down to a multiple of 4. -/
def scanStep (v : Nat) : Nat := min 96 (max 8 v) / 4 * 4

/-- The samples of a drive step of a front end. -/
def Front.step (x : Front) : Nat := scanStep (bits (x.w 1) 6 0)

/-- A contact that ended when the panel absorbed it (R216). -/
def Contact.absorbed (c : Contact) : Bool := c.due.contains 4

/-- Whether a contact is present, for TCH_n_STATUS. -/
def Device.showContacts (d : Device) (n : Nat) : Device :=
  let cs := (d.front n).contacts.filter (fun c => !c.absorbed)
  (d.wr (Reg.TCH_STATUS_contacts n) cs.length).wr (Reg.TCH_STATUS_stuck n) (b2n (cs.any (·.stuck)))

/-! ### Reports -/

/-- One record of beat time `t` written into a report area in the DMEM of sequencer `q` (R218, R219). -/
def Device.putReport (d : Device) (n q area k t : Nat) (rec : Word × Word) : Device :=
  let ws := [w32 t, w32 (t / 2 ^ 32), rec.1, rec.2]
  let x := (d.seq q).setDwords (area / 4) ws
  let p := (x.dword (area / 4 + 4)).toNat
  let cons := wbits (x.dword (area / 4 + 5)) 15 0
  let prod := bits p 15 0
  if (prod + 65536 - cons) % 65536 = 2 ^ k then
    (d.setSeq q (x.setDword (area / 4 + 4) (w32 (prod + satAt 0xFFFF (p / 65536 + 1) * 65536)))).wr
      (Reg.TCH_STATUS_report_lost n) 1
  else
    d.setSeq q ((x.setDwords ((area + 0x20 + prod % 2 ^ k * 16) / 4) ws).setDword (area / 4 + 4)
      (w32 ((prod + 1) % 65536 + p / 65536 * 65536)))

/-- The records of a frame written, with beat time `t`, to the report area of front end `n` under its report word (R218 to R220). -/
def Device.reportAt (d : Device) (n : Nat) (rpt : Word) (sec : Bool) (t : Nat) (recs : List (Word × Word)) : Device :=
  let q := wbits rpt 30 28
  let k := let v := wbits rpt 27 24; if 2 ≤ v && v ≤ 6 then v else 4
  let area := wbits rpt 15 4 * 16
  if !bitOn rpt.toNat 31 || 4 < q then d
  else if sec && q != 4 then d.wr (Reg.TCH_STATUS_cfg_err n) 1
  else if recs.isEmpty || dmemSize q < area + 0x20 + 2 ^ k * 16 then d
  else (recs.foldl (fun d r => d.putReport n q area k t r) d).event q 14

/-- The records of a frame reported: in D-RUN at once; in another state they are held for the exit, and a DOWN is a wake source
(R375, R378, R380). -/
def Device.report (d : Device) (n : Nat) (rpt : Word) (sec : Bool) (recs : List (Word × Word)) : Device :=
  if d.rd Reg.PWR_STATE_state = 0 then d.reportAt n rpt sec d.beatTime recs
  else
    let d := { d with glass := { d.glass with
      held := d.glass.held ++ [({ front := n, rpt := rpt, sec := sec, time := d.beatTime, recs := recs } : HeldReport)] } }
    if recs.any (fun r => wbits r.2 7 4 == 0) then d.wakeSource 16 else d

/-- Words 2 and 3 of a contact record. -/
def contactRec (n state : Nat) (c : Contact) : Word × Word :=
  (w32 (c.px + c.py * 65536),
    w32 (c.id + state * 16 + n * 256 + min 63 c.region.length * 1024 + satAt 0xFFFF c.peak.toNat * 65536))

/-- A FIFO entry for UDC-4 software from a contact record (R442, R438). -/
def Device.udcTouch (d : Device) (p state : Nat) (c : Contact) : Device :=
  if d.mode == .native || 1 < p || 4 < c.id || 2 < state || !d.on (Reg.UDC_TCH_CTL_enable p) then d
  else
    let q := tget (fun _ => []) d.udc.fifos p
    if 16 ≤ q.length then d.wr (Reg.UDC_TCH_STAT_ovf p) 1
    else
      let x := if bitOn (d.reg (Reg.UDC_TCH_CTL p)).toNat 30 then min 0xFFF (c.peak.toNat / 16) else c.px % 4096
      let w := w32 (2 ^ 31 + c.id * 2 ^ 28 + state * 2 ^ 26 + c.py % 4096 * 2 ^ 12 + x)
      let d := { d with udc := { d.udc with fifos := tset (fun _ => []) d.udc.fifos p (q ++ [w]) } }
      (d.wr (Reg.UDC_TCH_STAT_count p) (q.length + 1)).udcEvent (9 + p)

/-! ### Drive steps -/

/-- The sign with which line 4s + j carries the carrier in chip c of step s (R205): element (j, c) of the Walsh–Hadamard matrix with the
rows + + + +, + − + −, + + − − and + − − +. -/
def walsh (j c : Nat) : Int := if (j % 2 * (c % 2) + j / 2 % 2 * (c / 2 % 2)) % 2 = 0 then 1 else -1

/-- The count of a sense line in chip `c` of step `s` of a frame. -/
def chipCount (m : TouchFrame) (s c sense : Nat) : Int := tget (fun _ => (0 : Int)) m.chips (128 * (4 * s + c) + sense)

/-- The raw count of drive line 4s + j at a sense line: the part of its four chips that carries the line's signs (R205; log entry 113). -/
def nodeRaw (m : TouchFrame) (s j sense : Nat) : Int :=
  ((List.range 4).map (fun c => walsh j c * chipCount m s c sense)).sum / 4

/-- The raw counts of a frame on a panel of `cols` sense lines, by node: lines 4s to 4s + 3 of each step and sense line that the frame
lists. -/
def rawCounts (m : TouchFrame) (cols : Nat) : List (Nat × Int) :=
  (m.chips.map (fun e => (e.1 / 512, e.1 % 128))).eraseDups.flatMap (fun p =>
    if p.1 < 10 && p.2 < cols then (List.range 4).map (fun j => ((4 * p.1 + j) * cols + p.2, nodeRaw m p.1 j p.2)) else [])

/-- A node value, a 16-bit signed count (R209): what one outside that range reads as is open. -/
def count16 (k : Nat) (v : Int) : Int := if -32768 ≤ v && v ≤ 32767 then v else sextNat 16 (Config.freeNat k)

/-- Whether the frame of a front end ends at clock `t`: ten steps after it began (R205), and its records follow within 30 µs (R218). -/
def Front.endsAt (x : Front) (t lag : Nat) : Bool :=
  decide (x.began ≤ t) && decide (lag ≤ 24000) && fitsSamples (t - x.began) (10 * x.step) 0

/-! ### Finding contacts -/

/-- `x` inserted into a list that is ordered by `lt`. -/
def insertBy {α : Type} (lt : α → α → Bool) (x : α) : List α → List α
  | [] => [x]
  | y :: ys => if lt x y then x :: y :: ys else y :: insertBy lt x ys

/-- A list in the order of `lt`; equal elements keep their order. -/
def sortBy {α : Type} (lt : α → α → Bool) (l : List α) : List α := l.reverse.foldl (fun acc x => insertBy lt x acc) []

/-- `f` applied `n` times. -/
def iterate {α : Type} (f : α → α) : Nat → α → α
  | 0, x => x
  | n + 1, x => iterate f n (f x)

/-- The distance of two naturals. -/
def absDiff (a b : Nat) : Nat := if a ≤ b then b - a else a - b

/-- Whether two nodes are the same or neighbours. -/
def adjacent (cols a b : Nat) : Bool := decide (absDiff (a / cols) (b / cols) ≤ 1) && decide (absDiff (a % cols) (b % cols) ≤ 1)

/-- The square of the distance of two positions. -/
def dist2 (a b : Nat × Nat) : Nat := absDiff a.1 b.1 ^ 2 + absDiff a.2 b.2 ^ 2

/-- The nodes of the 3 × 3 square around a node that lie on the panel. -/
def square (cols i : Nat) : List Nat := (List.range (40 * cols)).filter (adjacent cols i)

/-- The contacts that the deltas of a frame show (R215, steps 1 to 5), strongest first: at most ten. -/
def findContacts (cols touch release : Nat) (swap : Bool) (mapX mapY : Nat) (delta : List (Nat × Int)) : List Contact :=
  let at' := fun i => tget (fun _ => (0 : Int)) delta i
  let cand := if touch = 0 || release = 0 then List.range (40 * cols) else tkeys delta
  let peaks := cand.filter (fun i => decide ((touch : Int) ≤ at' i)
    && cand.all (fun j => !adjacent cols i j || decide (at' j ≤ at' i)) && decide ((0 : Int) ≤ at' i))
  let best := (sortBy (fun a b => decide (at' b < at' a)) peaks).foldl (fun kept i =>
    if kept.any (fun k => decide (dist2 (i / cols, i % cols) (k / cols, k % cols) ≤ 4)) then kept else kept ++ [i]) []
  (best.take 10).map (fun i =>
    let high := cand.filter (fun j => decide ((release : Int) ≤ at' j))
    let region := if high.contains i then
        iterate (fun r => r ++ high.filter (fun j => !r.contains j && r.any (adjacent cols j))) high.length [i] else []
    let sq := (square cols i).map (fun j => (j, (max 0 (at' j)).toNat))
    let sum := (sq.map (·.2)).sum
    let mean := fun (f : Nat → Nat) => if sum = 0 then f i * 256 else (sq.map (fun p => f p.1 * 256 * p.2)).sum / sum
    let drv := mean (· / cols)
    let sns := mean (· % cols)
    let pix := fun (pos m : Nat) => ((pos * bits m 31 16) / 65536 + bits m 15 0) % 65536
    { id := 0, drv := drv, sns := sns, region := region, peak := at' i, px := pix (if swap then sns else drv) mapX,
      py := pix (if swap then drv else sns) mapY, start := 0, anchor := (drv, sns), stuck := false, due := [] })

/-- The pairs of old and new contacts within four nodes of each other, matched nearest first (R215, step 6): old with new. -/
def matchContacts (old new : List Contact) : List (Nat × Nat) :=
  let pairs := (old.zipIdx.flatMap (fun (a, i) => new.zipIdx.map (fun (b, j) => (dist2 (a.drv, a.sns) (b.drv, b.sns), i, j)))).filter
    (fun p => decide (p.1 ≤ 1024 ^ 2))
  (sortBy (fun a b => decide (a.1 < b.1)) pairs).foldl (fun got p =>
    if got.any (fun g => g.1 == p.2.1 || g.2 == p.2.2) then got else got ++ [p.2]) []

/-- A contact that continues (R215, R216): its hold timer restarts when it has moved more than one node. -/
def Contact.continue' (a b : Contact) (clock : Nat) : Contact :=
  if 256 ^ 2 < dist2 a.anchor (b.drv, b.sns) then { b with id := a.id, start := clock, anchor := (b.drv, b.sns), due := a.due }
  else { b with id := a.id, start := a.start, anchor := a.anchor, stuck := a.stuck, due := a.due }

/-- The contacts of a frame from those of the last and those found, and the records that they write (R215, R216, R219): the
state code with the contact. -/
def trackContacts (old new : List Contact) (clock : Nat) : List Contact × List (Nat × Contact) :=
  let live := old.filter (fun c => !c.absorbed)
  let got := matchContacts live new
  let cont := got.filterMap (fun p => match live[p.1]?, new[p.2]? with
    | some a, some b => some (a, a.continue' b clock)
    | _, _ => none)
  let ended := live.zipIdx.filterMap (fun (a, i) => if got.any (fun p => p.1 == i) then none else some a)
  let fresh := (new.zipIdx.filterMap (fun (b, j) => if got.any (fun p => p.2 == j) then none else some b)).foldl
    (fun (acc : List Contact) b =>
      let busy := fun i => acc.any (·.id == i) || cont.any (fun c => c.2.id == i)
      let id := match (List.range 16).find? (fun i => !busy i && !old.any (·.id == i)) with
        | some i => i
        | none => ((List.range 16).find? (fun i => !busy i)).getD 15
      acc ++ [{ b with id := id, start := clock }]) []
  let recs := (old.filter (·.absorbed)).flatMap (fun c => c.due.map (·, c))
    ++ ended.flatMap (fun c => (c.due ++ [2]).map (·, c))
    ++ cont.flatMap (fun (a, b) => (a.due ++ (if a.px = b.px && a.py = b.py then [] else [1])).map (·, b))
    ++ fresh.map (fun c => (0, c))
  (cont.map (fun c => { c.2 with due := [] }) ++ fresh, sortBy (fun a b => decide (a.2.id < b.2.id)) recs)

/-! ### Baseline images -/

/-- The record job of a baseline image of front end `n` (R214, R339). -/
def Device.touchJob (d : Device) (n : Nat) : RecordJob :=
  let x := d.front n
  let cols := x.cols n
  let payload :=
    (List.range 4).flatMap (fun f => (List.range (40 * cols)).flatMap (fun i =>
      leBytes 2 (wrapInt 16 (tget (fun _ => 0) x.base (8192 * f + i)))))
    ++ (List.range 4).flatMap (fun f => (List.range (10 * cols)).map (fun i =>
      b8 (tget (fun _ => 0) x.comp (2048 * f + 128 * (i / cols) + i % cols))))
  { src := .touch n, kind := 0x10, unit := n, base := 0x80000 + n * 0x30000, size := 0xC000, slots := 4,
    extra := b2n (x.ganged n) + x.w 2 * 2 ^ 8 + x.step * 2 ^ 40, payload := payload }

/-- The newest valid image of front end `n` for its configuration (R210). -/
def Device.touchImage (d : Device) (n : Nat) : Option (List Byte) :=
  let j := d.touchJob n
  ((List.range 4).foldl (fun (best : Option (Nat × List Byte)) k =>
    let o := j.base + k * j.size
    match d.recordAt 0x10 o j.size with
    | none => best
    | some (m, p) =>
      if leAt (d.recordHead o) 1 1 != n || leAt (d.recordHead o) 0x14 8 != j.extra then best
      else match best with
        | none => some (m, p)
        | some (m', _) => if m' < m then some (m, p) else best) none).map (·.2)

/-- The baselines and codes that an image holds. -/
def Front.load (x : Front) (n : Nat) (p : List Byte) : Front :=
  let cols := x.cols n
  let base := (List.range (4 * 40 * cols)).filterMap (fun i =>
    let v := sextNat 16 (leAt p (2 * i) 2)
    if v = 0 then none else some (8192 * (i / (40 * cols)) + i % (40 * cols), v))
  let o := 4 * 40 * cols * 2
  let comp := (List.range (4 * 10 * cols)).filterMap (fun i =>
    let v := leAt p (o + i) 1
    let r := i % (10 * cols)
    if v = 0 then none else some (2048 * (i / (10 * cols)) + 128 * (r / cols) + r % cols, v))
  { x with base := base, comp := comp }

/-! ### Enabling -/

/-- Whether the lower front end of a ganged pair governs front end `n` (R217): the lower one runs with gang in effect. -/
def Device.gangedUpper (d : Device) (n : Nat) : Bool :=
  n % 2 == 1 && (d.front (n - 1)).phase != 0 && (d.front (n - 1)).ganged (n - 1)

/-- Front end `n` stops; what it remembers is when it last stored an image. -/
def Device.touchStop (d : Device) (n : Nat) : Device :=
  ((d.modFront n (fun x => { Front.reset with lastStore := x.lastStore })).wr (Reg.TCH_STATUS_ready n) 0).showContacts n

/-- A front end that is enabled starts once TOUCH is ON (R210, R371): it takes its configuration and loads its image. -/
def Device.touchStart (d : Device) (n : Nat) : Device :=
  if d.on (Reg.TCH_CFG_enable n) && !d.gangedUpper n && d.rd (Reg.PWR_DOM_state 9) == 2 && (d.front n).phase == 0 then
    let d := d.modFront n (fun x => { Front.reset with
      phase := 1, cfg := d.frontRegs n, snap := d.frontRegs n, lastStore := x.lastStore })
    ((d.wr (Reg.TCH_STATUS_no_image n) (b2n (d.touchImage n).isNone)).wr (Reg.TCH_STATUS_freq n) 0).wr
      (Reg.TCH_STATUS_ready n) 0
  else d

/-- The upper front end of lower front end `n` follows the pair (R217): it stops where the pair is ganged, and runs by its own
configuration where it is not. -/
def Device.gangUpper (d : Device) (n : Nat) : Device :=
  if n % 2 = 1 then d else if d.gangedUpper (n + 1) then d.touchStop (n + 1) else d.touchStart (n + 1)

/-- Front end `n` starts when it is enabled, and its pair follows. -/
def Device.touchEnable (d : Device) (n : Nat) : Device :=
  let x := d.touchStart n
  if (d.front n).phase = (x.front n).phase then x else x.gangUpper n

/-- `TCH_ENABLE` (R210). -/
def execTchEnable (n : Nat) (s : State) : Host.Outcome State Fault Refusal :=
  onDev s (fun d => d.when (n < 4) (fun d => d.touchEnable n))

/-- The baselines that a calibration found. -/
def calBases (c : TouchCal) : List (Nat × Int) :=
  c.base.foldl (fun (t : List (Nat × Int)) (p : Nat × Int) => tset (fun _ => 0) t p.1 p.2) []

/-- The 6-bit compensation codes that a calibration set (R208). -/
def calCodes (c : TouchCal) : List (Nat × Nat) :=
  c.comp.foldl (fun (t : List (Nat × Nat)) (p : Nat × Nat) => tset (fun _ => 0) t p.1 (p.2 % 64)) []

/-- Whether a code of a panel of `cols` sense lines lies at an end of its range (R208): one of its four frequencies, ten steps and sense
lines has code 0 or 63. -/
def calSat (c : TouchCal) (cols : Nat) : Bool :=
  let inner := (calCodes c).countP (fun e => decide (e.1 < 8192) && decide (e.1 % 2048 / 128 < 10) && decide (e.1 % 128 < cols) && e.2 != 63)
  inner != 40 * cols

/-- `TOUCH_READY` (R208, R210): the image is loaded, or the calibration that `cal` describes has ended. -/
def execTouchReady (n : Nat) (cal : TouchCal) (s : State) : Host.Outcome State Fault Refusal :=
  onDev s (fun d =>
    d.when (decide (n < 4) && (d.front n).phase == 1) (fun d =>
      let d := match d.touchImage n with
        | some p => d.modFront n (fun x => x.load n p)
        | none =>
          (d.wr (Reg.TCH_STATUS_comp_sat n) (max (d.rd (Reg.TCH_STATUS_comp_sat n)) (b2n (calSat cal ((d.front n).cols n))))).modFront n
            (fun x => { x with base := calBases cal, comp := calCodes cal })
      (d.modFront n (fun x => { x with phase := 2, began := d.beat.clock })).wr (Reg.TCH_STATUS_ready n) 1))

/-! ### The end of a frame -/

/-- Whether the front end hops to another carrier (R207): the quietest standby carrier. -/
def hopTo (x : Front) (freq : Nat) (delta : List (Nat × Int)) (covered : List Nat) (cols : Nat) (noise : List Nat) : Option Nat :=
  let keys := ((tkeys delta) ++ (tkeys x.last)).eraseDups.filter (fun i => !covered.contains i)
  let sum := (keys.map (fun i => (tget (fun _ => (0 : Int)) delta i - tget (fun _ => 0) x.last i).natAbs)).sum
  let n := 40 * cols - covered.length
  let quiet := ((List.range 4).filter (· != freq)).foldl (fun (b : Option (Nat × Nat)) f =>
    let v := noise.getD f 0
    match b with | some (_, w) => if v < w then some (f, v) else b | none => some (f, v)) none
  match quiet with
  | some (f, v) => if bitOn (x.w 1) 8 && decide (2 * v * n < sum) && decide (bits (x.w 3) 15 0 * n < 8 * sum) then some f else none
  | none => none

/-- Baselines after a frame (R212, R213): repaired where `repair` says so, then moved towards raw by at most the drift step. -/
def driftBase (x : Front) (freq : Nat) (repair delta : List (Nat × Int)) (frozen : Nat → Bool) : List (Nat × Int) :=
  let iv := bits (x.w 4) 23 8
  let st : Int := bits (x.w 4) 7 0
  let b := repair.foldl (fun t p => tset (fun _ => 0) t (8192 * freq + p.1) (tget (fun _ => 0) t (8192 * freq + p.1) - p.2)) x.base
  if iv = 0 || (x.frames + 1) % iv != 0 then b
  else
    delta.foldl (fun t p =>
      if frozen p.1 then t
      else tset (fun _ => 0) t (8192 * freq + p.1) (tget (fun _ => 0) t (8192 * freq + p.1) - clampInt (-st) st p.2)) b

/-- What the end of a frame does (R207, R212 to R219), then what the next frame starts with (R206). -/
def Device.touchFrame (d : Device) (n : Nat) (m : TouchFrame) : Device :=
  let x := d.front n
  let freq := d.rd (Reg.TCH_STATUS_freq n)
  let cols := x.cols n
  let touch := bits (x.w 3) 15 0
  let release := bits (x.w 3) 31 16
  let all := (rawCounts m cols).foldl (fun t p =>
    tset (fun _ => (0 : Int)) t p.1 (count16 (d.draws + p.1) (tget (fun _ => 0) x.base (8192 * freq + p.1) - p.2))) []
  let d := { d with draws := d.draws + 40 * cols }
  let repair := all.filter (fun p => decide (p.2 < -(release : Int)))
  let delta := all.filter (fun p => !decide (p.2 < -(release : Int)))
  let new := findContacts cols touch release (bitOn (x.w 0) 27) (x.w 5) (x.w 6) delta
  let (cs, recs) := trackContacts x.contacts new d.beat.clock
  let covered := (cs.flatMap (·.region)).eraseDups
  let base := driftBase x freq repair delta (fun i => covered.any (adjacent cols i))
  let d := match hopTo x freq delta covered cols m.noise with
    | some f => d.wr (Reg.TCH_STATUS_freq n) f
    | none => d
  let knobs := (List.range 8).filter (fun r =>
    d.rd (Reg.RO_CFG_ring r) == n && d.rd (Reg.RO_CFG_mode r) == 2 && r % 2 == 0 && decide ((d.relaxCh r).detents ≠ (0 : Int)))
  let knobRecs := knobs.map (fun r => ((w32 (wrapInt 16 (d.relaxCh r).detents), w32 (r + 7 * 16 + n * 256)) : Word × Word))
  let d := knobs.foldl (fun d r => d.modRelax r (fun y => { y with detents := 0 })) d
  let d := d.report n (x.cfg.getD 7 0#32) (bitOn (x.w 0) 29) (recs.map (fun r => contactRec n r.1 r.2) ++ x.recs ++ knobRecs)
  let d := recs.foldl (fun d r => d.udcTouch n r.1 r.2) d
  let d := (d.modFront n (fun x => { x with base := base, last := delta, contacts := cs, frames := x.frames + 1, recs := [] }))
  let d := if x.storeDue && cs.isEmpty then
      (d.recordRequest (d.touchJob n)).modFront n (fun x => { x with storeDue := false, lastStore := some d.beat.clock })
    else d
  let d := (d.modFront n (fun x => { x with cfg := x.snap })).showContacts n
  (if bitOn ((d.front n).w 0) 31 then d else d.touchStop n).gangUpper n

/-- The clock at which the frame of a front end ended whose records are written at tick `tick` of the beat. -/
def Device.frameEnd (d : Device) (m : TouchFrame) (tick : Nat) : Nat := d.beat.clock - d.beat.stick + tick - m.lag

/-- `TOUCH_FRAME_END` (R205, R215, R218): a frame of front end `n` ends after its ten drive steps, its records are written at tick `tick`
of the beat, and the next frame has begun without a gap. -/
def execTouchFrameEnd (n : Nat) (m : TouchFrame) (tick : Nat) (s : State) : Host.Outcome State Fault Refusal :=
  onDev s (fun d =>
    d.when (decide (n < 4) && (d.front n).phase == 2 && (d.front n).endsAt (d.frameEnd m tick) m.lag) (fun d =>
      let d := d.modFront n (fun x => { x with began := d.frameEnd m tick })
      (d.atTick tick).touchFrame n m))

/-- `CONTACT_HOLD_EXPIRE` (R216): the hold timer of contact `id` reaches TCH_HOLD_LIMIT. -/
def execContactHoldExpire (n id : Nat) (s : State) : Host.Outcome State Fault Refusal :=
  onDev s (fun d =>
    match (d.front n).contacts.find? (fun c => c.id == id && !c.stuck && c.due.isEmpty) with
    | none => d
    | some c =>
      let d := d.atClock (c.start + max 60 (d.rd Reg.TCH_HOLD_LIMIT_seconds) * 800000000)
      let x := d.front n
      let freq := d.rd (Reg.TCH_STATUS_freq n)
      let absorb := bitOn (x.w 0) 28
      let cs := x.contacts.map (fun y => if y.id = id then { y with stuck := true, due := if absorb then [3, 4] else [3] } else y)
      let base := if absorb then
          c.region.foldl (fun t i =>
            tset (fun _ => 0) t (8192 * freq + i) (tget (fun _ => 0) t (8192 * freq + i) - tget (fun _ => 0) x.last i)) x.base
        else x.base
      (d.modFront n (fun x => { x with contacts := cs, base := base })).showContacts n)

/-- `BASELINE_STORE_TIMER` (R214): the automatic store interval has passed. -/
def execBaselineStoreTimer (n : Nat) (s : State) : Host.Outcome State Fault Refusal :=
  onDev s (fun d =>
    d.when (decide (n < 4) && (d.front n).phase == 2 && bits ((d.front n).w 8) 7 0 != 0)
      (fun d => d.modFront n (fun x => { x with storeDue := true })))

/-- A write of 1 to TCH_n_STORE.now (R214). -/
def Device.touchStoreNow (d : Device) (n : Nat) : Device :=
  match (d.front n).lastStore with
  | some t =>
    if d.beat.clock < t + 48000000000 then d.wr (Reg.TCH_STATUS_store_refused n) 1
    else d.modFront n (fun x => { x with storeDue := true })
  | none => d.modFront n (fun x => { x with storeDue := true })

/-- `TCH_STORE_NOW` (R214). -/
def execTchStoreNow (n : Nat) (s : State) : Host.Outcome State Fault Refusal :=
  onDev s (fun d => d.when (n < 4) (fun d => d.touchStoreNow n))

end Sys2Proof.Machine
end

