-- ==== Sys2Proof/Machine/Haptic.lean ====
section
/-!
DEFINITION. Haptic bridges (R223 to R231, R234), their calibration and history, trigger pins (R232, R233) and the effects of
relaxation channels (R222).
-/

namespace Sys2Proof.Machine

open Sys2Proof

/-- Bridge `n` beyond its registers. -/
def Device.hap (d : Device) (n : Nat) : Hap := tget (fun _ => Hap.reset) d.glass.haps n

/-- Bridge `n` changed by `f`. -/
def Device.modHap (d : Device) (n : Nat) (f : Hap → Hap) : Device :=
  { d with glass := { d.glass with haps := tset (fun _ => Hap.reset) d.glass.haps n (f (d.hap n)) } }

/-- Trigger pin `t` beyond its registers. -/
def Device.trig (d : Device) (t : Nat) : Trig := tget (fun _ => Trig.reset) d.glass.trigs t

/-- Trigger pin `t` changed by `f`. -/
def Device.modTrig (d : Device) (t : Nat) (f : Trig → Trig) : Device :=
  { d with glass := { d.glass with trigs := tset (fun _ => Trig.reset) d.glass.trigs t (f (d.trig t)) } }

/-! ### Effects -/

/-- `n` bytes of the effect RAM from offset `o`. -/
def Device.fxBytes (d : Device) (o n : Nat) : List Byte :=
  (List.range n).map (fun i => b8 (wordByte (d.reg (Reg.HAP_EFFECT_RAM ((o + i) % 0x10000 / 4))) ((o + i) % 4)))

/-- Whether a segment keeps its layout (R228). -/
def segmentOk (b : List Byte) (o : Nat) : Bool :=
  decide (leAt b o 2 ≤ 3) && leAt b (o + 2) 2 != 0 && decide (leAt b (o + 4) 2 ≤ 0x8000) && decide (leAt b (o + 6) 2 ≤ 0x8000)
    && (leAt b o 2 != 3 || (leAt b (o + 12) 4 % 2 == 0 && decide (leAt b (o + 12) 4 < 0x10000)))

/-- The offset of stored effect `i` in the effect RAM, as its directory entry gives it; 0 for none. -/
def Device.fxAt (d : Device) (i : Nat) : Nat := leNat (d.fxBytes (2 * i) 2) * 16

/-- The header and the segments that stand at the place of stored effect `i`. -/
def Device.fxCopy (d : Device) (i : Nat) : List Byte :=
  d.fxBytes (d.fxAt i) (16 + 16 * (leAt (d.fxBytes (d.fxAt i) 16) 0 1 % 16))

/-- Whether a valid effect is stored at index `i` (R228). -/
def Device.effectOk (d : Device) (i : Nat) : Bool :=
  let b := d.fxCopy i
  let n := leAt b 0 1 % 16
  decide (i ≤ 511) && d.fxAt i != 0 && decide (leAt b 0 2 < 32) && n != 0 && decide (leAt b 2 2 ≤ 4800) && zeroAt b 4 12
    && decide (d.fxAt i + 16 + 16 * n ≤ 0x10000) && (List.range n).all (fun k => segmentOk b (16 + 16 * k))

/-- The segments of an effect. -/
def HapFx.count (x : HapFx) : Nat := leAt x.bytes 0 1 % 16

/-- The length of an effect's segments in samples. -/
def HapFx.length (x : HapFx) : Nat := ((List.range x.count).map (fun k => leAt x.bytes (16 + 16 * k + 2) 2)).sum

/-- Whether an effect brakes after its segments. -/
def HapFx.brakes (x : HapFx) : Bool := bitOn (leAt x.bytes 0 1) 4

/-- The segment that holds sample `i`, from segment `k` on: its offset and the sample within it. -/
def segmentAt (b : List Byte) (i : Nat) : Nat → Nat → Option (Nat × Nat)
  | 0, _ => none
  | n + 1, k =>
    let t := leAt b (16 + 16 * k + 2) 2
    if i < t then some (16 + 16 * k, i) else segmentAt b (i - t) n (k + 1)

/-- The turn in units of an effect's phase. -/
def turnUnits : Nat := 1966080000

/-- sin of a phase, in fixed point. -/
def sinePhase (p m : Nat) : Int :=
  let x : Int := if 2 * p ≤ m then (p : Int) else (p : Int) - m
  trigFix false (x * (2 ^ fixBits : Nat) / m)

/-- The sample of an effect in Q1.23, and its phase after it (R228, R229). `f0` is in 0.1 Hz. -/
def Device.fxSample (d : Device) (x : HapFx) (f0 : Nat) : Int × Nat :=
  match segmentAt x.bytes x.pos x.count 0 with
  | none => (0, x.phase)
  | some (o, i) =>
    let kind := leAt x.bytes o 2
    let dur := leAt x.bytes (o + 2) 2
    let a0 : Int := leAt x.bytes (o + 4) 2
    let a1 : Int := leAt x.bytes (o + 6) 2
    let amp := a0 + (a1 - a0) * i / dur
    let inc := if kind = 1 then leAt x.bytes (o + 8) 4 * 2560 else if kind = 2 then leAt x.bytes (o + 8) 4 * f0 else 0
    let wave : Int :=
      if kind = 1 || kind = 2 then sinePhase x.phase turnUnits / (2 ^ (fixBits - 23) : Nat)
      else if kind = 3 then sextNat 16 (leNat (d.fxBytes (leAt x.bytes (o + 12) 4 + 2 * i) 2)) * 256
      else 0
    (amp * wave * x.scale / (2 ^ 30 : Nat), (x.phase + inc) % turnUnits)

/-! ### Starting and ending -/

/-- HAP_n_STATUS follows the effects of a bridge. -/
def Device.showHap (d : Device) (n : Nat) : Device :=
  let x := d.hap n
  let braking := match x.fx with | some f => f.brakes && decide (f.length ≤ f.pos) | none => false
  ((d.wr (Reg.HAP_STATUS_running n) (b2n x.fx.isSome)).wr (Reg.HAP_STATUS_queued n) (b2n x.queued.isSome)).wr
    (Reg.HAP_STATUS_braking n) (b2n braking)

/-- The report of an effect (R230): to its post, or in HAP_n_STATUS.last. -/
def Device.hapReport (d : Device) (n : Nat) (f : HapFx) (code : Nat) : Device :=
  match f.src with
  | .post sq slot => d.endPost sq slot code
  | _ => d.wr (Reg.HAP_STATUS_last n) code

/-- A requested effect that has not started, from its source, its index and its scale. -/
def newFx (src : HapSrc) (index scale : Nat) : HapFx :=
  { src := src, scale := scale, index := index, bytes := [], pos := 0, phase := 0, brake := 0 }

/-- An effect starts on bridge `n`, which copies its header and segments as they stand now (R228; log entry 111). -/
def Device.hapStart (d : Device) (n : Nat) (f : HapFx) : Device :=
  (d.modHap n (fun x => { x with
    fx := some { f with bytes := d.fxCopy f.index }, starts := d.beat.clock :: x.starts.filter (fun t => decide (d.beat.clock < t + 800000000)) })).showHap n

/-- The running effect of bridge `n` ends with a report code; the queued effect starts (R231), unless the channel rests. -/
def Device.hapEnd (d : Device) (n code : Nat) : Device :=
  let x := d.hap n
  match x.fx with
  | none => d
  | some f =>
    let d := ((d.modHap n (fun x => { x with fx := none })).hapReport n f code).wr (Reg.HAP_STATUS_last n) code
    match x.queued with
    | some g =>
      if x.rest.isSome || x.splice.isSome then d.showHap n else (d.modHap n (fun x => { x with queued := none })).hapStart n g
    | none => d.showHap n

/-- Whether bridge `n` has a usable calibration (R226). -/
def Device.calibrated (d : Device) (n : Nat) : Bool :=
  d.on (Reg.HAP_CAL_valid n) && !d.on (Reg.HAP_CAL_active n) && !d.on (Reg.HAP_STATUS_cal_fail n)

/-- Whether a new effect is refused as DROPPED_RATE (R225). -/
def Device.rateRefused (d : Device) (n : Nat) : Bool :=
  let x := d.hap n
  let rate := d.rdAct (Reg.HAP_THERM_rate n)
  decide ((d.rdAct (Reg.HAP_THERM_limit n) * 2 ^ 40 : Nat) ≤ x.dt) || x.rest.isSome || d.rd (Reg.PWR_DOM_state 10) != 2
    || (rate != 0 && decide (rate ≤ (x.starts.filter (fun t => decide (d.beat.clock < t + 800000000))).length))

/-- A request for an effect on a calibrated bridge (R225, R231): policy 0 SPLICE, 1 QUEUE, 2 DROP. The first component tells whether
the bridge takes the effect, to play it now or later. -/
def Device.hapRequest (d : Device) (n : Nat) (f : HapFx) (policy : Nat) : Bool × Device :=
  let x := d.hap n
  let drop := fun (d : Device) (o : Option HapFx) (code : Nat) => match o with | some g => d.hapReport n g code | none => d
  if d.rateRefused n then (false, d.hapReport n f 4)
  else if x.fx.isNone && x.splice.isNone then (true, d.hapStart n f)
  else if policy = 0 then
    (true, (drop (drop (d.modHap n (fun x => { x with splice := some (f, d.beat.clock), queued := none })) x.queued 5)
      (x.splice.map (·.1)) 5).showHap n)
  else if policy = 1 then (true, (drop (d.modHap n (fun x => { x with queued := some f })) x.queued 5).showHap n)
  else (false, d.hapReport n f 5)

/-- What becomes of the request of a trigger pin or a relaxation channel (R222, R226, R232). -/
inductive TrigFate where
  | nothing
  | suppressed
  | asked (taken : Bool) (d : Device)

/-- The request of a trigger pin or a relaxation channel at unity scale: a channel whose last calibration failed after one that
succeeded does nothing; without a usable calibration, a bridge that drives or a valid effect, the edge is suppressed (R226, R232). -/
def Device.hapTrigger (d : Device) (src : HapSrc) (n effect policy : Nat) : TrigFate :=
  if d.on (Reg.HAP_CAL_valid n) && !d.on (Reg.HAP_CAL_active n) && d.on (Reg.HAP_STATUS_cal_fail n) then .nothing
  else if !d.calibrated n || !d.on (Reg.HAP_CFG_enable n) || !d.effectOk effect then .suppressed
  else let (t, d) := d.hapRequest n (newFx src effect 0x8000) policy; .asked t d

/-- What a HAP `POST` answers (R62, R226, R228, R234). -/
def Device.hapPost (d : Device) (q slot w0 w1 w2 : Nat) : Nat × Device :=
  let n := bits w0 2 0
  let policy := bits w0 9 8
  if (w0 &&& 0xFFFFFCF8) != 0 || 65536 ≤ w1 || 65536 ≤ w2 || policy = 3 then (resInvalid, d)
  else if !d.effectOk w1 then (resInvalid, d)
  else if (d.on (Reg.HAP_CFG_sec n) && q != 4) || d.handovers.any (fun x => x.kind == 1 && x.unit == n) || !d.calibrated n
      || !d.on (Reg.HAP_CFG_enable n) then (resDenied, d)
  else (resOk, (d.hapRequest n (newFx (.post q slot) w1 w2) policy).2)

/-- `POST` of class HAP (R228, R230, R231). -/
def execPostHap (sq rd ra : Nat) (s : State) : Host.Outcome State Fault Refusal :=
  onDev s (fun d => d.runPost sq rd ra 0x04 (fun d k _ w0 w1 w2 => d.hapPost sq k w0 w1 w2))

/-- `EFFECT_END` (R229): the segments have played and the brake, if any, has ended. -/
def execEffectEnd (n : Nat) (s : State) : Host.Outcome State Fault Refusal :=
  onDev s (fun d =>
    match (d.hap n).fx with
    | some f => d.when (f.length ≤ f.pos) (fun d => d.hapEnd n 0)
    | none => d)

/-- Half a period of the resonance of bridge `n` in ticks. -/
def Device.halfPeriod (d : Device) (n : Nat) : Nat := 4000000000 / max 1 (d.rd (Reg.HAP_RES_f0 n))

/-- `SPLICE_START` (R231): the spliced effect starts `after` ticks after its request. -/
def execSpliceStart (n after : Nat) (s : State) : Host.Outcome State Fault Refusal :=
  onDev s (fun d =>
    match (d.hap n).splice with
    | none => d
    | some (f, t) =>
      d.when (after ≤ d.halfPeriod n) (fun d =>
        let d := (d.atClock (t + after)).hapEnd n 1
        (d.modHap n (fun x => { x with splice := none })).hapStart n f))

/-! ### Limits -/

/-- The time limit of a bridge in samples. -/
def Device.driveLimit (d : Device) (n : Nat) : Nat := max 1 (d.rdAct (Reg.HAP_LIMIT_max_ms n)) * 48

/-- All drive stops at the time limit and the channel rests (R223). -/
def Device.cutTime (d : Device) (n : Nat) : Device :=
  let x := d.hap n
  let d := d.modHap n (fun x => { x with rest := some d.beat.clock, cont := 0, splice := none, queued := none })
  let d := match x.splice with | some (f, _) => d.hapReport n f 4 | none => d
  let d := match x.queued with | some f => d.hapReport n f 4 | none => d
  ((d.hapEnd n 2).wr (Reg.HAP_STATUS_resting n) 1).showHap n

/-- `CUT_TIME` (R223). -/
def execCutTime (n : Nat) (s : State) : Host.Outcome State Fault Refusal :=
  onDev s (fun d => d.when (d.driveLimit n ≤ (d.hap n).cont) (fun d => d.cutTime n))

/-- The effect stops because the drive clips or VHAP is low (R223). -/
def Device.cutVolt (d : Device) (n : Nat) : Device := (d.modHap n (fun x => { x with clips := 0 })).hapEnd n 3

/-- VHAP is below 3.0 V at bridge `n` (R223): the effect stops, and the record tells of the fall. -/
def Device.vhapLow (d : Device) (n : Nat) : Device :=
  let d := d.cutVolt n
  if d.on (Reg.HAP_STATUS_vhap_low n) then d
  else
    let d := d.wr (Reg.HAP_STATUS_vhap_low n) 1
    { d with glass := { d.glass with vhap := false } }.raise (fault 0x08 3 0xD00000 n)

/-- `CUT_VOLT` (R223): clipping has lasted 2 ms, or, with `low`, VHAP has fallen below 3.0 V. -/
def execCutVolt (n : Nat) (low : Bool) (s : State) : Host.Outcome State Fault Refusal :=
  onDev s (fun d => if low then d.vhapLow n else d.when (96 ≤ (d.hap n).clips) (fun d => d.cutVolt n))

/-- `REST_END` (R223): the rest of max_ms ends. -/
def execRestEnd (n : Nat) (s : State) : Host.Outcome State Fault Refusal :=
  onDev s (fun d =>
    match (d.hap n).rest with
    | none => d
    | some t =>
      ((d.atClock (t + max 1 (d.rdAct (Reg.HAP_LIMIT_max_ms n)) * 800000)).modHap n (fun x => { x with rest := none })).wr
        (Reg.HAP_STATUS_resting n) 0)

/-! ### Drive samples -/

/-- ΔT after one sample (R224). -/
def Device.heat (d : Device) (n ma : Nat) (dt : Int) : Int :=
  let target : Int := ma * ma * d.rd (Reg.HAP_RES_re n) * d.rdAct (Reg.HAP_THERM_rth n) * 2 ^ 40 / 1000000000
  max 0 (dt + (target - dt) / (48000 * max 1 (d.rdAct (Reg.HAP_THERM_tau n)) : Nat))

/-- HAP_n_RES2.dt and HAP_n_STATUS.derated follow ΔT (R224). -/
def Device.showHeat (d : Device) (n : Nat) : Device :=
  let dt := (d.hap n).dt
  let lim := d.rdAct (Reg.HAP_THERM_limit n)
  let d := d.wr (Reg.HAP_RES2_dt n) (satAt 0xFFFF (dt * 10 / (2 ^ 40 : Nat)).toNat)
  if (lim * 2 ^ 40 : Nat) ≤ dt then d.wr (Reg.HAP_STATUS_derated n) 1
  else if dt ≤ ((lim : Int) - 5) * (2 ^ 40 : Nat) then d.wr (Reg.HAP_STATUS_derated n) 0
  else d

/-- The effect's part of a sample, and the bridge after it. What braking drives is left open (R229). -/
def Device.hapDrive (d : Device) (n : Nat) : Int × Device :=
  match (d.hap n).fx with
  | none => (0, d)
  | some f =>
    if f.pos < f.length then
      let (v, p) := d.fxSample f (d.rd (Reg.HAP_RES_f0 n))
      (v, (d.modHap n (fun x => { x with fx := some { f with pos := f.pos + 1, phase := p } })).showHap n)
    else if f.brakes && decide (f.brake < leAt f.bytes 2 2) then
      let (r, d) := d.free
      (sextNat 24 r, d.modHap n (fun x => { x with fx := some { f with brake := f.brake + 1 } }))
    else (0, d)

/-- The current limit of a bridge in mA (R223, R236). -/
def Device.currentLimit (d : Device) (n : Nat) : Nat := min (d.rdAct (Reg.HAP_LIMIT_amps n)) 0xC8 * 10

/-- The demanded sample of the chirp of a calibration (R226): its course from 40 Hz to 500 Hz is open, at most 0.5 V either way. -/
def Device.chirp (d : Device) (n : Nat) : Int × Device :=
  let (v, d) := d.free
  let peak := 500 * 2 ^ 23 / max 1 (d.rdAct (Reg.HAP_LIMIT_volt n) * 25)
  ((v % (2 * peak + 1) : Nat) - (peak : Int), d)

/-- The demanded sample of bridge `n`, of effect and sound, and the bridge after it: a bridge that is not enabled drives nothing, and one
that calibrates drives its chirp (R223, R226, R236). -/
def Device.hapDemand (d : Device) (n : Nat) (sound : Int) : Int × Device :=
  if !d.on (Reg.HAP_CFG_enable n) then (0, d)
  else if d.on (Reg.HAP_CAL_active n) then d.chirp n
  else
    let (e, d) := d.hapDrive n
    (e + sound * d.rd (Reg.HAP_CFG_audio_gain n) / 0x80, d)

/-- One 48 kHz drive sample of bridge `n` (R223, R224). A PWM cycle whose current would reach the limit ends there. -/
def Device.hapSample (d : Device) (n : Nat) (m : HapMeas) : Device :=
  let d := if d.driveLimit n ≤ (d.hap n).cont then d.cutTime n else d
  let d := if 96 ≤ (d.hap n).clips then d.cutVolt n else d
  let d := if m.vhap < 3000 then d.vhapLow n else d
  let x := d.hap n
  let sounds := d.calibrated n && x.rest.isNone && decide (3000 ≤ m.vhap)
  let d := d.modHap n (fun x => { x with sound := x.sound.drop 1 })
  let (sum, d) := d.hapDemand n (if sounds then x.sound.headD 0 else 0)
  let drive := if d.on (Reg.HAP_STATUS_derated n) then sum / 2 else sum
  let full : Nat := 2 ^ 23
  let lim : Int := min full (m.vhap * full / max 1 (d.rdAct (Reg.HAP_LIMIT_volt n) * 25))
  let out := clampInt (-lim) lim drive
  let d := d.modHap n (fun x => { x with
    cont := if full < sum.natAbs * 100 then x.cont + 1 else 0
    clips := if out = drive then 0 else x.clips + 1
    dt := d.heat n (min m.ma (d.currentLimit n)) x.dt })
  ((d.bumpBy (Reg.HAP_STATUS_ilim n) (m.cycles.countP (fun c => decide (d.currentLimit n ≤ c)))).showHeat n).emit (.samples (96 + n) [out])

/-- `HAP_SAMPLE` (R224): every sample while the HAPTIC domain is ON. -/
def execHapSample (n : Nat) (m : HapMeas) (s : State) : Host.Outcome State Fault Refusal :=
  onDev s (fun d => d.when (decide (n < 8) && d.rd (Reg.PWR_DOM_state 10) == 2) (fun d => d.hapSample n m))

/-! ### Calibration -/

/-- The offset of history entry `i` of channel `n`. -/
def historyAt (n i : Nat) : Nat := 0x42000 + n * 1024 + i % 64 * 16

/-- History entry `i` of channel `n` when it is valid (R343). -/
def Device.historyEntry (d : Device) (n i : Nat) : Option (List Byte) :=
  let b := rawRead d.mems.mram (historyAt n i) 16
  if leAt b 12 4 = crc32c (b.take 12) then some b else none

/-- The newest valid entry of a channel's history (R343). -/
def Device.historyNewest (d : Device) (n : Nat) : Option Nat :=
  (List.range 64).find? (fun i => match d.historyEntry n i, d.historyEntry n (i + 1) with
    | some a, some b => decide (leAt b 0 4 < leAt a 0 4)
    | some _, none => true
    | none, _ => false)

/-- The median of the previous eight f0 values of a channel, in half units; none while it has fewer. -/
def Device.historyMedian (d : Device) (n : Nat) : Option Nat :=
  match d.historyNewest n with
  | none => none
  | some i =>
    let fs := (List.range 8).filterMap (fun k => (d.historyEntry n (i + 64 - k)).map (fun b => leAt b 4 2))
    let s := sortBy (fun a b => decide (a < b)) fs
    if fs.length = 8 then some (s.getD 3 0 + s.getD 4 0) else none

/-- A history entry appended after a calibration, and the test for a shift of f0 (R227). -/
def Device.historyAppend (d : Device) (n : Nat) : Device :=
  let f0 := d.rd (Reg.HAP_RES_f0 n)
  let b := leBytes 4 (d.rd (Reg.SEED_HOUR_seconds 0)) ++ leBytes 2 f0 ++ leBytes 2 (d.rd (Reg.HAP_RES2_q n))
    ++ leBytes 2 (d.rd (Reg.HAP_RES_re n)) ++ leBytes 2 (d.rd (Reg.HAP_RES2_dt n))
  let i := match d.historyNewest n with | some i => i + 1 | none => 0
  let shifted := match d.historyMedian n with | some m => decide (m < 10 * absDiff (2 * f0) m) | none => false
  let d := d.mramWrite (historyAt n i) (b ++ leBytes 4 (crc32c b))
  if shifted then (d.wr (Reg.HAP_STATUS_f0_shift n) 1).raise (fault 0x0E 2 0xD00000 n) else d

/-- Whether a bridge is idle. -/
def Device.hapIdle (d : Device) (n : Nat) : Bool :=
  let x := d.hap n
  x.fx.isNone && x.queued.isNone && x.splice.isNone && !d.on (Reg.HAP_CAL_active n)

/-- A write of 1 to HAP_n_CAL.go (R226). -/
def Device.calGo (d : Device) (n : Nat) : Device := if d.hapIdle n then d.wr (Reg.HAP_CAL_active n) 1 else d

/-- `HAP_CAL_GO` (R226). -/
def execHapCalGo (n : Nat) (s : State) : Host.Outcome State Fault Refusal :=
  onDev s (fun d => d.when (n < 8) (fun d => d.calGo n))

/-- `HAP_CAL_DONE` (R226, R227): the chirp ends; f0 in 0.1 Hz (0 when no impedance peak was found), Q × 100 and Re in mΩ. -/
def execHapCalDone (n f0 q re : Nat) (s : State) : Host.Outcome State Fault Refusal :=
  onDev s (fun d =>
    d.when (d.on (Reg.HAP_CAL_active n)) (fun d =>
      let d := d.wr (Reg.HAP_CAL_active n) 0
      if f0 < 500 || 4000 < f0 || re < 1000 || 64000 < re then
        (d.wr (Reg.HAP_STATUS_cal_fail n) 1).raise (fault 0x0E 1 0xD00000 n)
      else
        (((((d.wr (Reg.HAP_RES_f0 n) f0).wr (Reg.HAP_RES_re n) re).wr (Reg.HAP_RES2_q n) (satAt 0xFFFF q)).wr
          (Reg.HAP_CAL_valid n) 1).wr (Reg.HAP_STATUS_cal_fail n) 0).historyAppend n))

/-- Start-up calibration (R226): every channel that SEED_HAPCAL does not exclude starts a chirp; an excluded one takes its
newest history entry. -/
def Device.calStartup (d : Device) : Device :=
  let skip := d.seedValue 0xFC3
  (List.range 8).foldl (fun d n =>
    if !skip.testBit n then d.wr (Reg.HAP_CAL_active n) 1
    else
      match (d.historyNewest n).bind (d.historyEntry n) with
      | some b => ((d.wr (Reg.HAP_RES_f0 n) (leAt b 4 2)).wr (Reg.HAP_RES_re n) (leAt b 8 2)).wr (Reg.HAP_CAL_valid n) 1
      | none => d.wr (Reg.HAP_STATUS_cal_fail n) 1)
    { d with glass := { d.glass with calDue := false } }

/-- `VHAP_GOOD` (R459): VHAP reaches 3.0 V. -/
def execVhapGood (s : State) : Host.Outcome State Fault Refusal :=
  onDev s (fun d =>
    let d := (List.range 8).foldl (fun d n => d.wr (Reg.HAP_STATUS_vhap_low n) 0) { d with glass := { d.glass with vhap := true } }
    if d.glass.calDue then d.calStartup else d)

/-! ### Trigger pins -/

/-- Whether an edge is the one that a pin's configuration selects. -/
def edgeSelected (edge : Nat) (rising : Bool) : Bool := edge == 2 || (if edge = 1 then !rising else rising)

/-- An edge of pin `t` that its configuration selects starts its effect (R226, R232). -/
def Device.trigPlay (d : Device) (t : Nat) : Device :=
  let early := match (d.trig t).lastStart with
    | some c => decide (d.beat.clock < c + d.rd (Reg.HAP_TRIG_TIME_refractory t) * 800000)
    | none => false
  let policy := let p := d.rd (Reg.HAP_TRIG_CFG_policy t); if p = 3 then 0 else p
  if early then d.bump (Reg.HAP_TRIG_STAT_suppressed t)
  else
    match d.hapTrigger (.pin t) (d.rd (Reg.HAP_TRIG_CFG_channel t)) (d.rd (Reg.HAP_TRIG_CFG_effect t)) policy with
    | .asked true d => d.modTrig t (fun x => { x with lastStart := some d.beat.clock })
    | .asked false d => d
    | .nothing => d
    | .suppressed => d.bump (Reg.HAP_TRIG_STAT_suppressed t)

/-- The level of pin `t` after an edge, and since when it has stood at the level that follows its active edge. -/
def Device.trigLevel (d : Device) (t : Nat) (rising : Bool) : Device :=
  let sel := edgeSelected (d.rd (Reg.HAP_TRIG_CFG_edge t)) rising
  (d.wr (Reg.HAP_TRIG_STAT_level t) (b2n rising)).modTrig t (fun x => { x with since := if sel then some d.beat.clock else none })

/-- `TRIG_HOLD_EXPIRE` (R232): pin `t` has stood at its active level for longer than hold. -/
def execTrigHoldExpire (t : Nat) (s : State) : Host.Outcome State Fault Refusal :=
  onDev s (fun d =>
    match (d.trig t).since with
    | none => d
    | some c =>
      d.when (decide (t < 8) && d.on (Reg.HAP_TRIG_CFG_enable t)) (fun d =>
        let d := (d.atClock (c + d.rd (Reg.HAP_TRIG_TIME_hold t) * 800000)).modTrig t (fun x => { x with since := none })
        (d.wr (Reg.HAP_TRIG_STAT_held t) 1).raise (fault 0x0E 3 0xD00000 t)))

/-! ### Relaxation channels -/

/-- Whether channel `n` is one of a knob pair (R221): the even channel is enabled in mode KNOB. -/
def Device.knobPair (d : Device) (n : Nat) : Bool :=
  d.on (Reg.RO_CFG_enable (n - n % 2)) && d.rd (Reg.RO_CFG_mode (n - n % 2)) == 2

/-- A record of relaxation channel `n` (R219, R221): kept for the end of its front end's frame, or written at once when that
front end is disabled. -/
def Device.relaxRecord (d : Device) (n state : Nat) (lo : Word) (drop : Nat) : Device :=
  let f := d.rd (Reg.RO_CFG_ring n)
  let rec' := (lo, w32 (n + state * 16 + f * 256 + satAt 0xFFFF drop * 65536))
  if (d.front f).phase = 2 then d.modFront f (fun x => { x with recs := x.recs ++ [rec'] })
  else d.report f (d.reg (Reg.TCH_RPT f)) (d.on (Reg.TCH_CFG_sec f)) [rec']

/-- A PRESS of channel `n` (R222): whether it was reported. -/
def Device.relaxPress (d : Device) (n drop : Nat) : Bool × Device :=
  let x := d.relaxCh n
  let early := match x.lastPress with
    | some c => decide (d.beat.clock < c + d.rd (Reg.RO_TIME_refractory n) * 800000)
    | none => false
  if early then (false, d.bump (Reg.RO_STAT_suppressed n))
  else
    let d := (d.modRelax n (fun x => { x with lastPress := some d.beat.clock })).relaxRecord n 5 0#32 drop
    if !d.on (Reg.RO_FX_enable n) then (true, d)
    else
      match d.hapTrigger (.relax n) (d.rd (Reg.RO_FX_channel n)) (d.rd (Reg.RO_FX_effect n)) 0 with
      | .asked _ d => (true, d)
      | .nothing => (true, d)
      | .suppressed => (true, d.bump (Reg.RO_STAT_suppressed n))

/-- The count of a gate of channel `n` under the configuration of channel `c`: the drop, with the baseline tracked (R221). -/
def Device.relaxCount (d : Device) (n c count : Nat) : Nat × Device :=
  let x := d.relaxCh n
  let base := x.base.getD count
  let drop := (base - count).toNat
  let was := d.on (Reg.RO_STAT_active n)
  let now := if was then decide (d.rd (Reg.RO_CFG_thresh c) ≤ 2 * drop) else decide (d.rd (Reg.RO_CFG_thresh c) ≤ drop)
  let step := !now && decide (63 ≤ x.gates)
  let base' := if step then (if base < count then base + 1 else if (count : Int) < base then base - 1 else base) else base
  let d := d.modRelax n (fun x => { x with
    base := some base', gates := if now then x.gates else (x.gates + 1) % 64
    since := if now && !was then d.beat.clock else x.since, heldDone := x.heldDone && now })
  (drop, (d.wr (Reg.RO_STAT_count n) (satAt 0xFFFF count)).wr (Reg.RO_STAT_active n) (b2n now))

/-- The step of a quadrature pair (R221): +1 for 00, 10, 11, 01, 00, where the even channel is the first of the two. -/
def quadStep (old new : Nat) : Int :=
  let at' := fun q => match q with | 0 => 0 | 1 => 1 | 3 => 2 | _ => 3
  match (at' new + 4 - at' old) % 4 with
  | 1 => 1
  | 3 => -1
  | _ => 0

/-- A gate of a knob pair whose even channel is `n` (R221). -/
def Device.knobGate (d : Device) (n : Nat) : Device :=
  let new := d.rd (Reg.RO_STAT_active n) + 2 * d.rd (Reg.RO_STAT_active (n + 1))
  let x := d.relaxCh n
  let turn := x.turn + quadStep x.quad new
  let (turn, det) : Int × Int := if new = 0 then (0, if turn = 4 then 1 else if turn = -4 then -1 else 0) else (turn, 0)
  let d := d.modRelax n (fun x => { x with quad := new, turn := turn, detents := x.detents + det })
  let f := d.rd (Reg.RO_CFG_ring n)
  if (d.front f).phase = 2 || (d.relaxCh n).detents = 0 then d
  else
    (d.modRelax n (fun x => { x with detents := 0 })).relaxRecord n 7 (w32 (wrapInt 16 (d.relaxCh n).detents)) 0

/-- A gate of channel `n` ends with a count (R221): whether a PRESS was reported. -/
def Device.relaxGate (d : Device) (n count : Nat) : Bool × Device :=
  let even := n - n % 2
  if d.knobPair n then
    let (_, d) := d.relaxCount n even count
    (false, d.knobGate even)
  else if !d.on (Reg.RO_CFG_enable n) then (false, d)
  else
    let was := d.on (Reg.RO_STAT_active n)
    let (drop, d) := d.relaxCount n n count
    let now := d.on (Reg.RO_STAT_active n)
    if now && !was then d.relaxPress n drop
    else if was && !now then (false, d.relaxRecord n 6 0#32 drop)
    else (false, d)

/-- `RO_HOLD_EXPIRE` (R222): channel `n` has stayed active for longer than hold. The channels of a knob write no HELD record of their own
(R221: the odd channel's configuration is ignored; log entry 112). -/
def execRoHoldExpire (n : Nat) (s : State) : Host.Outcome State Fault Refusal :=
  onDev s (fun d =>
    d.when (decide (n < 8) && d.on (Reg.RO_STAT_active n) && !(d.relaxCh n).heldDone && d.on (Reg.RO_CFG_enable n)
        && !d.knobPair n) (fun d =>
      let x := d.relaxCh n
      let d := (d.atClock (x.since + d.rd (Reg.RO_TIME_hold n) * 800000)).modRelax n (fun x => { x with heldDone := true })
      let drop := ((x.base.getD 0) - d.rd (Reg.RO_STAT_count n)).toNat
      (d.wr (Reg.RO_STAT_held n) 1).relaxRecord n 8 0#32 drop))

end Sys2Proof.Machine
end

