-- ==== Sys2Proof/Machine/Audio.lean ====
section
/-!
DEFINITION. The audio crosspoint (R237 to R261): banks and swaps (R66, R245 to R249), guard nodes (R250, R251, R359), the sum
and the sink chain (R241 to R243), generators (R252, R253), streams and captures (R254), TDM ports (R255 to R258) and the
default image (R259).
-/

namespace Sys2Proof.Machine

open Sys2Proof

/-! ### Arithmetic -/

/-- An integer divided by a positive number, to nearest, ties to even. -/
def divEven (x : Int) (n : Nat) : Int :=
  let q := x / n
  let r := x - q * n
  if (n : Int) < 2 * r || (2 * r == n && q % 2 == 1) then q + 1 else q

/-- An integer shifted right, to nearest, ties to even. -/
def shrEven (x : Int) (k : Nat) : Int := divEven x (2 ^ k)

/-- 1.0 in Q1.23. -/
def one23 : Int := 8388608

/-- The signed gain of a node word (R240): a word with other bits set reads as 0. -/
def nodeGain (w : Word) : Int :=
  if 2 ^ 17 ≤ w.toNat then 0 else if bitOn w.toNat 16 then -(wbits w 15 0 : Int) else wbits w 15 0

/-- The signed trim of word 0 of a sink block (R260). -/
def trimGain (w : Word) : Int := if bitOn w.toNat 8 then -(wbits w 31 16 : Int) else wbits w 31 16

/-- A sample times a signed gain (R241): the magnitude is rounded to even, then negated. -/
def gainMul (x g : Int) : Int :=
  let p := shrEven (x * g.natAbs) 15
  if g < 0 then -p else p

/-- The gain at sample `j` of a ramp of `n` samples (R247). -/
def rampGain (old new : Int) (n j : Nat) : Int := if j < n then old + (new - old) * (j + 1) / n else new

/-! ### Banks and guards -/

/-- The active bank: 0 A, 1 B (R245). -/
def Device.bank (d : Device) : Nat := d.rd Reg.AUD_STATUS_active

/-- A node word of a bank: source `s`, sink `k`. -/
def Device.node24 (d : Device) (bk s k : Nat) : Word := d.reg (Reg.AUD_NODE bk (128 * k + s))

/-- The 32 words of sink block `k` of a bank (R260). -/
def Device.sinkWords (d : Device) (bk k : Nat) : List Word := (List.range 32).map (fun i => d.reg (Reg.AUD_SINKBLK bk (32 * k + i)))

/-- The nodes of a bank that are listed: source and sink. -/
def Device.listedNodes (d : Device) (bk : Nat) : List (Nat × Nat) :=
  (d.csr.filter (fun e => decide (Reg.AUD_NODE bk 0 ≤ e.1) && decide (e.1 < Reg.AUD_NODE bk 16384))).map (fun e =>
    let i := (e.1 - Reg.AUD_NODE bk 0) / 4
    (i % 128, i / 128))

/-- The sinks of which a bank lists a block word. -/
def Device.listedBlocks (d : Device) (bk : Nat) : List Nat :=
  ((d.csr.filter (fun e => decide (Reg.AUD_SINKBLK bk 0 ≤ e.1) && decide (e.1 < Reg.AUD_SINKBLK bk 4096))).map (fun e =>
    (e.1 - Reg.AUD_SINKBLK bk 0) / 128)).eraseDups

/-- The minimum of a node under the guards of its sink, the larger where two name it (R250). -/
def guardMin (gs : List (Nat × Nat)) (s : Nat) : Option Nat :=
  gs.foldl (fun m g => if g.1 = s then some (max (m.getD 0) g.2) else m) none

/-- Whether a guard node names a source. -/
def Device.guardSource (d : Device) (s : Nat) : Bool :=
  (List.range 32).any (fun j => d.on (Reg.AUD_GUARD_enable j) && d.rd (Reg.AUD_GUARD_source j) == s)

/-! ### Writes of banks and presets -/

/-- A write into a bank or the preset RAM by a world (R245, R251, R252). -/
def Device.audBankWrite (d : Device) (secure : Bool) (a : Nat) (v : Word) : Device :=
  if a < Reg.AUD_NODE 0 0 then
    if !secure && decide (Reg.AUD_PRESET (224 * 8) ≤ a) then d else d.setReg a v
  else
    let sink := decide (Reg.AUD_SINKBLK 0 0 ≤ a)
    let bk := if sink then (a - Reg.AUD_SINKBLK 0 0) / 0x4000 else (a - Reg.AUD_NODE 0 0) / 0x10000
    if bk = d.bank || d.aud.swap.isSome then d.wr Reg.AUD_STATUS_bank_locked 1
    else if !sink then d.setReg a v
    else
      let k := (a - Reg.AUD_SINKBLK bk 0) / 128
      if !secure && d.guarded k then d
      else
        let l := d.aud.secBlks.filter (fun x => x != 128 * bk + k)
        { d.setReg a v with aud := { d.aud with secBlks := if secure then (128 * bk + k) :: l else l } }

/-- `AUD_BANK_WRITE` (R245): an agent's write of the node or sink block word at `addr` lands. -/
def execAudBankWrite (ag : Agent) (addr : Nat) (value : Word) (s : State) : Host.Outcome State Fault Refusal :=
  onDev s (fun d =>
    d.when (decide (Reg.AUD_NODE 0 0 ≤ addr) && decide (addr < Reg.AUD_SINKBLK 1 4096) && addr % 4 == 0)
      (fun d => d.audBankWrite (agentSecure ag) addr value))

/-- The registers of a bank by the offset of the same register in the other bank. -/
def otherBank (bk a : Nat) : Option Nat :=
  if Reg.AUD_NODE bk 0 ≤ a && a < Reg.AUD_NODE bk 16384 then some (a - Reg.AUD_NODE bk 0 + Reg.AUD_NODE (1 - bk) 0)
  else if Reg.AUD_SINKBLK bk 0 ≤ a && a < Reg.AUD_SINKBLK bk 4096 then
    some (a - Reg.AUD_SINKBLK bk 0 + Reg.AUD_SINKBLK (1 - bk) 0)
  else none

/-- Bank `bk` copied whole into the other bank (R245). -/
def Device.bankCopy (d : Device) (bk : Nat) : Device :=
  let src := d.csr.filterMap (fun e => (otherBank bk e.1).map (fun a => (a, e.2)))
  let d := { d with
    csr := d.csr.filter (fun e => (otherBank (1 - bk) e.1).isNone)
    aud := { d.aud with
      secBlks := (d.aud.secBlks.filter (fun x => x / 128 == bk)).flatMap (fun x => [x, 128 * (1 - bk) + x % 128]) } }
  src.foldl (fun d e => d.setReg e.1 e.2) d

/-- A write of 1 to AUD_COPY.go (R245): a copy writes the idle bank, so none starts while a swap is pending. -/
def Device.audCopy (d : Device) : Device :=
  if d.aud.swap.isSome then d.wr Reg.AUD_STATUS_bank_locked 1
  else if d.aud.copying.isSome then d
  else { d with aud := { d.aud with copying := some d.bank } }.showBusy

/-- `AUD_COPY` (R245). -/
def execAudCopy (s : State) : Host.Outcome State Fault Refusal := onDev s (fun d => d.audCopy)

/-- The bank copy ends and BUSY clears (R245). -/
def Device.audCopyDone (d : Device) : Device :=
  match d.aud.copying with
  | none => d
  | some bk => ({ d with aud := { d.aud with copying := none } }.bankCopy bk).showBusy

/-! ### The default image -/

/-- The record job of the default audio image (R259, R321, R339): the node words and the sink blocks of a bank. -/
def Device.audioJob (d : Device) (bk : Nat) : RecordJob :=
  { src := .audio, kind := 0x12, unit := 0, base := 0x50000, size := 0x18000, slots := 2, extra := 0
    payload := (List.range 16384).flatMap (fun i => leBytes 4 (d.reg (Reg.AUD_NODE bk i)).toNat)
      ++ (List.range 4096).flatMap (fun i => leBytes 4 (d.reg (Reg.AUD_SINKBLK bk i)).toNat) }

/-- `AUD_STORE` (R259): the bank that AUD_STORE.bank names becomes the new default image. -/
def Device.audStore (d : Device) : Device := d.recordRequest (d.audioJob (d.rd Reg.AUD_STORE_bank))

/-- `AUD_STORE` (R259). -/
def execAudStore (s : State) : Host.Outcome State Fault Refusal := onDev s (fun d => d.audStore)

/-- The words of a list of bytes written to registers from offset `a`, in steps of 4. -/
def Device.setWords (d : Device) (a : Nat) : List Byte → Nat → Device
  | _, 0 => d
  | bs, n + 1 => (d.setReg a (w32 (leAt bs 0 4))).setWords (a + 4) (bs.drop 4) n

/-- Bank A at reset (R259): the newest valid default image, and bank B zero. -/
def Device.loadAudio (d : Device) : Device :=
  match d.newestRecord 0x12 0x50000 0x18000 2 with
  | some (_, _, p) =>
    if p.length = 81920 then ((d.setWords (Reg.AUD_NODE 0 0) p 16384).setWords (Reg.AUD_SINKBLK 0 0) (p.drop 65536) 4096).wr
      Reg.AUD_STATUS_no_default 0
    else d.wr Reg.AUD_STATUS_no_default 1
  | none => d.wr Reg.AUD_STATUS_no_default 1

/-! ### Swaps -/

/-- The decision on a swap request for target `t` with a ramp, by a sequencer or by AUD_SWAP_REQ (R66, R248). The checks
run in the order in which R66 lists them. -/
def Device.swapDecide (d : Device) (t ramp : Nat) (who : Option Nat) : Nat × Device :=
  let b := d.beat.sbeat
  let target : Int := if t = 0 then (b : Int) + 1 else (b : Int) + sextNat 32 (t + 2 ^ 32 - b % 2 ^ 32)
  if 4096 < ramp then (resInvalid, d)
  else if target ≤ b || (target == (b : Int) + 1 && d.fallow) then (resLate, d)
  else if (b : Int) + 65535 < target then (resInvalid, d)
  else if d.aud.swap.isSome then (resBusy, d)
  else
    (resOk, ({ d with aud := { d.aud with swap := some ⟨target.toNat, ramp, who⟩ } }.wr Reg.AUD_STATUS_pending 1).wr
      Reg.AUD_SWAP_TGT_beat target.toNat)

/-- Whether an agent may ask for swaps (R249): in LEGACY and MIXED modes, the compatibility draft and the secure world. -/
def Device.maySwap (d : Device) (ag : Agent) : Bool :=
  d.mode == .native || agentSecure ag || ag == .seq 0 || ag == .seq 1 || ag == .legacy

/-- `ASWAP` (R66). -/
def execAswap (sq rd ra rb : Nat) (s : State) : Host.Outcome State Fault Refusal :=
  onDev s (fun d => d.runInstr sq 3 [ra, rb] (fun d x =>
    let (code, d) := if d.maySwap (.seq sq) then d.swapDecide (x.gr ra).toNat (x.gr rb).toNat (some sq) else (resDenied, d)
    .next (d.modSeq sq (fun x => x.result rd code 0 0))))

/-- A write of AUD_SWAP_REQ with go (R249). -/
def Device.swapRequest (d : Device) (ag : Agent) (ramp : Nat) : Device :=
  let d := d.wr Reg.AUD_SWAP_REQ_ramp ramp
  let (code, d) := if d.maySwap ag then d.swapDecide (d.rd Reg.AUD_SWAP_BEAT_beat) ramp none else (resDenied, d)
  (d.wr Reg.AUD_SWAP_RES_done 1).wr Reg.AUD_SWAP_RES_result code

/-- `AUD_SWAP_REQ` (R249): an agent writes go with a ramp. -/
def execAudSwapReq (ag : Agent) (ramp : Nat) (s : State) : Host.Outcome State Fault Refusal :=
  onDev s (fun d => d.swapRequest ag (ramp % 8192))

/-- A swap is no longer pending (R248). -/
def Device.endSwap (d : Device) : Device :=
  { d with aud := { d.aud with swap := none, ramp := none, oldTrim := [] } }.wr Reg.AUD_STATUS_pending 0

/-- `SWAP_RAMP_END` (R248): the last sample of the ramp has passed, within the beat whose block holds it. -/
def execSwapRampEnd (s : State) : Host.Outcome State Fault Refusal :=
  onDev s (fun d =>
    match d.aud.ramp with
    | some (n, j) =>
      d.when (n ≤ j) (fun d =>
        (d.atTick ((n - (j - d.beat.samples)) * d.rd Reg.BEAT_PRED_ticks / max 1 d.beat.samples)).endSwap)
    | none => d)

/-- The swap takes place at step 0 of its edge (R246): the banks change roles. A guarded sink keeps the block that it plays
unless the secure world wrote the new one (R251). -/
def Device.swapNow (d : Device) (p : AudSwap) : Device :=
  let old := d.bank
  let gs := ((List.range 32).filter (fun j => d.on (Reg.AUD_GUARD_enable j))).map (fun j => d.rd (Reg.AUD_GUARD_sink j))
  let gs := gs.eraseDups
  let playing := fun k => match d.aud.kept.find? (fun e => e.1 == k) with | some e => e.2 | none => d.sinkWords old k
  let keep := (gs.filter (fun k => !d.aud.secBlks.contains (128 * (1 - old) + k))).map (fun k => (k, playing k))
  let trims := d.aud.kept.map (fun e => (e.1, trimGain (e.2.headD 0#32)))
  let d := { d.wr Reg.AUD_STATUS_active (1 - old) with
    aud := { d.aud with kept := keep, oldTrim := trims, ramp := if p.ramp = 0 then none else some (p.ramp, 0) } }
  let d := match p.who with | some q => d.event q evSwap | none => d
  if p.ramp = 0 then d.endSwap else d

/-! ### Generators -/

/-- A wave of `f` half hertz at sample `i`, in Q1.23 (R252): 1 square, 2 triangle, else sine. -/
def waveAt (kind f i : Nat) : Int :=
  let p := i * f % 96000
  if kind = 1 then (if p < 48000 then one23 else -one23)
  else if kind = 2 then
    (if p < 24000 then one23 * p / 24000 else if p < 72000 then one23 * (48000 - p) / 24000 else one23 * ((p : Int) - 96000) / 24000)
  else sinePhase p 96000 / (2 ^ (fixBits - 23) : Nat)

/-- Word `i` of a preset. -/
def Gen.word (g : Gen) (i : Nat) : Nat := (g.words.getD i 0#32).toNat

/-- The samples of a sounding part, its attack, its release and its period. -/
def Gen.onLen (g : Gen) : Nat := bits (g.word 4) 15 0 * 48
def Gen.attack (g : Gen) : Nat := bits (g.word 3) 15 0 * 48
def Gen.release (g : Gen) : Nat := bits (g.word 3) 31 16 * 48
def Gen.period (g : Gen) : Nat := g.onLen + bits (g.word 4) 31 16 * 48
def Gen.repeats (g : Gen) : Nat := bits (g.word 5) 15 0

/-- A gain of an attack (0) or a release (1), at most unity. -/
def envAt (k i n : Nat) : Nat := min 0x8000 (Config.envelope k i n)

/-- The gain at sample `i` before any stop (R252): attack, hold, and a release that follows the on time. -/
def Gen.level (g : Gen) (i : Nat) : Nat :=
  let c := if g.onLen = 0 then 0
    else if g.repeats = 0 then i / max 1 g.period else min (i / max 1 g.period) (g.repeats - 1)
  let t := i - c * g.period
  if g.onLen != 0 && decide (g.onLen ≤ t) then
    (if t < g.onLen + g.release then envAt 1 (t - g.onLen) g.release else 0)
  else if t < g.attack then envAt 0 t g.attack
  else 0x8000

/-- The gain at sample `i` (R253): a stop begins the release there. -/
def Gen.gain (g : Gen) (i : Nat) : Nat :=
  match g.rel with
  | none => g.level i
  | some m =>
    if i < m then g.level i
    else if i < m + g.release then g.level m * envAt 1 (i - m) g.release / 0x8000
    else 0

/-- The output of a generator at sample `i` (R252): a two-tone preset sums f1 and f2, each at half the amplitude. -/
def Gen.sample (g : Gen) (i : Nat) : Int :=
  let kind := bits (g.word 0) 1 0
  let amp : Int := bits (g.word 2) 15 0
  let f1 := bits (g.word 1) 15 0
  let w := if kind = 3 then (waveAt 0 f1 i + waveAt 0 (bits (g.word 1) 31 16) i) / 2 else waveAt kind f1 i
  clampInt (-one23) (one23 - 1) (w * amp * (g.gain i : Int) / (2 ^ 30 : Nat))

/-- Whether a generator has finished its repeats, or its release after a stop (R253). -/
def Gen.done (g : Gen) : Bool :=
  match g.rel with
  | some m => decide (m + g.release ≤ g.n)
  | none => g.onLen != 0 && g.repeats != 0 && decide ((g.repeats - 1) * g.period + g.onLen + g.release ≤ g.n)

/-- Generator `n` when it sounds. -/
def Device.gen (d : Device) (n : Nat) : Option Gen := tget (fun _ => none) d.aud.gens n

/-- Generator `n` replaced. -/
def Device.setGen (d : Device) (n : Nat) (g : Option Gen) : Device :=
  { d with aud := { d.aud with gens := tset (fun _ => none) d.aud.gens n g } }

/-- The words of preset `i`. -/
def Device.preset (d : Device) (i : Nat) : List Word := (List.range 8).map (fun w => d.reg (Reg.AUD_PRESET (8 * i + w)))

/-- Whether a preset is neither empty nor out of range (R252, R253). -/
def presetOk (ws : List Word) : Bool :=
  let w := fun i => (ws.getD i 0#32).toNat
  let freq := fun f => decide (40 ≤ f) && decide (f ≤ 40000)
  decide (w 0 < 4) && freq (bits (w 1) 15 0) && (w 0 != 3 || freq (bits (w 1) 31 16)) && decide (1 ≤ w 2)
    && decide (w 2 ≤ 0x8000) && decide (bits (w 3) 15 0 ≤ 2000) && decide (bits (w 3) 31 16 ≤ 2000) && decide (w 5 < 65536)
    && w 6 == 0 && w 7 == 0

/-- A start (with its preset) or a stop reaches generator `n`; it takes effect in the next block (R253). -/
def Device.genAsk (d : Device) (n : Nat) (r : Option Nat) : Device :=
  { d with aud := { d.aud with reqs := tset (fun _ => []) d.aud.reqs n (tget (fun _ => []) d.aud.reqs n ++ [r]) } }

/-- The result of an AUD `POST` of sequencer `q` (R253). -/
def Device.genPost (d : Device) (q n : Nat) (start : Bool) (p : Nat) : Nat × Device :=
  if 255 < p || (start && !presetOk (d.preset p)) then (resInvalid, d)
  else if d.handovers.any (fun x => x.kind == 2 && x.unit == n)
      || (d.on (Reg.AUD_GEN_CFG_sec n) && (q != 4 || (start && decide (p < 224)))) then (resDenied, d)
  else (resOk, d.genAsk n (if start then some p else none))

/-- `POST` of class AUD (R62, R253): the result code is the outcome in word 3. A block with a bit set outside its fields, a generator above 7
among them, is INVALID to the instruction (R62) and in word 3 as well. -/
def execPostAud (sq rd ra : Nat) (s : State) : Host.Outcome State Fault Refusal :=
  onDev s (fun d => d.runPost sq rd ra 0x05 (fun d k a w0 w1 w2 =>
    if 8 ≤ w0 || 2 ≤ w1 || 65536 ≤ w2 then (resInvalid, d.modSeq sq (fun x => x.setDword (a / 4 + 3) (w32 resInvalid)))
    else
      let (code, d) := d.genPost sq w0 (w1 == 1) w2
      (resOk, d.endPost sq k code)))

/-- The requests that reached generator `n` take effect in turn as a block begins (R253). -/
def Device.genBegin (d : Device) (n : Nat) : Device :=
  let d := (tget (fun _ => []) d.aud.reqs n).foldl
    (fun d r =>
      match r with
      | some p =>
        ((d.setGen n (some { words := d.preset p, n := 0, rel := none })).wr (Reg.AUD_GEN_CFG_running n) 1).wr
          (Reg.AUD_GEN_CFG_preset n) p
      | none => d.setGen n ((d.gen n).map (fun g => { g with rel := some (g.rel.getD g.n) }))) d
  { d with aud := { d.aud with reqs := tset (fun _ => []) d.aud.reqs n [] } }

/-- The next `len` samples of generator `n`. -/
def Device.genBlock (d : Device) (n len : Nat) : List Int × Device :=
  let d := d.genBegin n
  match d.gen n with
  | none => ([], d)
  | some g => ((List.range len).map (fun j => g.sample (g.n + j)), d.setGen n (some { g with n := g.n + len }))

/-- A generator falls silent (R253); a chime that ends tells the UDC-4 map (R441). -/
def Device.genStop (d : Device) (n : Nat) : Device :=
  let d := (d.setGen n none).wr (Reg.AUD_GEN_CFG_running n) 0
  if d.mode != .native && n < 4 then (d.wr (Reg.UDC_CHM_CTL_running n) 0).udcEvent (11 + n) else d

/-- `GEN_FINISH` (R253). -/
def execGenFinish (n : Nat) (s : State) : Host.Outcome State Fault Refusal :=
  onDev s (fun d =>
    match d.gen n with
    | some g => d.when g.done (fun d => d.genStop n)
    | none => d)

/-! ### Streams and captures -/

/-- The size code of a stream or capture ring (R254, R261). -/
def ringMs (v : Nat) : Nat := if 10 ≤ v && v ≤ 20 then v else 10

/-- Whether a ring of instance `i` is served: not in D-DIM (R375), nor while the instance is FROZEN (R305). -/
def Device.streamsUp (d : Device) (i : Nat) : Bool := d.rd Reg.PWR_STATE_state == 0 && d.instState i != 4

/-- A stream's samples of a ring as Q1.23 (R254). -/
def ringSample (wide : Bool) (bs : List Byte) (i : Nat) : Int :=
  if wide then sextNat 24 (leAt bs (4 * i) 4 / 256) else sextNat 16 (leAt bs (2 * i) 2) * 256

/-- `n` bytes of a ring of `size` bytes from byte `o` on, read in one or two parts. -/
def Device.ringRead (d : Device) (sp : Space) (base size o n : Nat) : Except MemErr (List Byte) × Device :=
  if o + n ≤ size then d.read sp 11 (base + o) n
  else
    match d.read sp 11 (base + o) (size - o) with
    | (.error e, d) => (.error e, d)
    | (.ok a, d) =>
      match d.read sp 11 base (o + n - size) with
      | (.error e, d) => (.error e, d)
      | (.ok b, d) => (.ok (a ++ b), d)

/-- Bytes written into a ring from byte `o` on. -/
def Device.ringWrite (d : Device) (sp : Space) (base size o : Nat) (bs : List Byte) : Except MemErr Unit × Device :=
  if o + bs.length ≤ size then d.write sp 11 (base + o) bs
  else
    match d.write sp 11 (base + o) (bs.take (size - o)) with
    | (.error e, d) => (.error e, d)
    | (.ok (), d) => d.write sp 11 base (bs.drop (size - o))

/-- The index that the D8 owns set, in both of its registers. -/
def Device.setMsDev (d : Device) (n v : Nat) : Device := (d.wr (Reg.AUD_MS_DEV_dev n) v).wr (Reg.AUD_MS_IDX_dev n) v

/-- The index that the D8 owns of a capture set, in both of its registers. -/
def Device.setMcDev (d : Device) (n v : Nat) : Device := (d.wr (Reg.AUD_MC_DEV_dev n) v).wr (Reg.AUD_MC_IDX_dev n) v

/-- A stream or a capture (16 on) that a fault stops (R254). -/
def Device.streamFault (d : Device) (n : Nat) : Device :=
  let d := { d with aud := { d.aud with stopped := n :: d.aud.stopped } }.raise (fault 0x0D 2 0xB00000 n)
  if n < 16 then d.wr (Reg.AUD_MS_STAT_fault n) 1 else d.wr (Reg.AUD_MC_STAT_fault (n - 16)) 1

/-- One block of stream `n` (R254); without the compute die it reads zero (R361). -/
def Device.streamBlock (d : Device) (n len : Nat) : List Int × Device :=
  if !d.on (Reg.AUD_MS_CFG_enable n) || d.aud.stopped.contains n then ([], d)
  else if d.flt.lostCompute then ([], d)
  else if !d.streamsUp (d.rd (Reg.AUD_MS_CFG_inst n)) then ([], d.bumpBy (Reg.AUD_MS_STAT_count n) len)
  else
    let k := ringMs (d.rd (Reg.AUD_MS_CFG_log2_size n))
    let wide := d.on (Reg.AUD_MS_CFG_format n)
    let w := if wide then 4 else 2
    let dev := d.rd (Reg.AUD_MS_DEV_dev n) % 2 ^ (k + 1)
    let have_ := min (2 ^ k) ((d.rd (Reg.AUD_MS_OWN_own n) + 2 ^ (k + 1) - dev) % 2 ^ (k + 1))
    let m := min len have_
    let d := d.bumpBy (Reg.AUD_MS_STAT_count n) (len - m)
    if m = 0 then ([], d)
    else
      match d.ringRead (.inst (d.rd (Reg.AUD_MS_CFG_inst n))) (d.addr64 (Reg.AUD_MS_LO n) (Reg.AUD_MS_HI n)) (2 ^ k * w)
          (dev % 2 ^ k * w) (m * w) with
      | (.error _, d) => ([], d.streamFault n)
      | (.ok bs, d) => ((List.range m).map (ringSample wide bs), d.setMsDev n ((dev + m) % 2 ^ (k + 1)))

/-- One block written by capture `n` (R254); without the compute die it goes nowhere (R13). -/
def Device.captureBlock (d : Device) (n : Nat) (xs : List Int) : Device :=
  if !d.on (Reg.AUD_MC_CFG_enable n) || d.aud.stopped.contains (16 + n) || xs.isEmpty || d.flt.lostCompute then d
  else
    let k := ringMs (d.rd (Reg.AUD_MC_CFG_log2_size n))
    let wide := d.on (Reg.AUD_MC_CFG_format n)
    let w := if wide then 4 else 2
    let dev := d.rd (Reg.AUD_MC_DEV_dev n) % 2 ^ (k + 1)
    let held := (dev + 2 ^ (k + 1) - d.rd (Reg.AUD_MC_OWN_own n) % 2 ^ (k + 1)) % 2 ^ (k + 1)
    if !d.streamsUp (d.rd (Reg.AUD_MC_CFG_inst n)) || 2 ^ k < held + xs.length then d.bump (Reg.AUD_MC_STAT_count n)
    else
      let bs := xs.flatMap (fun x => if wide then leBytes 4 (wrapInt 24 x * 256) else leBytes 2 (wrapInt 16 (x / 256)))
      match d.ringWrite (.inst (d.rd (Reg.AUD_MC_CFG_inst n))) (d.addr64 (Reg.AUD_MC_LO n) (Reg.AUD_MC_HI n)) (2 ^ k * w)
          (dev % 2 ^ k * w) bs with
      | (.error _, d) => d.streamFault (16 + n)
      | (.ok (), d) => d.setMcDev n ((dev + xs.length) % 2 ^ (k + 1))

/-! ### The sink chain -/

/-- One biquad section on one sample (R242): the state is x1, x2, y1, y2. What a sum that 64 bits do not hold leaves is open, one value for
one section, state and sample (log entry 117). -/
def biquad (c st : List Int) (x : Int) : Int × List Int :=
  let v := c.getD 0 0 * x + c.getD 1 0 * st.getD 0 0 + c.getD 2 0 * st.getD 1 0 - c.getD 3 0 * st.getD 2 0
    - c.getD 4 0 * st.getD 3 0
  let y := if v < -(2 ^ 63 : Nat) || (2 ^ 63 : Nat) ≤ v then sextNat 32 (Config.openOf 8 (intKey (x :: c ++ st)))
    else clampInt (-(2 ^ 31 : Nat)) ((2 ^ 31 : Nat) - 1) (shrEven v 30)
  (y, [x, st.getD 0 0, y, st.getD 2 0])

/-- The biquad sections in order, each on the output of the one before. -/
def biquads : List (List Int) → List (List Int) → Int → Int × List (List Int)
  | [], ss, x => (x, ss)
  | c :: cs, ss, x =>
    let (y, st) := biquad c (ss.headD []) x
    let (z, rest) := biquads cs (ss.drop 1) y
    (z, st :: rest)

/-- The limiter on one sample (R243): its output and its gain. -/
def limit (w : Word) (l : Nat) (x : Int) : Int × Nat :=
  if !bitOn w.toNat 31 then (x, l)
  else
    let t : Int := (if wbits w 15 0 = 0 then 0x8000 else wbits w 15 0) * 256
    let target : Int := if (x.natAbs : Int) ≤ t then one23 else divEven (t * one23) x.natAbs
    let k := if target < l then wbits w 19 16 else wbits w 23 20
    let l' := (l : Int) + shrEven (target - l) k
    (clampInt (-t) t (shrEven (x * l') 23), l'.toNat)

/-- The parameters of a sink's chain: coefficients of its sections, its delay and its limiter word (R260). -/
structure Chain24 where
  coefs : List (List Int)
  delay : Nat
  lim : Word

/-- The chain that a sink block's words give; a block out of range has no sections and no delay (R260). -/
def chainOf (ws : List Word) : Bool × Chain24 :=
  let w := fun i => ws.getD i 0#32
  let n := wbits (w 0) 2 0
  let dl := wbits (w 1) 8 0
  if 5 < n || 480 < dl then (false, { coefs := [], delay := 0, lim := w 2 })
  else
    (true, { coefs := (List.range n).map (fun i => (List.range 5).map (fun c => (w (4 + 5 * i + c)).toInt)), delay := dl, lim := w 2 })

/-- One sample through a sink's chain (R242): the sample, the chain's state, and whether the limiter held back. -/
def chainStep (c : Chain24) (trim : Int) (st : SinkSt) (acc : Int) : Int × SinkSt × Bool :=
  let (y, ss) := biquads c.coefs st.sections acc
  let hist := (y :: st.delay).take 481
  let (z, l) := limit c.lim st.l (gainMul (hist.getD c.delay 0) trim)
  (clampInt (-one23) (one23 - 1) z, { sections := ss ++ st.sections.drop c.coefs.length, delay := hist, l := l },
    bitOn c.lim.toNat 31 && decide ((l : Int) < one23))

/-- One sample of the guard mixer through the sink's limiter (R359). -/
def guardStep (c : Chain24) (st : SinkSt) (acc : Int) : Int × SinkSt × Bool :=
  let (z, l) := limit c.lim st.l acc
  (clampInt (-one23) (one23 - 1) z, { st with l := l }, bitOn c.lim.toNat 31 && decide ((l : Int) < one23))

/-! ### One block -/

/-- The gain that a node has at sample `j` of a ramp, under its guard (R247, R250). -/
def guardedGain (m : Option Nat) (g : Int) : Int :=
  match m with
  | some t => if g < t then t else g
  | none => g

/-- The nodes of sink `k` that can be heard: source, gain in the old and in the new bank, and guard minimum. -/
def Device.heard (d : Device) (k : Nat) (nodes : List (Nat × Nat)) : List (Nat × Int × Int × Option Nat) :=
  let gs := d.guardsOf k
  let ss := ((nodes.filter (fun e => e.2 == k)).map (·.1) ++ gs.map (·.1)).eraseDups
  ss.map (fun s => (s, nodeGain (d.node24 (1 - d.bank) s k), nodeGain (d.node24 d.bank s k), guardMin gs s))

/-- Sample `j` of a source in a block; a block that holds no more samples reads 0. -/
def srcAt (srcs : List (Nat × List Int)) (s j : Nat) : Int := (tget (fun _ => []) srcs s).getD j 0

/-- The sum of a sink at sample `j` (R241): `r` is the ramp's length and its next sample. -/
def sinkSum (hs : List (Nat × Int × Int × Option Nat)) (srcs : List (Nat × List Int)) (r : Option (Nat × Nat)) (j : Nat) : Int :=
  hs.foldl
    (fun acc h =>
      let g := match r with | some (n, p) => rampGain h.2.1 h.2.2.1 n (p + j) | none => h.2.2.1
      acc + gainMul (srcAt srcs h.1 j) (guardedGain h.2.2.2 g)) 0

/-- The guard mixer's sum (R359): guard nodes only, at their minima, from TDM inputs and generators. -/
def guardSum (hs : List (Nat × Int × Int × Option Nat)) (srcs : List (Nat × List Int)) (j : Nat) : Int :=
  hs.foldl
    (fun acc h =>
      match h.2.2.2 with
      | some m => if h.1 < 96 || (112 ≤ h.1 && h.1 < 120) then acc + gainMul (srcAt srcs h.1 j) m else acc
      | none => acc) 0

/-- `n` samples of a sink: `f` answers each from its number and the state. -/
def sinkRun (f : Nat → SinkSt → Int × SinkSt × Bool) : Nat → Nat → SinkSt → List Int × SinkSt × Nat
  | 0, _, st => ([], st, 0)
  | n + 1, j, st =>
    let (y, st, hit) := f j st
    let (ys, st, c) := sinkRun f n (j + 1) st
    (y :: ys, st, c + b2n hit)

/-- The words of the block that sink `k` plays (R246, R251). -/
def Device.blockOf (d : Device) (k : Nat) : List Word :=
  match d.aud.kept.find? (fun e => e.1 == k) with
  | some e => e.2
  | none => d.sinkWords d.bank k

/-- The trim of sink `k` in the old bank: that of the block it played before the swap. -/
def Device.oldTrimOf (d : Device) (k : Nat) : Int :=
  match d.aud.oldTrim.find? (fun e => e.1 == k) with
  | some e => e.2
  | none => trimGain (d.reg (Reg.AUD_SINKBLK (1 - d.bank) (32 * k)))

/-- The block of sink `k` (R241 to R243): with `bad`, the guard mixer plays (R359). -/
def Device.sinkBlock (d : Device) (k len : Nat) (nodes : List (Nat × Nat)) (srcs : List (Nat × List Int)) (bad : Bool) : Device :=
  let ws := d.blockOf k
  let (ok, c) := chainOf ws
  let d := if ok then d else d.wr Reg.AUD_STATUS_cfg_err 1
  let hs := d.heard k nodes
  let new := trimGain (ws.headD 0#32)
  let kept := d.aud.kept.any (fun e => e.1 == k)
  let r := d.aud.ramp
  let old := d.oldTrimOf k
  let trim := fun j => match r with | some (n, p) => if kept then new else rampGain old new n (p + j) | none => new
  let st := tget (fun _ => SinkSt.reset) d.aud.sinks k
  let (ys, st, hits) :=
    if bad then sinkRun (fun j st => guardStep c st (guardSum hs srcs j)) len 0 st
    else sinkRun (fun j st => chainStep c (trim j) st (sinkSum hs srcs r j)) len 0 st
  { d.bumpBy (Reg.AUD_SINK_STAT_limited k) hits with
    aud := { d.aud with sinks := tset (fun _ => SinkSt.reset) d.aud.sinks k st, block := d.aud.block ++ [(k, ys)] } }

/-- The sinks that the engine computes: those that some node, guard, block or kept state reaches. -/
def Device.liveSinks (d : Device) (nodes : List (Nat × Nat)) : List Nat :=
  (List.range 128).filter (fun k =>
    d.guarded k || (d.on Reg.AUD_CTL_run
      && (nodes.any (fun e => e.2 == k) || (tkeys d.aud.sinks).contains k || (d.listedBlocks d.bank).contains k)))

/-- Whether a port configuration converts (R255). -/
def tdmConverts (w : Word) : Bool :=
  wbits w 29 28 == 1 || wbits w 29 28 == 2 || (bitOn w.toNat 30 && !bitOn w.toNat 27)

/-- Whether port `p` carries slot `i` at its rate (R255). -/
def Device.carries (d : Device) (p i : Nat) : Bool := !(d.rd (Reg.AUD_TDM_CFG_rate p) == 2 && decide (8 ≤ i))

/-- `n` samples that a converter gives (R256): its filter's arithmetic is open, so each is a fresh free value (log entry 118). -/
def Device.converted (d : Device) (n : Nat) : List Int × Device :=
  ((List.range n).map (fun j => sextNat 24 (Config.freeNat (d.draws + j))), { d with draws := d.draws + n })

/-- How many samples a block of `n` has at a port's rate (R255): 48 kHz, 44.1 kHz or 96 kHz. -/
def rateCount (rate n : Nat) : Nat := if rate = 1 then n * 147 / 160 else if rate = 2 then 2 * n else n

/-- The samples of a TDM input slot, source `s`, of a block (R239, R255, R256): `ws` are its slot words, taken one for one by a port that
does not convert. A count that differs from the block's is made up by repeating or dropping the last sample (R398). -/
def Device.tdmInput (d : Device) (s len : Nat) (ws : List Nat) : List Int × Device :=
  let p := s / 16
  if !d.on (Reg.AUD_TDM_STAT_locked p) || !d.carries p (s % 16) then ([], d)
  else if tdmConverts (d.reg (Reg.AUD_TDM_CFG p)) then d.converted len
  else ((List.range len).map (fun j => sextNat 24 ((ws.getD (min j (ws.length - 1)) 0) / 256)), d)

/-- What a TDM port sends of sink `s` in a block (R255, R256, R258): the samples as they are, or as its converter makes them; 0 until a
converting port locks, and nothing while its clock is lost. -/
def Device.tdmOutput (d : Device) (s : Nat) (xs : List Int) : Device :=
  let p := s / 16
  let w := d.reg (Reg.AUD_TDM_CFG p)
  let send := fun (d : Device) (ys : List Int) => d.emit (.samples s (ys.map (fun x => x * 256)))
  if !d.carries p (s % 16) || d.aud.dead.contains p then d
  else if !tdmConverts w then (if d.on (Reg.AUD_TDM_STAT_locked p) then send d xs else d)
  else
    let n := rateCount (wbits w 29 28) xs.length
    if d.on (Reg.AUD_TDM_STAT_locked p) then
      let (ys, d) := d.converted n
      send d ys
    else if bitOn w.toNat 31 && d.rd (Reg.PWR_DOM_state 8) == 2 && !(wbits w 29 28 == 1 && !bitOn w.toNat 30) then
      send d (List.replicate n 0)
    else d

/-- Every source of a block (R237): `ins` are the slot words that arrived, `back` the returns of the block before. -/
def Device.sources (d : Device) (len : Nat) (ins : List (Nat × List Nat)) (back : List (Nat × List Int)) :
    List (Nat × List Int) × Device :=
  let (tdm, d) := (List.range 96).foldl
    (fun (p : List (Nat × List Int) × Device) s =>
      match ins.find? (fun e => e.1 == s) with
      | some e =>
        let (xs, d) := p.2.tdmInput s len e.2
        (p.1 ++ [(s, xs)], d)
      | none => p) ([], d)
  let (ms, d) := (List.range 16).foldl
    (fun (p : List (Nat × List Int) × Device) n =>
      let (xs, d) := p.2.streamBlock n len
      (p.1 ++ [(96 + n, xs)], d)) ([], d)
  let (gs, d) := (List.range 8).foldl
    (fun (p : List (Nat × List Int) × Device) n =>
      let (xs, d) := p.2.genBlock n len
      (p.1 ++ [(112 + n, xs)], d)) ([], d)
  (tdm ++ ms ++ gs ++ (back.filter (fun e => decide (120 ≤ e.1))), d)

/-- The block computed a beat ago reaches its destinations (R242, R244): TDM slots, coils and captures. -/
def Device.playBlock (d : Device) : Device :=
  let b := d.aud.block
  let d := b.foldl (fun d e => if e.1 < 96 then d.tdmOutput e.1 e.2 else d) d
  let d := (List.range 8).foldl (fun d n => d.modHap n (fun x => { x with sound := tget (fun _ => []) b (96 + n) })) d
  (List.range 16).foldl
    (fun d n =>
      d.captureBlock n
        (match b.find? (fun e => e.1 == 104 + n) with | some e => e.2 | none => List.replicate d.aud.len 0)) d

/-- The audio engine at step 0 of an edge (R25, R244): `len` is the length of the beat that has ended, `bad` the guarded sinks
whose two computations differ. -/
def Device.audioEdge (d : Device) (len : Nat) (ins : List (Nat × List Nat)) (bad : List Nat) : Device :=
  let d := match d.aud.ramp with
    | some (n, j) => if n ≤ j then d.endSwap else d
    | none => d
  let d := d.playBlock
  let d := match d.aud.swap with
    | some p => if d.aud.ramp.isNone && decide (p.target ≤ d.beat.sbeat) then d.swapNow p else d
    | none => d
  let back := d.aud.block
  let d := { d with aud := { d.aud with block := [], len := len, kept := d.aud.kept.filter (fun e => d.guarded e.1) } }
  let (srcs, d) := d.sources len ins back
  let nodes := d.listedNodes d.bank ++ (if d.aud.ramp.isSome then d.listedNodes (1 - d.bank) else [])
  let d := (d.liveSinks nodes).foldl (fun d k => d.sinkBlock k len nodes srcs (bad.contains k && d.guarded k)) d
  let d := (bad.filter (fun k => d.guarded k)).foldl (fun d k => d.raise (fault 0x09 4 0xB00000 k)) d
  { d with aud := { d.aud with ramp := d.aud.ramp.map (fun r => (r.1, r.2 + len)) } }

/-- What the audio engine loses when its domain drops (R368): every sink and generator state; register arrays stay. -/
def Device.audioOff (d : Device) : Device :=
  let d := (List.range 8).foldl (fun d n => if (d.gen n).isSome then d.genStop n else d) d
  { d with aud := { d.aud with sinks := [], block := [], len := 0, reqs := [] } }

/-! ### TDM ports -/

/-- AUD_TDM_p_CFG written (R255, R256): an unconverted port runs at once, a converted one when it locks, and a controller at
44.1 kHz never. -/
def Device.tdmConfig (d : Device) (p : Nat) (w : Word) : Device :=
  let d := { d.setReg (Reg.AUD_TDM_CFG p) (w &&& 0xF8000000#32) with aud := { d.aud with dead := d.aud.dead.filter (· != p) } }
  let on := bitOn w.toNat 31
  if on && wbits w 29 28 == 1 && !bitOn w.toNat 30 then (d.wr (Reg.AUD_TDM_STAT_locked p) 0).wr Reg.AUD_STATUS_cfg_err 1
  else d.wr (Reg.AUD_TDM_STAT_locked p) (b2n (on && !tdmConverts w && d.rd (Reg.PWR_DOM_state 8) == 2))

/-- `TDM_CLK_LOST` (R258): target port `p` has seen no BCLK edge for two frames. -/
def execTdmClkLost (p : Nat) (s : State) : Host.Outcome State Fault Refusal :=
  onDev s (fun d =>
    d.when (decide (p < 6) && d.on (Reg.AUD_TDM_CFG_enable p) && d.on (Reg.AUD_TDM_CFG_role p)) (fun d =>
      (({ d with aud := { d.aud with dead := p :: d.aud.dead.filter (· != p) } }.wr (Reg.AUD_TDM_STAT_locked p) 0).wr (Reg.AUD_TDM_STAT_clk_lost p) 1).raise (fault 0x0D 1 0xB00000 p)))

/-- `TDM_LOCK` (R256, R258): an enabled port locks to its clock. -/
def execTdmLock (p : Nat) (s : State) : Host.Outcome State Fault Refusal :=
  onDev s (fun d =>
    d.when (decide (p < 6) && d.on (Reg.AUD_TDM_CFG_enable p) && d.rd (Reg.PWR_DOM_state 8) == 2
        && !(d.rd (Reg.AUD_TDM_CFG_rate p) == 1 && !d.on (Reg.AUD_TDM_CFG_role p)))
      (fun d => { d with aud := { d.aud with dead := d.aud.dead.filter (· != p) } }.wr (Reg.AUD_TDM_STAT_locked p) 1))

/-- `TDM_SLIP` (R256): a synchronous target port repeats or drops a frame. -/
def execTdmSlip (p : Nat) (s : State) : Host.Outcome State Fault Refusal :=
  onDev s (fun d =>
    d.when (decide (p < 6) && d.on (Reg.AUD_TDM_STAT_locked p) && d.on (Reg.AUD_TDM_CFG_role p) && !tdmConverts (d.reg (Reg.AUD_TDM_CFG p)))
      (fun d => d.bump (Reg.AUD_TDM_STAT_slips p)))

end Sys2Proof.Machine
end

