-- ==== Sys2Proof/Machine/Tiles.lean ====
section
/-!
DEFINITION. Tile memory and attachments (R97, R101, R106, R107): the twill layout, pixel formats, the texels of a pass,
depth and stencil tests, blending (R154), tile stores and the partial-render sequence.
-/

namespace Sys2Proof.Machine

open Sys2Proof

/-! ### How engine work fails -/

/-- How a step of the raster engine fails: an access to the item's memory at an address, with the detail of R91 for a
translation fault, a malformed packet (R99), or an illegal instruction (R141). -/
inductive RasErr where
  | mem (e : MemErr) (detail addr : Nat)
  | malformed
  | illegal
  deriving DecidableEq, Repr

/-- A computation of the raster engine over the device. -/
abbrev RasM := ExceptT RasErr (StateM Device)

/-- A read through L2. -/
def rasRead (c i a n detail : Nat) : RasM (List Byte) := fun d =>
  match d.l2Read c i a n with
  | (.ok bs, d) => (.ok bs, d)
  | (.error e, d) => (.error (.mem e detail a), d)

/-- A write through L2. -/
def rasWrite (c i u a : Nat) (bs : List Byte) : RasM Unit := fun d =>
  match d.l2Write c i u a bs with
  | (.ok (), d) => (.ok (), d)
  | (.error e, d) => (.error (.mem e 2 a), d)

/-- A failure unless a condition holds. -/
def rasCheck (b : Bool) (e : RasErr) : RasM Unit := if b then pure () else throw e

/-! ### Layouts -/

/-- The bits of x and y in turn: x[i] at bit 2i, y[i] at bit 2i + 1 (R101). -/
def interleave (x y : Nat) : Nat :=
  (List.range 5).foldl (fun a i => a + b2n (x.testBit i) * 2 ^ (2 * i) + b2n (y.testBit i) * 2 ^ (2 * i + 1)) 0

/-- `a` divided by `b`, rounded up. -/
def ceilDiv (a b : Nat) : Nat := (a + b - 1) / b

/-- The byte offset of texel (x, y) in a twill surface of width `w` (R101). -/
def twillOffset (w bpp x y : Nat) : Nat :=
  if bpp = 16 then (y / 32 * ceilDiv w 64 + x / 64) * 4096 + (interleave (x % 32) (y % 32) + b2n (x.testBit 5) * 1024) * 2
  else (y / 32 * ceilDiv w 32 + x / 32) * 4096 + interleave (x % 32) (y % 32) * 4

/-- The size of a twill surface in whole pages. -/
def twillSize (w h bpp : Nat) : Nat := ceilDiv w (if bpp = 16 then 64 else 32) * ceilDiv h 32 * 4096

/-! ### Pixel formats -/

/-- The fields a, r, g, b of a pixel format as (high bit, low bit) (R171). -/
def pixFields (fmt : Nat) : List (Option (Nat × Nat)) :=
  match fmt with
  | 0 => [none, some (15, 11), some (10, 5), some (4, 0)]
  | 1 => [some (15, 15), some (14, 10), some (9, 5), some (4, 0)]
  | 2 => [some (15, 12), some (11, 8), some (7, 4), some (3, 0)]
  | 3 => [none, some (23, 16), some (15, 8), some (7, 0)]
  | 4 => [none, some (23, 16), some (15, 8), some (7, 0)]
  | 5 => [some (31, 24), some (23, 16), some (15, 8), some (7, 0)]
  | 6 => [some (31, 30), some (29, 20), some (19, 10), some (9, 0)]
  | 7 => [none, some (29, 20), some (19, 10), some (9, 0)]
  | _ => [none, none, none, none]

/-- Bits per pixel of a pixel format (R11). -/
def pixBits (fmt : Nat) : Nat := if fmt ≤ 2 then 16 else if fmt = 3 then 24 else 32

/-- A UNORM component of `n` bits as binary32 (R136). -/
def unormToF (n v : Nat) : Nat := f32.roundQ .near false v (2 ^ n - 1) 0

/-- A binary32 component clamped, scaled and rounded to `n` bits (R154). -/
def fToUnorm (n a : Nat) : Nat :=
  match f32.decode (f32.sat a) with
  | .fin _ m e => (toIntR .near false (m * (2 ^ n - 1)) e).toNat
  | _ => 0

/-- 1.0. -/
def fOne : Nat := 0x3F800000

/-- A pixel's components r, g, b, a as binary32; a missing alpha reads 1.0 (R136). -/
def pixToF (fmt p : Nat) : List Nat :=
  match (pixFields fmt).map (fun f => f.map (fun (h, l) => unormToF (h + 1 - l) (bits p h l))) with
  | [a, r, g, b] => [r.getD 0, g.getD 0, b.getD 0, a.getD fOne]
  | _ => [0, 0, 0, fOne]

/-- Components r, g, b, a packed over a pixel where `mask` has their bit. -/
def fToPix (fmt old mask : Nat) (c : List Nat) : Nat :=
  match pixFields fmt with
  | [a, r, g, b] =>
    ([(r, 0), (g, 1), (b, 2), (a, 3)] : List (Option (Nat × Nat) × Nat)).foldl
      (fun p x => match x.1 with
        | some (h, l) => if mask.testBit x.2 then putBits p h l (fToUnorm (h + 1 - l) (c.getD x.2 0)) else p
        | none => p) old
  | _ => old

/-- Components quantised to a format; one that the format lacks stays as it is, clamped (R154). -/
def quantise (fmt : Nat) (c : List Nat) : List Nat :=
  match pixFields fmt with
  | [a, r, g, b] =>
    ([(r, 0), (g, 1), (b, 2), (a, 3)] : List (Option (Nat × Nat) × Nat)).map
      (fun x => match x.1 with
        | some (h, l) => unormToF (h + 1 - l) (fToUnorm (h + 1 - l) (c.getD x.2 0))
        | none => f32.sat (c.getD x.2 0))
  | _ => c

/-! ### Depth and stencil -/

/-- Bits per texel of a depth format: 0 D16, 1 D24S8, 2 D32F. -/
def depthBits (fmt : Nat) : Nat := if fmt = 0 then 16 else 32

/-- A binary32 depth in a depth format. -/
def depthCode (fmt : Nat) (z : Word) : Nat :=
  if fmt = 0 then fToUnorm 16 z.toNat else if fmt = 1 then fToUnorm 24 z.toNat else z.toNat

/-- VkCompareOp: whether a passes against b, with `lt` and `eq` telling their order. -/
def compareOp (op : Nat) (lt eq : Bool) : Bool :=
  match op with
  | 0 => false
  | 1 => lt
  | 2 => eq
  | 3 => lt || eq
  | 4 => !lt && !eq
  | 5 => !eq
  | 6 => !lt
  | _ => true

/-- Whether a fragment's depth passes against the stored one. -/
def depthPass (fmt op new old : Nat) : Bool :=
  if fmt = 2 then compareOp op (f32.lt new old) (f32.eq new old)
  else
    let o := if fmt = 1 then old % 2 ^ 24 else old
    compareOp op (decide (new < o)) (new == o)

/-! ### Blending -/

/-- A blend factor in VkBlendFactor order for component `k` of (r, g, b, a). -/
def blendFactor (f k : Nat) (s t : List Nat) : Nat :=
  let at' := fun (c : List Nat) (i : Nat) => c.getD i 0
  let inv := fun x => f32.addR .near fOne (f32.negate x)
  match f with
  | 0 => 0
  | 1 => fOne
  | 2 => at' s k
  | 3 => inv (at' s k)
  | 4 => at' t k
  | 5 => inv (at' t k)
  | 6 => at' s 3
  | 7 => inv (at' s 3)
  | 8 => at' t 3
  | 9 => inv (at' t 3)
  | 14 => if k = 3 then fOne else f32.minR (at' s 3) (inv (at' t 3))
  | _ => (Config.blendConst (f * 4 + k)).toNat

/-- A blend operation in VkBlendOp order on source and destination components with their factors. -/
def blendOp (op s sf t tf : Nat) : Nat :=
  let a := f32.mulR .near s sf
  let b := f32.mulR .near t tf
  match op with
  | 0 => f32.addR .near a b
  | 1 => f32.addR .near a (f32.negate b)
  | 2 => f32.addR .near b (f32.negate a)
  | 3 => f32.minR s t
  | _ => f32.maxR s t

/-- The components that the blend word `w` makes of a source and a destination (R98). -/
def blendColour (w : Nat) (s t : List Nat) : List Nat :=
  if !bitOn w 4 then s
  else
    (List.range 4).map (fun k =>
      let (op, sf, tf) := if k = 3 then (bits w 30 28, bits w 22 18, bits w 27 23) else (bits w 17 15, bits w 9 5, bits w 14 10)
      blendOp op (s.getD k 0) (blendFactor sf k s t) (t.getD k 0) (blendFactor tf k s t))

/-! ### Texels of a pass -/

/-- The item context of engine work: its channel, instance and identity. -/
structure RasCtx where
  c : Nat
  i : Nat
  u : Nat

/-- Bits per texel of an attachment. -/
def Attach.bpp (a : Attach) : Nat := if a.idx = 4 then depthBits a.fmt else pixBits a.fmt

/-- Tiles in a row of a pass. -/
def PassState.tilesX (p : PassState) : Nat := ceilDiv p.width 32

/-- The tile of a pixel. -/
def PassState.tileOf (p : PassState) (x y : Nat) : Nat := y / 32 * p.tilesX + x / 32

/-- The number of tiles of a pass. -/
def PassState.tiles (p : PassState) : Nat := p.tilesX * ceilDiv p.height 32

/-- The number under which a texel of tile memory is kept. -/
def texKey (att smp x y : Nat) : Nat := ((att * 4 + smp) * 16384 + y) * 16384 + x

/-- The address of a texel of an attachment, or of its spill surface (R101). -/
def texAddr (p : PassState) (a : Attach) (base smp x y : Nat) : Nat :=
  base + smp * twillSize p.width p.height a.bpp + twillOffset p.width a.bpp x y

/-- Where step 3 of the partial-render sequence stores an attachment (R107). -/
def Attach.flushTo (a : Attach) : Nat := if a.discard then a.spill else a.addr

/-- A texel that tile memory does not hold yet (R98, R107): reloaded when its tile was flushed, else by its load op. What a
DONT_CARE load gives is left open. -/
def texBase (k : RasCtx) (p : PassState) (a : Attach) (smp x y : Nat) : RasM Nat := do
  if p.flushed.contains (p.tileOf x y) then
    let bs ← rasRead k.c k.i (texAddr p a a.flushTo smp x y) (a.bpp / 8) 1
    pure (leNat bs)
  else if a.load = 0 then
    let bs ← rasRead k.c k.i (texAddr p a a.addr smp x y) (a.bpp / 8) 1
    pure (leNat bs)
  else if a.load = 1 then pure (a.clear % 2 ^ a.bpp)
  else pure (Config.freeNat (2 ^ 64 + k.u * 2 ^ 40 + texKey a.idx smp x y) % 2 ^ a.bpp)

/-- A texel as tile memory holds it. -/
def texRead (k : RasCtx) (p : PassState) (a : Attach) (smp x y : Nat) : RasM Nat :=
  match p.texels.find? (fun e => e.1 == texKey a.idx smp x y) with
  | some e => pure e.2
  | none => texBase k p a smp x y

/-- A texel written into tile memory. -/
def PassState.putTexel (p : PassState) (a : Attach) (smp x y v : Nat) : PassState :=
  { p with texels := tput p.texels (texKey a.idx smp x y) v }

/-- An attachment of a pass by its index. -/
def PassState.att (p : PassState) (idx : Nat) : Option Attach := p.atts.find? (fun a => a.idx == idx)

/-! ### Fragments -/

/-- The depth and stencil tests of one sample (R97, R98, R134): whether it passes, and the pass after the writes that the
depth and stencil words permit. `words` is the STATE packet. -/
def testSample (k : RasCtx) (p : PassState) (words : List Byte) (smp x y : Nat) (z : Word) : RasM (Bool × PassState) := do
  match p.att 4 with
  | none => pure (true, p)
  | some a =>
    let dw := leAt words 0x24 4
    let sw := leAt words 0x28 4
    let old ← texRead k p a smp x y
    let new := depthCode a.fmt z
    let sOk := !bitOn dw 5 || a.fmt != 1 ||
      (let ref := bits sw 7 0 &&& bits sw 15 8
       let st := bits old 31 24 &&& bits sw 15 8
       compareOp (bits sw 26 24) (decide (ref < st)) (ref == st))
    let dOk := !bitOn dw 4 || depthPass a.fmt (bits dw 2 0) new old
    if !(sOk && dOk) then pure (false, p)
    else
      let v := if bitOn dw 3 then (if a.fmt = 1 then putBits old 23 0 new else new) else old
      let v :=
        if bitOn dw 5 && a.fmt == 1 then
          let m := bits sw 23 16
          putBits v 31 24 ((bits old 31 24 &&& (255 - m)) ||| (bits sw 7 0 &&& m))
        else v
      pure (true, p.putTexel a smp x y v)

/-- One sample's colour outputs blended into the attachments (R154). `outs` gives, for an attachment index, the components
r, g, b, a that the lane exported. -/
def blendSample (k : RasCtx) (p : PassState) (words : List Byte) (smp x y : Nat) (outs : List (Nat × List Nat)) :
    RasM PassState :=
  outs.foldlM
    (fun p o => do
      match p.att o.1 with
      | none => pure p
      | some a =>
        let w := leAt words (0x2C + 4 * o.1) 4
        let old ← texRead k p a smp x y
        let s := quantise a.fmt o.2
        let c := blendColour w s (pixToF a.fmt old)
        pure (p.putTexel a smp x y (fToPix a.fmt old (bits w 3 0) c))) p

/-- The samples of a pixel that are covered and exist. -/
def PassState.covered (p : PassState) (mask : Nat) : List Nat := onesBelow (2 ^ p.samples) mask

/-- The depth and stencil tests of the covered samples of a fragment (R134): the samples that pass, and the pass after the writes. -/
def testFrag (k : RasCtx) (words : List Byte) (p : PassState) (f : Frag) : RasM (Nat × PassState) :=
  (p.covered f.mask).foldlM
    (fun (acc : Nat × PassState) smp => do
      let (ok, p) ← testSample k acc.2 words smp f.x f.y f.depth
      pure (if ok then acc.1 + 2 ^ smp else acc.1, p)) (0, p)

/-! ### Tile stores -/

/-- The pixels of a tile inside the pass's area. -/
def PassState.tilePixels (p : PassState) (t : Nat) : List (Nat × Nat) :=
  let x0 := t % p.tilesX * 32
  let y0 := t / p.tilesX * 32
  (List.range (min 32 (p.height - y0))).flatMap (fun j => (List.range (min 32 (p.width - x0))).map (fun i => (x0 + i, y0 + j)))

/-- One attachment of a tile stored at `base` (R101, R107). -/
def storeAtt (k : RasCtx) (p : PassState) (t : Nat) (a : Attach) (base : Nat) : RasM Unit :=
  (List.range (2 ^ p.samples)).forM (fun smp =>
    (p.tilePixels t).forM (fun (x, y) => do
      let v ← texRead k p a smp x y
      rasWrite k.c k.i k.u (texAddr p a base smp x y) (leBytes (a.bpp / 8) v)))

/-- The texels of a tile leave tile memory. -/
def PassState.forget (p : PassState) (t : Nat) : PassState :=
  { p with texels := p.texels.filter (fun e => p.tileOf (e.1 % 16384) (e.1 / 16384 % 16384) != t) }

/-- Step 2 and 3 of R107 for one tile: every attachment is stored, to its attachment or its spill address. -/
def flushTile (k : RasCtx) (p : PassState) (t : Nat) : RasM PassState := do
  p.atts.forM (fun a => storeAtt k p t a a.flushTo)
  let p := p.forget t
  pure { p with
    flushed := if p.flushed.contains t then p.flushed else t :: p.flushed
    rendered := if p.rendered.contains t then p.rendered else t :: p.rendered }

/-- The flushed map of an item's pass written to its save area, one bit for each tile (R107, R109); the context has none (R112). -/
def putFlushed (k : RasCtx) (p : PassState) : RasM Unit := fun d =>
  match (d.item k.u).bind (·.slot) with
  | none => (.ok (), d)
  | some sl =>
    let a := d.slotBase sl + 512
    match d.poolWrite k.c k.u a ((List.range (ceilDiv p.tiles 8)).map (Config.poolByte (3 :: p.flushed))) with
    | (.ok (), d) => (.ok (), d)
    | (.error e, d) => (.error (.mem e 2 a), d)

/-- The partial-render sequence (R107). -/
def partialRender (k : RasCtx) (p : PassState) : RasM PassState := do
  let p ← (p.lists.map (·.1)).foldlM (fun p t => flushTile k p t) p
  putFlushed k p
  modify (fun d =>
    (d.modItem k.u (fun x => { x with ovf := x.ovf + 1 })).count (Reg.RAS_OVF_TOTAL_count k.c))
  pure { p with blocks := 0, lists := [] }

/-- A tile rendered and stored at PASS_END (R107): STORE attachments are written. -/
def endTile (k : RasCtx) (p : PassState) (t : Nat) : RasM PassState := do
  (p.atts.filter (fun a => !a.discard)).forM (fun a => storeAtt k p t a a.addr)
  let p := p.forget t
  pure { p with
    flushed := p.flushed.filter (· != t)
    rendered := if p.rendered.contains t then p.rendered else t :: p.rendered }

/-- The end of a pass (R107): tiles with lists, or with fragments in tile memory, are rendered and stored; a tile never
rendered is stored where it loads CLEAR and stores. -/
def endPass (k : RasCtx) (p : PassState) : RasM Unit := do
  let p ← ((List.range p.tiles).filter (fun t =>
    p.lists.any (fun l => l.1 == t) || p.texels.any (fun e => p.tileOf (e.1 % 16384) (e.1 / 16384 % 16384) == t))).foldlM
      (fun p t => endTile k p t) p
  ((List.range p.tiles).filter (fun t => !p.rendered.contains t)).forM (fun t =>
    (p.atts.filter (fun a => a.load == 1 && !a.discard)).forM (fun a => storeAtt k p t a a.addr))

end Sys2Proof.Machine
end

