-- ==== Sys2Proof/Machine/Layers.lean ====
section
/-!
DEFINITION. Layer register sets (R157 to R160), culling, the overlap budget and withholding (R164, R168 to R170, R436), and
the two blends: the 12-bit blend of R171 to R173 and the 8-bit blend of the UDC-4 (R435).
-/

namespace Sys2Proof.Machine

open Sys2Proof

/-! ### Sets -/

/-- Head `h` beyond its registers. -/
def Device.head (d : Device) (h : Nat) : Head := tget (fun _ => Head.reset) d.disp.heads h

/-- Head `h` replaced. -/
def Device.setHead (d : Device) (h : Nat) (x : Head) : Device :=
  { d with disp := { d.disp with heads := tset (fun _ => Head.reset) d.disp.heads h x } }

/-- Head `h` changed by `f`. -/
def Device.modHead (d : Device) (h : Nat) (f : Head → Head) : Device := d.setHead h (f (d.head h))

/-- Whether head `h` follows the UDC-4 rules (R156, R435). -/
def Device.legacyHead (d : Device) (h : Nat) : Bool := d.mode != .native && decide (h ≤ 3)

/-- A layer register set read as fields (R158). -/
structure Layer where
  enable : Bool
  solid : Bool
  linear : Bool
  mode : Nat
  alpha : Nat
  fmt : Nat
  x : Nat
  y : Nat
  w : Nat
  h : Nat
  srcX : Nat
  srcY : Nat
  addr : Nat
  pitch : Nat
  colour : Nat

/-- A set of eight words read as a layer. -/
def layerOf (ws : List Word) : Layer :=
  let f := fun n => (ws.getD n 0#32).toNat
  { enable := bitOn (f 0) 0, solid := bitOn (f 0) 8, linear := bitOn (f 0) 9, mode := bits (f 0) 11 10,
    alpha := bits (f 0) 31 20, fmt := bits (f 0) 7 4, x := bits (f 1) 13 0, y := bits (f 1) 29 16, w := bits (f 2) 13 0,
    h := bits (f 2) 29 16, srcX := bits (f 3) 13 0, srcY := bits (f 3) 29 16, addr := f 5 * 2 ^ 32 + f 4 / 64 * 64,
    pitch := bits (f 6) 15 0, colour := f 7 }

/-- The reserved bits of the eight words (R158). -/
def layerReserved : List Nat := [0x000FF00E, 0xC000C000, 0xC000C000, 0xC000C000, 0x3F, 0, 0xFFFF0000, 0]

/-- Whether a reserved field of the checked words is not zero; a solid set's SRC, address and pitch are not checked. -/
def reservedSet (ws : List Word) (solid : Bool) : Bool :=
  (layerReserved.zipIdx).any (fun (m, n) =>
    ((ws.getD n 0#32).toNat &&& m) != 0 && !(solid && [3, 4, 6].contains n))

/-- Whether a set is invalid (R159). -/
def layerInvalid (ws : List Word) : Bool :=
  let l := layerOf ws
  l.enable &&
    (l.mode == 3 || l.w == 0 || l.h == 0 || decide (8192 < l.w) || decide (8192 < l.h) || decide (8191 < l.x)
      || decide (8191 < l.y) || reservedSet ws l.solid
      || (!l.solid && (decide (8 ≤ l.fmt)
        || (if l.linear then l.pitch % 64 != 0 || decide (l.pitch < (l.srcX + l.w) * (pixBits l.fmt / 8))
            else l.fmt == 3 || l.addr % 4096 != 0 || decide (l.pitch < l.srcX + l.w)))))

/-- The eight words of the active copy of layer `k` of head `h`; 16 is G. -/
def Device.activeSet (d : Device) (h k : Nat) : List Word :=
  (List.range 8).map (fun j => d.reg (Reg.CMP_ACTIVE_CTL h k + 4 * j))

/-- The eight words of the shadow copy of layer `k` of head `h`. -/
def Device.shadowSet (d : Device) (h k : Nat) : List Word :=
  (List.range 8).map (fun j => d.reg (Reg.CMP_LAYER_CTL h k + 4 * j))

/-- Words written to consecutive registers from `a`. -/
def Device.setRegs (d : Device) (a : Nat) : List Word → Device
  | [] => d
  | w :: ws => (d.setReg a w).setRegs (a + 4) ws

/-- The owner of layer `k` of L0 to L15 in effect; none when its entry is not valid (R160). -/
def Device.layerOwner (d : Device) (h k : Nat) : Option Nat :=
  let b := wbits (d.actReg (Reg.CMP_OWN h (k / 4))) (8 * (k % 4) + 7) (8 * (k % 4))
  if bitOn b 7 then some (b % 32) else none

/-- The enclave of G in effect (R160). -/
def Device.gEnclave (d : Device) (h : Nat) : Option Nat :=
  let w := d.actReg (Reg.CMP_GOWN h)
  if bitOn w.toNat 4 then some (wbits w 3 0) else none

/-- Whether a layer has an owner in effect. -/
def Device.owned (d : Device) (h k : Nat) : Bool := if k = 16 then (d.gEnclave h).isSome else (d.layerOwner h k).isSome

/-- The address space of a layer's buffer (R160, R428). -/
def Device.layerSpace (d : Device) (h k : Nat) : Option Space :=
  if k = 16 then (d.gEnclave h).map .enclave
  else if d.legacyHead h then some .legacy
  else (d.layerOwner h k).map .inst

/-- The active width and height of head `h`. -/
def Device.activeSize (d : Device) (h : Nat) : Nat × Nat :=
  (d.rd (Reg.HEAD_ACTIVE_HTIME_hactive h), d.rd (Reg.HEAD_ACTIVE_VTIME_vactive h))

/-! ### Culling and the budget -/

/-- A layer that takes part, with its number, the UDC-4 settings of a legacy plane, and whether it is declared opaque. -/
structure Shown where
  k : Nat
  l : Layer
  plane : Option (Word × Word)
  opaque' : Bool

/-- Whether a set is declared opaque (R168, R436). -/
def declaredOpaque (l : Layer) (plane : Option (Word × Word)) : Bool :=
  match plane with
  | some (ctl, _) =>
    wbits ctl 7 0 == 0xFF && (match wbits ctl 27 26 with
      | 1 => decide (wbits ctl 30 28 = 0) || decide (wbits ctl 30 28 = 3) || decide (wbits ctl 30 28 = 4)
      | 2 => false
      | _ => true)
  | none =>
    l.alpha == 0xFFF && (l.mode == 0
      || (if l.solid then bits l.colour 31 30 == 3 else [0, 3, 4, 7].contains l.fmt))

/-- Whether a layer covers the pixels x0 to x1 − 1 of line `y`. -/
def Layer.covers (l : Layer) (x0 x1 y : Nat) : Bool :=
  decide (l.x ≤ x0) && decide (x1 ≤ l.x + l.w) && decide (l.y ≤ y) && decide (y < l.y + l.h)

/-- Whether a span of layer `k` is culled on a line (R168): a higher layer that is declared opaque covers it whole. -/
def culled (ls : List Shown) (k x0 x1 y : Nat) : Bool :=
  ls.any (fun s => decide (k < s.k) && s.opaque' && s.l.covers x0 x1 y)

/-- The pixels of a layer in the pixels x0 to x1 − 1 of line `y`. -/
def Layer.within (l : Layer) (x0 x1 y : Nat) : Nat :=
  if l.y ≤ y && decide (y < l.y + l.h) then min x1 (l.x + l.w) - max x0 l.x else 0

/-- The pixels that a line fetches (R170). -/
def fetchCount (ls : List Shown) (width y : Nat) : Nat :=
  ((List.range (ceilDiv width 16)).map (fun n =>
    let x0 := 16 * n
    let x1 := min width (x0 + 16)
    ((ls.filter (fun s => !s.l.solid && !culled ls s.k x0 x1 y)).map (fun s => s.l.within x0 x1 y)).sum)).sum

/-- The lines at which the fetched count can change. -/
def changeLines (ls : List Shown) (height : Nat) : List Nat :=
  ((0 :: ls.flatMap (fun s => [s.l.y, s.l.y + s.l.h])).filter (· < height)).eraseDups

/-- The largest fetched pixel count of a set on any line (R170). -/
def worstFetch (ls : List Shown) (width height : Nat) : Nat :=
  ((changeLines ls height).map (fetchCount ls width)).foldl max 0

/-- The limit of R170 on head `h` (R436). -/
def Device.fetchLimit (d : Device) (h width : Nat) : Nat := (if d.legacyHead h then 5 else 3) * width

/-- The layers of a head that take part, from their sets: enabled, with an owner, not faulted, and not in `hidden`. A legacy
head has L0 to L3 and G. -/
def Device.shown (d : Device) (h : Nat) (set : Nat → List Word) (planes : List (Nat × (Word × Word))) (hidden : Nat) :
    List Shown :=
  (List.range 17).filterMap (fun k =>
    let l := layerOf (set k)
    let plane := if d.legacyHead h && decide (k < 4) then (planes.find? (fun p => p.1 == k)).map (·.2) else none
    if l.enable && (d.layerSpace h k).isSome && !hidden.testBit k && !(d.legacyHead h && decide (4 ≤ k) && decide (k < 16))
    then some { k := k, l := l, plane := plane, opaque' := declaredOpaque l plane } else none)

/-- Layers withheld from L15 downward until the set fits (R164). -/
def withholdFrom (width height limit : Nat) (ls : List Shown) : Nat → List Nat → List Nat
  | 0, acc => acc
  | k + 1, acc =>
    let now := ls.filter (fun s => !acc.contains s.k)
    if worstFetch now width height ≤ limit then acc
    else withholdFrom width height limit ls k (if now.any (fun s => s.k == k) then k :: acc else acc)

/-! ### Blending -/

/-- An `n`-bit field repeated to 12 bits (R172). -/
def rep12 (c n : Nat) : Nat :=
  let go := fun (s : Nat × Nat) (_ : Nat) =>
    if s.2 = 0 then s
    else if n ≤ s.2 then (s.1 ||| (c <<< (s.2 - n)), s.2 - n)
    else (s.1 ||| (c >>> (n - s.2)), 0)
  ((List.range 12).foldl go (0, 12)).1

/-- The product of two 12-bit fractions, rounded to nearest (R172). -/
def mul12 (p q : Nat) : Nat :=
  let t := p * q + 2048
  (t + t / 4096) / 4096

/-- The components a, r, g, b of a pixel by a widening of its fields; a format without alpha has `full` (R171, R435). -/
def expandPix (widen : Nat → Nat → Nat) (full fmt p : Nat) : List Nat :=
  ((pixFields fmt).zipIdx).map (fun (f, i) => match f with
    | some (hi, lo) => widen (bits p hi lo) (hi + 1 - lo)
    | none => if i = 0 then full else 0)

/-- One layer over the 12-bit destination r, g, b (R172). -/
def blend12 (l : Layer) (fmt p : Nat) (dst : List Nat) : List Nat :=
  match expandPix rep12 4095 fmt p with
  | a :: cs =>
    let a := if l.mode = 0 then 4095 else a
    let ap := mul12 a l.alpha
    let f := if l.mode = 1 then l.alpha else ap
    (cs.zip dst).map (fun (c, t) => min 4095 (mul12 c f + mul12 t (4095 - ap)))
  | [] => dst

/-- An `n`-bit field in 8 bits (R435). -/
def exp8 (c n : Nat) : Nat :=
  if 8 ≤ n then c >>> (n - 8)
  else if n = 1 then c * 255
  else if n = 2 then c * 85
  else if n = 4 then c * 17
  else (c <<< (8 - n)) ||| (c >>> (2 * n - 8))

/-- One layer over the 8-bit destination r, g, b (R435). -/
def blend8 (s : Shown) (fmt p : Nat) (dst : List Nat) : List Nat :=
  match expandPix exp8 255 fmt p with
  | a :: cs =>
    let skip := match s.plane with
      | some (ctl, key) => wbits ctl 27 26 == 2 && cs == [wbits key 23 16, wbits key 15 8, wbits key 7 0]
      | none => false
    if skip then dst
    else
      let (a, ga) := match s.plane with
        | some (ctl, _) => (if wbits ctl 27 26 = 1 then a else 255, wbits ctl 7 0)
        | none => (if s.l.mode = 0 then 255 else a, s.l.alpha / 16)
      let a := a * (ga + 1) / 256
      let w := a + a / 128
      (cs.zip dst).map (fun (c, t) =>
        if s.plane.isNone && s.l.mode == 1 then min 255 (c * (ga + 1) / 256 + t * (256 - w) / 256)
        else (c * w + t * (256 - w)) / 256)
  | [] => dst

/-- The 30-bit word of R173 from its components. -/
def outWord (cs : List Nat) : Nat := cs.getD 0 0 * 2 ^ 20 + cs.getD 1 0 * 2 ^ 10 + cs.getD 2 0

/-- The 10-bit components that a blended destination gives: of the 12-bit blend, or of the 8-bit one (R172, R435). -/
def outComps (legacy : Bool) (dst : List Nat) : List Nat :=
  dst.map (fun c => if legacy then (c <<< 2) ||| (c >>> 6) else c / 4)

/-- The byte offset of texel (x, y) of a layer's buffer (R158). -/
def Layer.offset (l : Layer) (x y : Nat) : Nat :=
  if l.linear then y * l.pitch + x * (pixBits l.fmt / 8) else twillOffset l.pitch (pixBits l.fmt) x y

end Sys2Proof.Machine
end

