-- ==== Sys2Proof/Machine/Heads.lean ====
section
/-!
DEFINITION. Heads (R181 to R190, R195 to R197): the timing set, positions in time, commits and their checks (R161 to R167),
the latch line, and retire records (R175 to R177).
-/

namespace Sys2Proof.Machine

open Sys2Proof

/-! ### Timing sets -/

/-- A timing set read as fields (R182). -/
structure Timing where
  hactive : Nat
  htotal : Nat
  hfront : Nat
  hsync : Nat
  vactive : Nat
  vtotal : Nat
  vfront : Nat
  vsync : Nat
  khz : Nat
  latch : Nat
  vrr : Bool
  vmax : Nat
  enable : Bool
  bpc : Nat

/-- Eight words read as a timing set; the latch line 0 means vactive. -/
def timingOf (ws : List Word) : Timing :=
  let f := fun n => (ws.getD n 0#32).toNat
  let va := bits (f 2) 13 0
  { hactive := bits (f 0) 13 0, htotal := bits (f 0) 29 16, hfront := bits (f 1) 13 0, hsync := bits (f 1) 29 16,
    vactive := va, vtotal := bits (f 2) 29 16, vfront := bits (f 3) 13 0, vsync := bits (f 3) 29 16, khz := bits (f 4) 21 0,
    latch := if bits (f 5) 13 0 = 0 then va else bits (f 5) 13 0, vrr := bitOn (f 6) 31, vmax := bits (f 6) 13 0,
    enable := bitOn (f 7) 31, bpc := bits (f 7) 5 4 }

/-- The reserved bits of a timing set (R182). -/
def timingReserved : List Nat :=
  [0xC000C000, 0x4000C000, 0xC000C000, 0x4000C000, 0xFFC00000, 0xFFFFC000, 0x7FFFC000, 0x7FFFFFCF]

/-- The shadow timing set of head `h`. -/
def Device.shadowTiming (d : Device) (h : Nat) : List Word := (List.range 8).map (fun j => d.reg (Reg.HEAD_HTIME h + 4 * j))

/-- The active timing set of head `h`. -/
def Device.activeTiming (d : Device) (h : Nat) : List Word :=
  (List.range 8).map (fun j => d.reg (Reg.HEAD_ACTIVE_HTIME h + 4 * j))

/-- Whether the generator of head `h` runs. -/
def Device.running (d : Device) (h : Nat) : Bool := d.on (Reg.HEAD_STATUS_running h)

/-- The pixel clocks of the running heads other than `h`. -/
def Device.otherKhz (d : Device) (h : Nat) : Nat :=
  (((List.range 8).filter (fun k => k != h && d.running k)).map (fun k => (timingOf (d.activeTiming k)).khz)).sum

/-- The code of the first condition of R183 that a timing set of head `h` fails, or 0. -/
def Device.timingCode (d : Device) (h : Nat) (ws : List Word) : Nat :=
  let t := timingOf ws
  if t.hactive < 64 || t.vactive < 64 || 7680 < t.hactive || 4320 < t.vactive then 1
  else if t.hfront < 8 || t.hsync < 8 || t.htotal < t.hactive + t.hfront + t.hsync + 16 then 2
  else if t.vfront < 1 || t.vsync < 1 || t.vtotal < t.vactive + t.vfront + t.vsync + 1 then 3
  else if t.khz < 25000 || 2200000 < t.khz then 4
  else if 8000000 < d.otherKhz h + t.khz then 5
  else if t.latch < t.vactive || (if t.vrr then t.vactive + t.vfront - 1 else t.vtotal - 2) < t.latch then 6
  else if t.vrr && decide (t.vmax < t.vtotal) then 7
  else if (ws.zip timingReserved).any (fun p => (p.1.toNat &&& p.2) != 0) then 8
  else 0

/-! ### Positions in time -/

/-- The ticks of `n` lines of a timing, to the nearest tick. -/
def lineTicks (t : Timing) (n : Nat) : Nat := (2 * n * t.htotal * 800000 + t.khz) / (2 * max 1 t.khz)

/-- The horizon of head `h` in effect (R185). -/
def Device.horizon (d : Device) (h : Nat) : Nat := max 1 (d.rdAct (Reg.HEAD_HORIZON_lines h))

/-- The lines from the last latch line of a head to its next one, with `extra` lines of Adaptive-Sync. -/
def Device.frameLines (d : Device) (h extra : Nat) : Nat :=
  let x := d.head h
  let t := timingOf (d.activeTiming h)
  ((t.vtotal - x.pos + t.latch + extra : Nat) + x.adjust).toNat

/-- The clock at which a head reaches a line `n` lines after its last latch line. -/
def Device.lineAt (d : Device) (h n : Nat) : Nat :=
  (d.head h).base + lineTicks (timingOf (d.activeTiming h)) ((d.head h).lines + n)

/-- The clock of the next latch line. -/
def Device.latchAt (d : Device) (h : Nat) : Nat := d.lineAt h (d.frameLines h (d.head h).extra)

/-- The clock of the next cut-off (R184). -/
def Device.cutoffAt (d : Device) (h : Nat) : Nat := d.lineAt h (d.frameLines h (d.head h).extra - d.horizon h)

/-- The line that a running head sends (R203). What frame synchronisation adds to the back porch, or takes from it, comes before line 0;
the lines that Adaptive-Sync inserts come before the cut-off line, whose number they repeat (log entry 55). -/
def Device.headLine (d : Device) (h : Nat) : Nat :=
  let x := d.head h
  let t := timingOf (d.activeTiming h)
  let e := d.beat.clock - x.base
  let n := e * t.khz / max 1 (t.htotal * 800000)
  let n := if lineTicks t (n + 1) ≤ e then n + 1 else n
  let k := x.pos + (n - x.lines)
  let top := ((t.vtotal : Int) + x.adjust).toNat
  let at' := t.latch - d.horizon h
  if k < top then k
  else if k - top ≤ at' then k - top
  else max at' (k - top - x.extra)

/-- The clock at which a running head reaches line vactive of the frame that it sends (R184, R192). -/
def Device.vactiveAt (d : Device) (h : Nat) : Nat :=
  let t := timingOf (d.activeTiming h)
  d.lineAt h (d.frameLines h 0 - (t.latch - t.vactive))

/-- The lines that Adaptive-Sync can add to a frame (R187). -/
def Device.vrrRoom (d : Device) (h : Nat) : Nat :=
  let t := timingOf (d.activeTiming h)
  if t.vrr then t.vmax - t.vtotal else 0

/-- The next latch line and cut-off as R38 captures them: in Adaptive-Sync those of the longest frame that the refresh range permits
(R39); a cut-off that has passed is the one of the frame after. -/
def Device.headPositions (d : Device) (h : Nat) : Nat × Nat :=
  let x := d.head h
  let extra := max x.extra (d.vrrRoom h)
  let n := d.frameLines h extra
  let t := timingOf (d.activeTiming h)
  (d.lineAt h n, d.lineAt h (if x.cut then n + t.vtotal + d.vrrRoom h - d.horizon h else n - d.horizon h))

/-! ### Events -/

/-- Event `b` of head `h`: recorded, and signalled when it is enabled and routed (R203, R294). -/
def Device.headEvent (d : Device) (h b : Nat) : Device :=
  let f := Reg.HEAD_EVENT_events h
  let d := d.wr f (d.rd f ||| 2 ^ b)
  if (d.rd (Reg.HEAD_EVENT_EN_enable h)).testBit b then
    match tget (fun _ => none) d.headVec h with
    | some i => d.signal i (4 + h)
    | none => d
  else d

/-- A timing set that does not apply (R183, R433). -/
def Device.timingBad (d : Device) (h : Nat) : Device :=
  let d := if d.legacyHead h then d.wr (Reg.UDC_H_CTL_timing_bad h) 1 else d
  ((d.wr (Reg.HEAD_STATUS_timing_bad h) 1).headEvent h 4).raise (fault 0x0C 2 (chanBase (h / 2) 3) h)

/-! ### Compositors -/

/-- The compositor of channel `c`. -/
def Device.cmp (d : Device) (c : Nat) : Cmp := tget (fun _ => Cmp.reset) d.disp.cmps c

/-- The compositor of channel `c` changed by `f`. -/
def Device.modCmp (d : Device) (c : Nat) (f : Cmp → Cmp) : Device :=
  { d with disp := { d.disp with cmps := tset (fun _ => Cmp.reset) d.disp.cmps c (f (d.cmp c)) } }

/-- The shared retire entries in use on channel `c` (R177). -/
def Device.sharedUsed (d : Device) (c : Nat) : Nat :=
  ((d.cmp c).recs.filter (fun r => !r.own)).length
    + (([2 * c, 2 * c + 1].flatMap (fun h => (d.head h).coming ++ (d.head h).after)).filter (·.res)).length

/-- CMP_STATUS.reserved follows the entries in use. -/
def Device.showReserved (d : Device) (c : Nat) : Device := d.wr (Reg.CMP_STATUS_reserved c) (d.sharedUsed c)

/-! ### Commits -/

/-- The groups of a mask. -/
def groupsOf (mask : Nat) : List Nat := onesBelow 18 mask

/-- The shadow copies of the groups of a commit (R161); a commit of the SSQ that names G carries the rectangle sets (R191).
-/
def Device.shadowCopies (d : Device) (h sq mask : Nat) : List (Nat × List Word) :=
  (groupsOf mask).map (fun g => (g, if g = 0 then d.shadowTiming h else d.shadowSet h (g - 1)))
    ++ (if sq = 4 && mask.testBit 17 then
        [(18, (List.range 64).map (fun n => d.reg (Reg.HEAD_RC_POS h (n / 4) + 4 * (n % 4))))] else [])

/-- A FLIP item that a commit to head `h` bound, which was refused or rejected, completes as failed (R87, R167). -/
def Device.failFlip (d : Device) (h : Nat) (u : Option Nat) : Device :=
  match u with
  | some u => d.completeBy (h / 2) u stFault 0x0B
  | none => d

/-- The record of a refused or rejected commit (R163). -/
def Device.commitFault (d : Device) (h : Nat) (u : Option Nat) : Device :=
  let i := match u with | some u => (d.item u).map (·.inst) | none => none
  d.raise { fault 0x0B 4 (chanBase (h / 2) 2) h with inst := i }

/-- A receipt that is due (R165). -/
def Device.addReceipt (d : Device) (h : Nat) (r : Receipt) : Device :=
  d.modCmp (h / 2) (fun c => { c with receipts := c.receipts ++ [r] })

/-- A commit that the port of head `h` accepts at the clock `at'` (R43, R161, R162): it joins the head's checks. -/
def Device.takeCommit (d : Device) (h sq serial mask : Nat) (rpj : Bool) (sets : List (Nat × List Word)) (flip : Option Nat)
    (at' : Nat) : Device :=
  let x := d.head h
  let due := max x.checkEnd at' + 256
  let c : Commit := { id := d.disp.commits, sq := sq, serial := serial, rpj := rpj, groups := mask, due := due, sets := sets,
                      flip := flip }
  ({ d with disp := { d.disp with commits := d.disp.commits + 1 } }).setHead h
    { x with checks := x.checks ++ [c], checkEnd := due, portAt := some at' }

/-- Whether head `h` refuses a commit (R41). -/
def Device.commitRefused (d : Device) (h sq mask : Nat) : Bool :=
  (sq != 4 && sq != h / 2) || (mask.testBit 17 && sq != 4)
    || (mask.testBit 0 && sq != 4 && d.on (Reg.HEAD_SEC_secure h))

/-- The FLIP item that a commit of sequencer `sq` to head `h` binds (R167). -/
def Device.bindFlip (d : Device) (h sq : Nat) : Option Nat × Device :=
  match (d.head h).taken with
  | some u =>
    if sq = h / 2 then
      (some u, (d.modHead h (fun x => { x with taken := none })).modItem u (fun y =>
        { y with started := true, stage := 5, firstAt := some (y.firstAt.getD d.beatTime) }))
    else (none, d)
  | none => (none, d)

/-- A commit of a CSQ taken by the port of head `h` (R43): when the port has taken the SSQ's in this very cycle, the CSQ's goes
first, and the SSQ's follows one cycle later, which its `COMMIT` counts. -/
def Device.takeFirst (d : Device) (h sq serial mask : Nat) (sets : List (Nat × List Word)) (flip : Option Nat) : Device :=
  let x := d.head h
  match x.checks.getLast? with
  | some c =>
    if c.sq == 4 && !c.rpj && x.portAt == some d.beat.clock then
      let rest := x.checks.dropLast
      let d := d.setHead h { x with checks := rest, checkEnd := (rest.getLast?.map (·.due)).getD 0 }
      let d := (d.takeCommit h sq serial mask false sets flip d.beat.clock).takeCommit h 4 c.serial c.groups false c.sets c.flip
        (d.beat.clock + 1)
      d.modSeq 4 (fun y => { y with now := y.now + 1, spass := y.spass + 1 })
    else d.takeCommit h sq serial mask false sets flip d.beat.clock
  | none => d.takeCommit h sq serial mask false sets flip d.beat.clock

/-- `COMMIT` (R41, R43, R65, R161). The SSQ's commit waits one cycle for a CSQ's of the same cycle. -/
def execCommit (sq rd ra rb : Nat) (s : State) : Host.Outcome State Fault Refusal :=
  onDev s (fun d =>
    let x0 := d.seq sq
    let h := (x0.gr ra).toNat
    let mask := (x0.gr rb).toNat
    let t := d.beat.clock + (x0.now - d.beat.stick)
    let late := decide (h ≤ 7) && sq == 4 && (d.head h).portAt == some t
    d.runInstr sq (if late then 3 else 2) [ra, rb] (fun d x =>
      let n := (x.commitSerial + 1) % 65536
      let d := d.modSeq sq (fun x => { x with commitSerial := n })
      let done := fun (d : Device) (code : Nat) => Ran.next (d.modSeq sq (fun x => x.result rd code 0 n))
      if 7 < h || mask = 0 || 2 ^ 18 ≤ mask then done d resInvalid
      else
        let (flip, d) := d.bindFlip h sq
        if d.commitRefused h sq mask then
          let r : Receipt := { commit := d.disp.commits, sq := sq, serial := n, head := h, result := 1, clamped := false,
                               rpj := false, groups := 0, frame := 0, superseded := 0 }
          let d := { d with disp := { d.disp with commits := d.disp.commits + 1 } }
          done (((d.addReceipt h r).commitFault h flip).failFlip h flip) resDenied
        else
          let sets := d.shadowCopies h sq mask
          done (if sq = 4 then d.takeCommit h sq n mask false sets flip (d.beat.clock + b2n late)
            else d.takeFirst h sq n mask sets flip) resOk))

/-! ### The check -/

/-- The newest words of group `g` of head `h`: the active copy overlaid by both pending sets (R163). -/
def Device.newest (d : Device) (h g : Nat) : List Word :=
  let x := d.head h
  match ((x.after ++ x.coming).find? (fun p => p.group == g)).map (·.words) with
  | some ws => ws
  | none => if g = 0 then d.activeTiming h else d.activeSet h (g - 1)

/-- The words of group `g` that a commit's change is measured against: without the pending change that it supersedes. -/
def Device.beneath (d : Device) (h g : Nat) (late : Bool) : List Word :=
  let x := d.head h
  match ((if late then x.coming else []).find? (fun p => p.group == g)).map (·.words) with
  | some ws => ws
  | none => if g = 0 then d.activeTiming h else d.activeSet h (g - 1)

/-- Whether two sets differ in address, enable or solid bit (R177). -/
def bufferChange (a b : List Word) : Bool :=
  let l := layerOf a
  let m := layerOf b
  l.addr != m.addr || l.enable != m.enable || l.solid != m.solid

/-- The UDC-4 settings that the words of a legacy plane carry after its eight registers. -/
def planeOf (ws : List Word) : Option (Word × Word) :=
  match ws[8]?, ws[9]? with
  | some c, some k => some (c, k)
  | _, _ => none

/-- Whether the set that would result from a commit's copies exceeds the overlap budget (R163, R170). A layer whose fault ends with a
commit that names it, this one or one that has landed, counts (R178). -/
def Device.overBudget (d : Device) (h : Nat) (sets : List (Nat × List Word)) : Bool :=
  let words := fun g => match sets.find? (fun s => s.1 == g) with | some s => s.2 | none => d.newest h g
  let t := timingOf (words 0)
  let named := maskOf ((sets.filter (fun s => 1 ≤ s.1 && s.1 ≤ 17)).map (fun s => s.1 - 1))
  let landed := maskOf ((((d.head h).coming ++ (d.head h).after).filter (fun p => 1 ≤ p.group && p.group ≤ 17)).map (fun p => p.group - 1))
  let hidden := without (d.rd (Reg.CMP_HEAD_STATUS_faulted h)) (named ||| landed)
  let planes := (List.range 4).filterMap (fun k => match planeOf (words (k + 1)) with
    | some p => some (k, p)
    | none => (d.head h).planes.find? (fun p => p.1 == k))
  let ls := d.shown h (fun k => words (k + 1)) planes (hidden % 2 ^ 16)
  decide (d.fetchLimit h t.hactive < worstFetch ls t.hactive t.vactive)

/-- A commit that lands later takes groups from the receipts of an earlier one (R42, R165). -/
def supersede (id g : Nat) (r : Receipt) : Receipt :=
  if r.commit = id && r.groups.testBit g then { r with groups := r.groups - 2 ^ g, superseded := r.superseded ||| 2 ^ g } else r

/-- The set of a head's coming frame, or of the frame after it, changed by `f`. -/
def Head.modSet (x : Head) (late : Bool) (f : List Pend → List Pend) : Head :=
  if late then { x with after := f x.after } else { x with coming := f x.coming }

/-- One group of a landing commit put into the pending set (R42, R161, R177). -/
def Device.landGroup (d : Device) (h : Nat) (late : Bool) (c : Commit) (g : Nat) (ws : List Word) : Device :=
  let x := d.head h
  let d := match (if late then x.after else x.coming).find? (fun p => p.group == g) with
    | some old => d.modCmp (h / 2) (fun k => { k with receipts := k.receipts.map (supersede old.commit g) })
    | none => d
  let res := decide (1 ≤ g) && decide (g ≤ 17) && bufferChange (d.beneath h g late) ws
  d.modHead h (fun x => x.modSet late (fun ps => ps.filter (fun p => p.group != g) ++
    [{ group := g, words := ws, commit := c.id, res := res, rpj := c.rpj }]))

/-- Whether a check that ends at `t` is late for the coming frame (R162, R184), and the lines that Adaptive-Sync has inserted
by then (R187). A stopped head has no cut-off (R188). -/
def Device.lateFor (d : Device) (h t : Nat) : Bool × Nat :=
  let x := d.head h
  if !d.running h then (false, x.extra)
  else if x.cut then (true, x.extra)
  else
    let room := if x.coming.isEmpty then d.vrrRoom h - x.extra else 0
    match (List.range (room + 1)).find? (fun k =>
        decide (t < d.lineAt h (d.frameLines h (x.extra + k) - d.horizon h))) with
    | some k => (false, x.extra + k)
    | none => (true, x.extra + room)

/-- RAS_STATUS.rpj_running follows the passes of channel `c` (R127). -/
def Device.showRpj (d : Device) (c : Nat) : Device :=
  d.wr (Reg.RAS_STATUS_rpj_running c)
    (b2n ([2 * c, 2 * c + 1].any (fun h => match (d.head h).rpj with | some r => r.start.isSome | none => false)))

/-- The reprojection commit that a sequencer's commit for the coming frame withdraws or supersedes (R124). -/
def Device.withdrawRpj (d : Device) (h mask : Nat) : Device :=
  let x := d.head h
  let k := d.rd (Reg.RAS_RPJ_CFG_layer (h / 2) (h % 2))
  let landed := x.coming.any (fun p => p.group == k + 1 && p.rpj)
  if mask.testBit (k + 1) && (x.rpj.isSome || x.checks.any (·.rpj) || landed) then
    (((d.rpjFree h).modHead h (fun x => { x with checks := x.checks.filter (fun c => !c.rpj) })).bump
      (Reg.RAS_RPJ_STAT_superseded (h / 2) (h % 2))).showRpj (h / 2)
  else d

/-- Whether a timing set may apply: R183, and on a legacy head the limits of R433. -/
def Device.timingApplies (d : Device) (h : Nat) (ws : List Word) : Bool :=
  let t := timingOf ws
  d.timingCode h ws == 0
    && (!d.legacyHead h || (decide (t.hactive ≤ 2048) && decide (t.vactive ≤ 1536) && decide (t.khz ≤ 165000)))

/-- The coming timing set of a stopped head does not apply, and leaves it (R183). -/
def Device.startBad (d : Device) (h : Nat) : Device :=
  (d.modHead h (fun x => { x with coming := x.coming.filter (fun p => p.group != 0), starting := false })).timingBad h

/-- A stopped head whose coming set holds a timing set with enable starts, or reports it as bad (R183, R188). -/
def Device.tryStart (d : Device) (h : Nat) : Device :=
  let x := d.head h
  match x.coming.find? (fun p => p.group == 0) with
  | some p =>
    if d.running h || !(timingOf p.words).enable || !d.chanUp (h / 2) then d
    else if d.timingApplies h p.words then d.setHead h { x with starting := true }
    else d.startBad h
  | none => d

/-- The result code of a commit's check (R163), and whether the set would be over the budget. -/
def Device.checkCode (d : Device) (h : Nat) (c : Commit) (late : Bool) : Nat × Bool :=
  let clamped := d.overBudget h c.sets
  let legacy := c.sets.any (fun s => s.1 == 19)
  let layers := c.sets.filter (fun s => 1 ≤ s.1 && s.1 ≤ 17)
  let freed := ((if late then (d.head h).after else (d.head h).coming).filter (fun p =>
    p.res && c.sets.any (fun s => s.1 == p.group))).length
  let need := (layers.filter (fun s => bufferChange (d.beneath h s.1 late) s.2)).length
  (if !legacy && layers.any (fun s => layerInvalid s.2) then 2
    else if c.sq != 4 && clamped then 3
    else if 64 + freed < d.sharedUsed (h / 2) + need then 4
    else 0, clamped)

/-- `COMMIT_CHECK_END` (R42, R44, R162 to R165, R188): the oldest check of head `h` ends. -/
def execCommitCheckEnd (h : Nat) (s : State) : Host.Outcome State Fault Refusal :=
  onDev s (fun d =>
    match (d.head h).checks with
    | [] => d
    | c :: cs =>
      let d := (d.atClock c.due).modHead h (fun x => { x with checks := cs })
      let (late, extra) := d.lateFor h c.due
      let (code, clamped) := d.checkCode h c late
      let frame := ((d.head h).frame + (if late then 2 else 1)) % 2 ^ 48
      let r : Receipt := { commit := c.id, sq := c.sq, serial := c.serial, head := h, result := code, clamped := clamped,
                           rpj := c.rpj, groups := if code = 0 then c.groups else 0,
                           frame := if code = 0 then frame else 0, superseded := 0 }
      if code ≠ 0 then ((d.addReceipt h r).commitFault h c.flip).failFlip h c.flip
      else
        let d := if !late && !c.rpj then d.withdrawRpj h c.groups else d
        let d := c.sets.foldl (fun d g => d.landGroup h late c g.1 g.2) d
        let d := d.modHead h (fun x =>
          { x with
            extra := if late then x.extra else extra
            flips := match c.flip with | some u => x.flips ++ [(u, frame)] | none => x.flips
            srcs := if c.rpj then x.srcs
              else c.sets.foldl (fun l g => if 1 ≤ g.1 && g.1 ≤ 16 then tput l (g.1 - 1) g.2 else l) x.srcs })
        ((d.addReceipt h r).showReserved (h / 2)).tryStart h)

/-! ### Takes -/

/-- What a take finds (R166): the result, the mask and the device. -/
def Device.takeFlip (d : Device) (h i n : Nat) : Nat × Nat × Device :=
  if (d.head h).taken.isSome then (2, 0, d)
  else
    match d.queueHead i n with
    | none => (1, 0, d)
    | some x =>
      if x.cls != 3 || x.pay 0x20 4 != h || d.instState i == 4 || !d.mayStart x then (1, 0, d)
      else
        let mask := x.pay 0x24 4
        let gs := groupsOf mask
        match gs.find? (fun g => g != 0 && d.layerOwner h (g - 1) != some i) with
        | some g =>
          (3, 0, (d.raise { fault 0x0B 3 (chanBase (h / 2) 2) h with sub := g - 1, inst := some i }).completeBy (h / 2) x.uid stFault 0x0B)
        | none =>
          match d.read (.inst i) (h / 2) (x.pay 0x28 8) (32 * gs.length) with
          | (.error .trans, d) => (4, 0, d.completeBy (h / 2) x.uid stTranslation 3)
          | (.error (.ecc cls), d) => (4, 0, d.completeBy (h / 2) x.uid stFault cls)
          | (.ok bs, d) =>
            let d := (gs.zipIdx).foldl (fun d (g, k) =>
              let ws := (List.range 8).map (fun j => w32 (leAt bs (32 * k + 4 * j) 4))
              d.setRegs (if g = 0 then Reg.HEAD_HTIME h else Reg.CMP_LAYER_CTL h (g - 1)) ws) d
            (0, mask, (d.modItem x.uid (fun y => { y with stage := 4 })).modHead h (fun y => { y with taken := some x.uid }))

/-- A write of CMP_HEAD_m_TAKE (R166). -/
def Device.take (d : Device) (h i n : Nat) : Device :=
  let (res, mask, d) := d.takeFlip h i n
  ((d.wr (Reg.CMP_TAKE_STAT_done h) 1).wr (Reg.CMP_TAKE_STAT_result h) res).wr (Reg.CMP_TAKE_STAT_mask h) mask

/-- `TAKE` (R166). -/
def execTake (h i n : Nat) (s : State) : Host.Outcome State Fault Refusal := onDev s (fun d => d.take h i n)

/-! ### Retire records -/

/-- The buffers that the active sets of head `h` show (R175): by layer, the address and the owner. Legacy planes have none
(R428). -/
def Device.shownBufs (d : Device) (h : Nat) : List (Nat × (Nat × Nat)) :=
  if !d.running h then []
  else (List.range 17).filterMap (fun k =>
    let l := layerOf (d.activeSet h k)
    if !l.enable || l.solid || (d.legacyHead h && k != 16) then none
    else if k = 16 then (d.gEnclave h).map (fun e => (k, (l.addr, 32 + e)))
    else (d.layerOwner h k).map (fun i => (k, (l.addr, i))))

/-- One buffer that left a layer (R175, R177): its record takes the entry that its change reserved, its layer's own entry,
or a free shared entry; without one it is lost. `ahead` entries are reserved for buffers that follow at the same latch line. -/
def Device.retireOne (d : Device) (h k frame addr owner : Nat) (reserved : Bool) (ahead : Nat) : Device :=
  let c := h / 2
  let ring := if 32 ≤ owner then 32 else owner
  let ownBusy := (d.cmp c).recs.any (fun r => r.own && r.head == h && r.layer == k)
  let own := !reserved && !ownBusy
  if !reserved && ownBusy && decide (64 ≤ d.sharedUsed c + ahead) then
    (d.bump (Reg.CMP_STATUS_ret_lost c)).raise
      { fault 0x0C 7 (chanBase c 2) h with sub := k, inst := if ring = 32 then none else some ring, secure := ring == 32 }
  else
    d.modCmp c (fun m => { m with
      recs := m.recs ++ [({ head := h, layer := k, frame := frame, addr := addr, owner := ring, own := own } : RetRec)] })

/-- The buffers of a list leave head `h` in order (R175, R177): those of the layers of `reserved` hold entries. -/
def Device.retireAll (d : Device) (h last : Nat) (reserved : List Nat) : List (Nat × (Nat × Nat)) → Device
  | [] => d
  | b :: bs =>
    (d.retireOne h b.1 last b.2.1 b.2.2 (reserved.contains b.1) (bs.filter (fun c => reserved.contains c.1)).length).retireAll h last
      reserved bs

/-- The buffers that leave head `h` at a latch line (R175): `reserved` lists the layers whose change holds an entry, `last` is
the last frame that showed them. During FALLBACK L0 to L15 retire nothing (R192), and a withheld layer does not either (R164):
what they showed before counts as shown until they show a buffer again. -/
def Device.retire (d : Device) (h last : Nat) (reserved : List Nat) : Device :=
  let old := (d.head h).bufs
  let fall := d.on (Reg.HEAD_STATUS_fallback h) && !(d.head h).fallNext
  let dark := fun k => decide (k < 16) && (fall || (d.rd (Reg.CMP_WITHHELD_layers h)).testBit k)
  let kept := if d.running h then old.filter (fun b => dark b.1) else []
  let new := kept ++ (d.shownBufs h).filter (fun b => !dark b.1)
  let others := (d.head (if h % 2 = 0 then h + 1 else h - 1)).bufs
  let still := fun (v : Nat × Nat) => (new ++ others).any (fun b => b.2 == v)
  let d := d.retireAll h last reserved (old.filter (fun b => !still b.2))
  (d.modHead h (fun x => { x with bufs := new })).showReserved (h / 2)

/-- The space of a retire ring (R176): the owner's, or physical memory for the secure world. -/
def retSpace (i : Nat) : Space := if i = 32 then .securePhys else .inst i

/-- A record written to ring `i` of channel `c` when the ring has room (R176): whether it was. -/
def Device.writeRet (d : Device) (c : Nat) (r : RetRec) : Bool × Device :=
  let i := r.owner
  let k := ringK 12 (d.rd (Reg.CMP_RET_CFG_log2_size c i))
  let n := 2 ^ k
  if !d.on (Reg.CMP_RET_CFG_enable c i) || (decide (i < 32) && d.instState i == 4) then (false, d)
  else
    let base := d.addr64 (Reg.CMP_RET_LO c i) (Reg.CMP_RET_HI c i)
    let p := d.rd (Reg.CMP_RET_PROD_prod c i) % (2 * n)
    let full := fun q => decide (n ≤ (p + 2 * n - q % (2 * n)) % (2 * n))
    let seen := tget (fun _ => 0) (d.cmp c).cons i
    let (cons, d) := if full seen then
        match d.ringCons (retSpace i) c base k 16 with
        | (some q, d) => (q, d.modCmp c (fun m => { m with cons := tset (fun _ => 0) m.cons i q }))
        | (none, d) => (seen, d)
      else (seen, d)
    if full cons then (false, d)
    else
      let w0 := r.head + r.layer * 8 + c * 256 + (if p < n then 2 ^ 31 else 0)
      let bs := leBytes 4 w0 ++ leBytes 4 r.frame ++ leBytes 8 r.addr
      match d.write (retSpace i) c (base + p % n * 16) bs with
      | (.error _, d) => (false, d)
      | (.ok (), d) =>
        let d := d.wr (Reg.CMP_RET_PROD_prod c i) ((p + 1) % (2 * n))
        (true, if i < 32 then d.signal i 1 else d)

/-- The first record of a list for ring `i`, and the others. -/
def takeRec (i : Nat) : List RetRec → Option (RetRec × List RetRec)
  | [] => none
  | r :: rs =>
    if r.owner = i then some (r, rs)
    else match takeRec i rs with | some (x, ys) => some (x, r :: ys) | none => none

/-- The oldest due record for ring `i` of channel `c` written, when the ring has room (R176). -/
def Device.retireWrite (d : Device) (c i : Nat) : Device :=
  match takeRec i (d.cmp c).recs with
  | none => d
  | some (r, rest) =>
    match d.writeRet c r with
    | (true, d) => (d.modCmp c (fun m => { m with recs := rest })).showReserved c
    | (false, d) => d

/-- `RETIRE_RECORD_WRITE` (R175, R176). -/
def execRetireRecordWrite (c i : Nat) (s : State) : Host.Outcome State Fault Refusal := onDev s (fun d => d.retireWrite c i)

end Sys2Proof.Machine
end

