-- ==== Sys2Proof/Machine/Memsys.lean ====
section
/-!
DEFINITION. The memory system as its own agents see it: requests at a system-cache bank (R263 to R266), bank arbiters (R267 to
R271), LP5X controllers (R273 to R279, R282), training (R280, R281, R283) and copy engines (R284 to R289).
-/

namespace Sys2Proof.Machine

open Sys2Proof

/-! ### Requests -/

/-- Whether a request is marked urgent (R268): one for a line that starts within one line time of its head's position, until that line
is complete, and every one for an audio stream or capture. -/
def Device.urgentFor (d : Device) (input : Nat) (w : ReqFor) : Bool :=
  match w with
  | .line h n =>
    let t := timingOf (d.activeTiming h)
    decide (input < 4) && h / 2 == input && d.running h && (d.headLine h == n || (d.headLine h + 1) % max 1 t.vtotal == n)
  | .stream => input == 11
  | .other => false

/-- The arbiter of bank `b`. -/
def Device.arb (d : Device) (b : Nat) : Arb := tget (fun _ => Arb.reset) d.mem.arbs b

/-- The arbiter of bank `b` replaced. -/
def Device.setArb (d : Device) (b : Nat) (x : Arb) : Device :=
  { d with mem := { d.mem with arbs := tset (fun _ => Arb.reset) d.mem.arbs b x } }

/-- What the checks of R346 find at an access of the line at `pa` (R345, R347): whether the access still succeeds, and the device. -/
def Device.memCheck (d : Device) (pa : Nat) (k : MemCheck) : Bool × Device :=
  let b := bankOf pa
  match k with
  | .clean => (true, d)
  | .corrected => (true, d.raise { fault 0x01 1 0x900000 b with corrected := true, addr := pa })
  | .poison =>
    (false, { d with mems := { d.mems with
        poison := if d.mems.poison.contains (pa / 128) then d.mems.poison else pa / 128 :: d.mems.poison } }.raise
      { fault 0x02 1 0x900000 b with addr := pa })
  | .tag =>
    (true, { d with mem := { d.mem with bypass := if d.mem.bypass.contains b then d.mem.bypass else b :: d.mem.bypass } }.raise
      { fault 0x02 1 0x900000 b with addr := pa })

/-- What link ECC finds where the access of the line at `pa` moves data over the LP5X link (R279): whether the access still succeeds,
and the device. Without link ECC nothing sees an error. -/
def Device.linkCheck (d : Device) (pa : Nat) (moves : Bool) (k : LinkCheck) : Bool × Device :=
  match moves && d.mem.linkEcc, k with
  | true, .corrected => (true, d.raise { fault 0x01 3 0x800000 (bankOf pa) with corrected := true, addr := pa })
  | true, .bad => (false, d.raise { fault 0x03 2 0x800000 (bankOf pa) with addr := pa })
  | _, _ => (true, d)

/-- The checks of an access: the link's, and then the bank's. -/
def Device.checks (d : Device) (pa : Nat) (moves : Bool) (k : MemCheck) (l : LinkCheck) : Bool × Device :=
  let (ok, d) := d.linkCheck pa moves l
  let (ok', d) := d.memCheck pa k
  (ok && ok', d)

/-- Whether a read of the line at `pa` waits in the miss queue of its bank (R270). -/
def Device.missing (d : Device) (pa : Nat) : Bool := (d.arb (bankOf pa)).misses.any (fun m => m.pa / 128 == pa / 128)

/-- The bytes of a read answered at once, or kept until LP5X has returned the line (R270). -/
def Device.answerRead (d : Device) (pa : Nat) (missed : Bool) (bs : List Byte) : Device :=
  let b := bankOf pa
  let x := d.arb b
  if missed || d.missing pa then d.setArb b { x with misses := x.misses ++ [{ pa := pa, data := bs, back := false }] }
  else d.emit (.bytes bs)

/-- An access of arbiter input `input` to `n` bytes of the line at `pa`, a write of `data` when it is given (R263 to R266, R271): it
takes effect now. -/
def Device.scAccess (d : Device) (input pa n : Nat) (data : Option (List Byte)) (urgent : Bool) (chk : MemCheck)
    (link : LinkCheck) : Device :=
  let b := bankOf pa
  let n := min (match data with | some bs => bs.length | none => n) (128 - pa % 128)
  let before := d.rd (Reg.SC_BANK_MISS_count b)
  match data with
  | some bs =>
    let d := (d.writeAt input (.lp5x pa) (bs.take n) urgent).2
    (d.checks pa (d.rd (Reg.SC_BANK_MISS_count b) != before) chk link).2
  | none =>
    match d.readAt input (.lp5x pa) n none urgent with
    | (.ok bs, d) =>
      let missed := d.rd (Reg.SC_BANK_MISS_count b) != before
      match d.checks pa missed chk link with
      | (true, d) => d.answerRead pa missed bs
      | (false, d) => d
    | (.error _, d) => d

/-- A request as its bank arbiter holds it: tier A is for urgent requests of the compositors and of the audio engine (R267). -/
def Device.bankReq (d : Device) (r : BankReq) : ArbReq :=
  { input := r.input, tierA := d.urgentFor r.input r.what, waited := 0, promoted := false, parts := r.parts, atomic := r.atomic }

/-- The lines that requests of the inputs that `p` selects have outstanding at the banks. -/
def Device.outstanding (d : Device) (p : Nat → Bool) : Nat :=
  ((List.range 16).map (fun b => (((d.arb b).reqs.filter (fun r => p r.input)).map (fun r => max 1 r.parts.length)).sum)).sum

/-- Whether the fabric takes one more request of an input beside `more` that come with it (R15): 768 transactions of the channel of a
compositor or an L2 and 4,096 of the device are the most that are outstanding. -/
def Device.fabricTakes (d : Device) (input more : Nat) : Bool :=
  decide (d.outstanding (fun _ => true) + more < 4096)
    && (decide (8 ≤ input) || decide (d.outstanding (fun n => decide (n < 8) && n % 4 == input % 4) + more < 768))

/-- `SC_ACCESS` (R262 to R266, R269, R271): a request at a bank. It is served at once when no other waits there, and else when the
arbiter grants it. An access beyond the capacity is a translation fault of its agent and reaches no bank. -/
def execScAccess (input pa n : Nat) (data : Option (List Byte)) (what : ReqFor) (chk : MemCheck) (link : LinkCheck) (s : State) :
    Host.Outcome State Fault Refusal :=
  onDev s (fun d =>
    d.when (decide (input < 12) && decide (pa < d.capacity)) (fun d =>
      let x := d.arb (bankOf pa)
      if x.reqs.isEmpty then d.scAccess input pa n data (d.urgentFor input what) chk link
      else d.when (d.fabricTakes input 0) fun d => d.setArb (bankOf pa) { x with
        reqs := x.reqs ++ [d.bankReq { input := input, what := what, parts := [⟨pa, n, data⟩], atomic := false }] }))

/-! ### Bank arbiters -/

/-- The tier of a request (R269): 0 A, 1 B, 2 C. `used` are the tier-A grant cycles of the window. -/
def ArbReq.tier (r : ArbReq) (used : Nat) : Nat :=
  if r.tierA && decide (used < 16) then 0 else if r.tierA || r.promoted || decide (256 ≤ r.waited) then 1 else 2

/-- The first requesting input after a pointer, among the requests of a tier (R269). -/
def arbPick (reqs : List ArbReq) (used t ptr : Nat) : Option ArbReq :=
  ((List.range 12).map (fun i => (ptr + 1 + i) % 12)).findSome?
    (fun n => reqs.find? (fun r => r.input == n && r.tier used == t))

/-- The grant of an arbiter: the request of the highest tier and its tier. -/
def Arb.choose (x : Arb) : Option (Nat × ArbReq) :=
  match arbPick x.reqs x.quota 0 x.ptrA with
  | some r => some (0, r)
  | none =>
    match arbPick x.reqs x.quota 1 x.ptrB with
    | some r => some (1, r)
    | none => (arbPick x.reqs x.quota 2 x.ptrC).map (fun r => (2, r))

/-- The cycles that a grant holds the bank (R270): a tier-A grant stays within the quota of its window. -/
def grantCycles (x : Arb) (t : Nat) (r : ArbReq) : Nat :=
  if r.atomic then 2 else min (max 1 r.parts.length) (if t = 0 then min 4 (16 - x.quota) else 4)

/-- The granted request leaves, or keeps its place with the lines that remain (R270). -/
def arbServe (r : ArbReq) (h : Nat) : List ArbReq → List ArbReq
  | [] => []
  | x :: xs =>
    if x = r then (if !r.atomic && decide (h < r.parts.length) then { x with parts := x.parts.drop h } :: xs else xs)
    else x :: arbServe r h xs

/-- The requests that an arbiter sees at a decision (R269): those that wait have aged by the last hold, and new ones join; a window
that has passed gives a new quota. -/
def Arb.join (x : Arb) (window : Nat) (new : List ArbReq) : Arb :=
  { x with
    reqs := x.reqs.map (fun r => { r with waited := r.waited + max 1 x.hold }) ++ new.filter (fun r => decide (r.input < 12))
    quota := if x.window = window then x.quota else 0
    window := window }

/-- One decision of an arbiter over the requests that it holds (R269, R270). -/
def Arb.grant (x : Arb) : Arb :=
  match x.choose with
  | none => { x with hold := 0 }
  | some (t, r) =>
    let h := grantCycles x t r
    { x with
      reqs := arbServe r h x.reqs, hold := h
      quota := if t = 0 then x.quota + h else x.quota
      ptrA := if t = 0 then r.input else x.ptrA
      ptrB := if t = 1 then r.input else x.ptrB
      ptrC := if t = 2 then r.input else x.ptrC }

/-- The lines that a grant serves (R270). -/
def Arb.served (x : Arb) : List (ArbReq × BankPart) :=
  match x.choose with
  | none => []
  | some (t, r) => (r.parts.take (grantCycles x t r)).map (fun p => (r, p))

/-- `ARBITER_GRANT` (R269 to R271): bank `b` decides, and the accesses that it grants take effect in that order; `new` are the requests
that have arrived since its last decision. -/
def execArbiterGrant (b : Nat) (new : List BankReq) (s : State) : Host.Outcome State Fault Refusal :=
  onDev s (fun d => d.when (b < 16) (fun d =>
    let came := (new.zipIdx.filter (fun p => d.fabricTakes p.1.input p.2)).map (·.1)
    let x := (d.arb b).join (d.beat.clock / 64) (came.map d.bankReq)
    x.served.foldl (fun d p => d.scAccess p.1.input p.2.pa p.2.n p.2.data p.1.tierA .clean .clean) (d.setArb b x.grant)))

/-- `TIER_B_PROMOTE` (R269): the requests of an input that have waited 256 cycles at bank `b` become tier B. -/
def execTierBPromote (b input : Nat) (s : State) : Host.Outcome State Fault Refusal :=
  onDev s (fun d =>
    let x := d.arb b
    d.setArb b { x with reqs := x.reqs.map (fun r =>
      if r.input == input && decide (256 ≤ r.waited) then { r with promoted := true } else r) })

/-- `QUOTA_WINDOW` (R269): the next window starts at every bank, at the next multiple of 64 cycles from reset. -/
def execQuotaWindow (s : State) : Host.Outcome State Fault Refusal :=
  onDev s (fun d =>
    let w := d.beat.clock / 64 + 1
    (List.range 16).foldl (fun d b => d.setArb b { d.arb b with quota := 0, window := w }) (d.atClock (64 * w)))

/-- `SC_FILL` (R270): LP5X data returns to bank `b` for the oldest line that it was asked for: the fill takes one further hold, and the
reads that wait for the line are answered. -/
def execScFill (b : Nat) (s : State) : Host.Outcome State Fault Refusal :=
  onDev s (fun d => d.when (b < 16) (fun d =>
    let x := d.arb b
    match x.misses.find? (·.back) with
    | none => d
    | some m =>
      let (now, later) := x.misses.partition (fun y => y.pa / 128 == m.pa / 128)
      now.foldl (fun d y => d.emit (.bytes y.data)) (d.setArb b { x with hold := x.hold + 1, misses := later })))

/-! ### Scheduling -/

/-- The scan-out share (R274). -/
def Device.scanShare (d : Device) : Nat := min 32 (d.rd Reg.MEM_SCAN_share)

/-- What a channel moves in a window of 1,024 ticks at 9,600 MT/s, in bytes (R274). -/
def windowBytes : Nat := 24576

/-- The latency target of an input (R273). -/
def Device.memTarget (d : Device) (input : Nat) : Nat := d.rd (Reg.MEM_QOS_target input)

/-- The step of R273 in which a request stands at controller `b`. -/
def Device.ctlStep (d : Device) (b : Nat) (r : CtlReq) : Nat :=
  let x := d.ctl b
  let age := d.beat.clock - r.arrival
  let t := d.memTarget r.input
  if r.urgent || (t != 0 && decide (2 * t ≤ age)) then 2
  else if r.input < 4 && x.scan * 64 < d.scanShare * windowBytes then 3
  else if t != 0 && decide (t ≤ age) then 4
  else if x.rows.any (fun o => o.bank == r.bank && o.row == r.row) then 5
  else 6

/-- Whether the next draw of controller `b` schedules a neighbour refresh (R278). -/
def Device.pnrHit (d : Device) (b : Nat) : Bool :=
  let x := d.ctl b
  d.rd Reg.MEM_PNR_prob != 0 && decide ((Config.pnrDraw x.seed x.draws).toNat < d.rd Reg.MEM_PNR_prob)

/-- Whether an activate in a bank of controller `b` may issue (R278): one that would schedule a fifth neighbour refresh waits. -/
def Device.mayActivate (d : Device) (b bank : Nat) : Bool :=
  !d.pnrHit b || decide (((d.ctl b).neighbours.filter (fun n => n.bank == bank)).length < 4)

/-- Whether a request's command may issue (R278). -/
def Device.ctlReady (d : Device) (b : Nat) (r : CtlReq) : Bool :=
  (d.ctl b).rows.any (fun o => o.bank == r.bank && o.row == r.row) || d.mayActivate b r.bank

/-- Whether request `p` goes before request `q` at equal step (R273): the older one, then the lower input. -/
def ctlBefore (p q : Nat × CtlReq) : Bool :=
  p.1 < q.1 || (p.1 == q.1 && (decide (p.2.arrival < q.2.arrival)
    || (p.2.arrival == q.2.arrival && decide (p.2.input < q.2.input))))

/-- The requests that controller `b` holds (R273, R275): the first 64; the others have not arrived yet. -/
def Ctl.held (x : Ctl) : List CtlReq := x.queue.take 64

/-- The request that controller `b` serves next (R273). -/
def Device.ctlChoose (d : Device) (b : Nat) : Option CtlReq :=
  let l := ((d.ctl b).held.filter (fun r => d.ctlReady b r)).map (fun r => (d.ctlStep b r, r))
  (l.foldl (fun (best : Option (Nat × CtlReq)) p =>
    match best with
    | none => some p
    | some q => if ctlBefore p q then some p else best) none).map (·.2)

/-- A row of a bank activated (R276 to R278): the draw may schedule a neighbour refresh, due 4 µs later. -/
def Device.activate (d : Device) (b bank row : Nat) : Device :=
  let hit := d.pnrHit b
  d.modCtl b (fun x => { x with
    draws := if d.rd Reg.MEM_PNR_prob = 0 then x.draws else x.draws + 1
    neighbours := if hit then x.neighbours ++ [⟨bank, row, d.beat.clock + 3200, false⟩] else x.neighbours
    acts := if d.on Reg.MEM_CFG_rfm && d.mem.rfm.isSome then tset (fun _ => 0) x.acts bank (tget (fun _ => 0) x.acts bank + 1)
      else x.acts })

/-- A request leaves the queue of a controller at clock `now`, and the next one that waits for a place arrives (R275). -/
def Ctl.leave (x : Ctl) (r : CtlReq) (now : Nat) : Ctl :=
  let q := x.queue.erase r
  { x with queue := if 64 < x.queue.length then modAt q 63 (fun y => { y with arrival := now }) else q }

/-- A request issued by controller `b` (R270, R273, R276): its row opens if need be and stays open unless the idle time is 0; what a
read of the bank waits for has returned. -/
def Device.ctlServe (d : Device) (b : Nat) (r : CtlReq) : Device :=
  let open_ := (d.ctl b).rows.any (fun o => o.bank == r.bank && o.row == r.row)
  let d := if open_ then d else d.activate b r.bank r.row
  let keep := d.rd Reg.MEM_CFG_idle != 0
  let now := d.beat.clock
  let d := d.modCtl b (fun x => { x.leave r now with
    rows := x.rows.filter (fun o => o.bank != r.bank) ++ (if keep then [⟨r.bank, r.row, now⟩] else [])
    scan := if r.input < 4 then x.scan + r.bytes else x.scan
    total := x.total + r.bytes })
  let d := if r.write then d
    else d.setArb b { d.arb b with
      misses := (d.arb b).misses.map (fun m => if m.pa / 128 == r.addr / 128 then { m with back := true } else m) }
  d.worst (Reg.MEM_LAT_worst r.input) (now - r.arrival)

/-- One activate of a neighbour refresh of controller `b`, at the row below or above the activated one (R278). -/
def Device.neighbourHalf (d : Device) (b : Nat) (n : Neighbour) : Device :=
  (d.modCtl b (fun x => { x with rows := x.rows.filter (fun o => o.bank != n.bank) })).activate b n.bank
    (if n.half then n.row + 1 else n.row - 1)

/-- The neighbour refresh at the head of its schedule is issued (R278): an activate and a precharge of each row beside the activated
one. An activate that would schedule a fifth refresh in its bank waits, and the refresh stays at the head with what is left of it. -/
def Device.neighbour (d : Device) (b : Nat) : Device :=
  match (d.ctl b).neighbours with
  | [] => d
  | n :: ns =>
    let rest := fun (d : Device) (m : Neighbour) => d.modCtl b (fun x => { x with neighbours := m :: x.neighbours })
    let d := d.modCtl b (fun x => { x with neighbours := ns })
    let d := if n.half then d else d.neighbourHalf b n
    if d.mayActivate b n.bank then (d.neighbourHalf b { n with half := true }).count Reg.MEM_PNR_CNT_count
    else rest d { n with half := true }

/-- The refresh that has been due longest is issued, with a due correction of the write timing (R277, R282). -/
def Device.refresh (d : Device) (b k : Nat) (ks : List (Nat × Nat)) : Device :=
  d.modCtl b (fun x => { x with
    due := ks, rows := x.rows.filter (fun o => o.bank != k), acts := tset (fun _ => 0) x.acts k 0
    timing := x.timing + x.pendingTiming.getD 0, pendingTiming := none })

/-- `CONTROLLER_ISSUE` (R273): controller `b` issues its first command: of the refreshes and neighbour refreshes whose deadline has come
the oldest, then a request. -/
def execControllerIssue (b : Nat) (s : State) : Host.Outcome State Fault Refusal :=
  onDev s (fun d =>
    d.when (decide (b < 16) && d.memUp) (fun d =>
      let w := d.beat.clock / 1024
      let d := if (d.ctl b).window = w then d else d.modCtl b (fun x => { x with window := w, scan := 0, total := 0 })
      let serve := fun (d : Device) => match d.ctlChoose b with | some r => d.ctlServe b r | none => d
      let near := (d.ctl b).neighbours.head?.bind (fun n => if n.due ≤ d.beat.clock then some n.due else none)
      match (d.ctl b).due, near with
      | (k, t) :: ks, some u => if u < t then d.neighbour b else d.refresh b k ks
      | (k, _) :: ks, none => d.refresh b k ks
      | [], some _ => d.neighbour b
      | [], none => serve d))

/-- `ROW_CLOSE` (R276): the idle timer of a bank of controller `b` expires. -/
def execRowClose (b bank : Nat) (s : State) : Host.Outcome State Fault Refusal :=
  onDev s (fun d =>
    match (d.ctl b).rows.find? (fun o => o.bank == bank) with
    | none => d
    | some o =>
      (d.atClock (o.last + d.rd Reg.MEM_CFG_idle * 8)).modCtl b (fun x => { x with rows := x.rows.filter (fun o => o.bank != bank) }))

/-- Whether the devices ask for refresh management of a bank of controller `b` (R277). -/
def Device.rfmDue (d : Device) (b bank : Nat) : Bool :=
  match d.mem.rfm with
  | some n => d.on Reg.MEM_CFG_rfm && decide (n ≤ tget (fun _ => 0) (d.ctl b).acts bank)
  | none => false

/-- `REFRESH_DUE` (R277): a refresh of a bank falls due, or, with `rfm`, the activations of the bank have reached the threshold at which
its devices ask for refresh management. -/
def execRefreshDue (b bank : Nat) (rfm : Bool) (s : State) : Host.Outcome State Fault Refusal :=
  onDev s (fun d =>
    d.when (decide (b < 16) && (!rfm || d.rfmDue b bank)) (fun d =>
      d.modCtl b (fun x => { x with due := x.due ++ [(bank, d.beat.clock)] })))

/-- `NEIGHBOUR_REFRESH` (R278): a scheduled neighbour refresh of controller `b` falls due and is issued. -/
def execNeighbourRefresh (b : Nat) (s : State) : Host.Outcome State Fault Refusal :=
  onDev s (fun d =>
    match (d.ctl b).neighbours with
    | [] => d
    | n :: _ => (d.atClock n.due).neighbour b)

/-- `PNR_RESEED` (R278): every generator takes a new seed from the entropy source. -/
def execPnrReseed (s : State) : Host.Outcome State Fault Refusal :=
  onDev s (fun d =>
    (List.range 16).foldl
      (fun d b =>
        let (v, d) := d.free
        d.modCtl b (fun x => { x with seed := v, draws := 0 })) d)

/-- `DQS_CHECK` (R282): the oscillators of channel `b` show a drift of `drift` / 256 of a unit interval. -/
def execDqsCheck (b : Nat) (drift : Int) (s : State) : Host.Outcome State Fault Refusal :=
  onDev s (fun d =>
    d.when (decide (b < 16) && decide (16 < drift.natAbs)) (fun d => d.modCtl b (fun x => { x with pendingTiming := some drift })))

/-! ### Training -/

/-- The header fields of a training record (R280, R339): vendor and density of the devices, the data rate, and the temperature as a
16-bit signed number of °C. -/
def trainExtra (t : Training) : Nat :=
  let v := t.devices.headD (0, 0)
  v.1 % 65536 + v.2 % 65536 * 2 ^ 16 + t.rate % 65536 * 2 ^ 32 + wrapInt 16 t.temp * 2 ^ 48

/-- The payload of a training record: the results of the sixteen channels in their order, each after its length (log entry 75). -/
def trainPayload (rs : List (Nat × List Byte)) : List Byte :=
  (List.range 16).flatMap (fun b =>
    let r := (rs.find? (fun e => e.1 == b)).map (·.2) |>.getD []
    leBytes 2 r.length ++ r)

/-- The results of `n` channels from channel `b` on that a payload holds. -/
def trainResults : Nat → Nat → List Byte → List (Nat × List Byte)
  | 0, _, _ => []
  | n + 1, b, p => (b, (p.drop 2).take (leAt p 0 2)) :: trainResults n (b + 1) (p.drop (2 + leAt p 0 2))

/-- The results that the seeded fast path loads, when it is open (R280): the newest record is valid and names the vendor and density of
every device, the data rate and a temperature within 25 °C. -/
def Device.fastPath (d : Device) (t : Training) : Option (List (Nat × List Byte)) :=
  match d.newestRecord 0x11 0x48000 0x4000 2 with
  | none => none
  | some (o, _, p) =>
    let e := leAt (d.recordHead o) 0x14 8
    if !d.on Reg.MEM_TRAIN_force_full && t.devices.all (fun v => v.1 == e % 65536 && v.2 == e / 2 ^ 16 % 65536)
        && t.rate == e / 2 ^ 32 % 65536 && decide ((t.temp - sextNat 16 (e / 2 ^ 48)).natAbs ≤ 25) then
      some (trainResults 16 0 p)
    else none

/-- Training ends (R279 to R281, R283): the path, the channels trained in full and those that failed, link ECC as it takes effect, and
the results in use; a new record with those of all channels after any full training that succeeds. -/
def Device.train (d : Device) (t : Training) : Device :=
  let fast := d.fastPath t
  let full := if fast.isSome then t.patternBad.eraseDups.filter (fun b => b < 16) else List.range 16
  let failed := full.filter (fun b => t.failed.contains b)
  let kept := ((fast.getD []).filter (fun e => !full.contains e.1))
  let used := kept ++ t.results.filter (fun e => full.contains e.1 && !failed.contains e.1)
  let d := (((d.wr Reg.MEM_CFG_size t.size).wr Reg.MEM_TRAIN_path (if fast.isNone then 2 else if full.isEmpty then 1 else 3)).wr
    Reg.MEM_TRAIN_FULL_full_mask (maskOf full)).wr Reg.MEM_TRAIN_fail_mask (maskOf failed)
  let d := { d with mem := { d.mem with
    linkEcc := d.on Reg.MEM_CFG_link_ecc && decide (3200 ≤ t.rate), rfm := t.rfm, trained := used } }
  let d := failed.foldl (fun d b => d.raise (fault 0x03 5 0x800000 b)) d
  if full.any (fun b => !failed.contains b) then
    d.recordRequest
      { src := .training, kind := 0x11, unit := 0, base := 0x48000, size := 0x4000, slots := 2, extra := trainExtra t,
        payload := trainPayload used }
  else d

/-! ### Copy engines -/

/-- Copy engine `n`. -/
def Device.copy (d : Device) (n : Nat) : Copy := tget (fun _ => Copy.reset) d.copies n

/-- Copy engine `n` changed by `f`; CPY_n_STAT follows (R292). -/
def Device.modCopy (d : Device) (n : Nat) (f : Copy → Copy) : Device :=
  let x := f (d.copy n)
  ({ d with copies := tset (fun _ => Copy.reset) d.copies n x }.wr (Reg.CPY_STAT_busy n) (b2n x.run.isSome)).wr
    (Reg.CPY_STAT_waiting n) x.waiting.length

/-- A chain joins the chains that wait at engine `n`: none when 16 wait (R284). -/
def Device.copySubmit (d : Device) (n : Nat) (c : Chain) : Option Device :=
  if 16 ≤ (d.copy n).waiting.length then none else some (d.modCopy n (fun x => { x with waiting := x.waiting ++ [c] }))

/-- The COPY items that can go to engine `n`: heads of their lists that may start, oldest first (R85, R284). -/
def Device.copyItems (d : Device) (n : Nat) : List Item :=
  d.q.items.filter (fun x =>
    x.cls == 4 && x.stage == 0 && x.pay 0x28 4 == n && d.instState x.inst == 1 && d.mayStart x
      && ((d.queueHead x.inst x.queue).map (·.uid)) == some x.uid)

/-- The COPY items for engine `n` join its waiting chains while places are free. -/
def Device.copyTake (d : Device) (n : Nat) : Device :=
  (d.copyItems n).foldl
    (fun d x =>
      match d.copySubmit n { src := .item x.uid, addr := x.pay 0x20 8 } with
      | some d => d.modItem x.uid (fun y => { y with stage := 3 })
      | none => d) d

/-- `POST` of class COPY (R62, R284): the COPY items that came earlier join before it. -/
def execPostCopy (sq rd ra : Nat) (s : State) : Host.Outcome State Fault Refusal :=
  onDev s (fun d => d.runPost sq rd ra 0x03 (fun d k a w0 w1 w2 =>
    if 4 ≤ w0 then (resInvalid, d)
    else
      match (d.copyTake w0).copySubmit w0 { src := .post sq k a, addr := w2 * 2 ^ 32 + w1 } with
      | some d => (resOk, d)
      | none => (resBusy, d.copyTake w0)))

/-- Whether a waiting chain still stands: an item of an instance under reset has not started and no longer does (R92). -/
def Device.chainStands (d : Device) (c : Chain) : Bool :=
  match c.src with
  | .item u => (d.item u).any (fun x => d.instState x.inst != 5)
  | _ => true

/-- The LP5X address of the legacy front end's chains (R428). -/
def Device.blitArea (d : Device) : Nat := d.rd Reg.GLB_LPW_BASE_base * 2 ^ 30 + 0x20000000

/-- Whether CPY3 runs or holds a chain of the legacy front end. -/
def Device.blitting (d : Device) : Bool :=
  let x := d.copy 3
  (match x.run with | some c => c.src == .blit | none => false) || x.waiting.any (fun c => c.src == .blit)

/-- The next chain of a blit built in the reserved area, which holds 2,047 segments, and submitted to CPY3 once a place is free there
(R284, R439). -/
def Device.blitNext (d : Device) : Device :=
  if !d.on Reg.UDC_BLT_CTL_busy || d.blitting || 16 ≤ (d.copy 3).waiting.length then d
  else
    let n := min 2047 d.udc.blit.length
    let b := leBytes 16 0 ++ leBytes 4 n ++ leBytes 12 0 ++ (d.udc.blit.take n).flatten
    let d := (d.writeRaw .phys 8 d.blitArea b).2
    { d with udc := { d.udc with blit := d.udc.blit.drop n } }.modCopy 3 (fun x =>
      { x with waiting := x.waiting ++ [({ src := .blit, addr := d.blitArea } : Chain)] })

/-- `COPY_CHAIN_START` (R284): engine `n` starts the chain that has waited longest. -/
def execCopyChainStart (n : Nat) (s : State) : Host.Outcome State Fault Refusal :=
  onDev s (fun d =>
    d.when (decide (n < 4) && !d.on Reg.PWR_STATE_busy) (fun d =>
      let d := d.copyTake n
      let d := d.modCopy n (fun x => { x with waiting := x.waiting.filter d.chainStands })
      if (d.copy n).run.isSome then d
      else
        match (d.copy n).waiting with
        | [] => d
        | c :: cs =>
          let d := d.modCopy n (fun x => { x with run := some c, since := d.beat.clock, waiting := cs })
          let d := if n = 3 then d.blitNext else d
          let d := match c.src with
            | .item u => d.modItem u (fun x => { x with started := true, firstAt := some (x.firstAt.getD d.beatTime) })
            | _ => d
          (d.setReg (Reg.CPY_CHAIN_LO n) (w32 c.addr &&& 0xFFFFFFE0#32)).setReg (Reg.CPY_CHAIN_HI n) (w32 (c.addr / 2 ^ 32))))

/-- The spaces of a chain: of its header and segments, and of the data they name (R285, R428); none when the submitter may
not name them. -/
def Device.chainSpaces (d : Device) (src : ChainSrc) (w0 : Nat) : Option (Space × Space) :=
  let i := bits w0 20 16
  match src with
  | .item u => if bits w0 21 16 != 0 then none else (d.item u).map (fun x => (.inst x.inst, .inst x.inst))
  | .post q _ _ =>
    if bitOn w0 21 then (if q = 4 then some (.securePhys, .securePhys) else none)
    else if q = 4 || d.serves q i then some (.inst i, .inst i)
    else none
  | .blit => some (.phys, .legacy)

/-- Where a chain is read before its header names a space: a chain of a sequencer lies in the space that its header
names, which the header read at each candidate must confirm. -/
def Device.chainBase (d : Device) (src : ChainSrc) : List Space :=
  match src with
  | .item u => match d.item u with | some x => [.inst x.inst] | none => []
  | .post q _ _ => (if q = 4 then [Space.securePhys] else []) ++ (List.range 32).map Space.inst
  | .blit => [.phys]

/-- Whether a header keeps R285. -/
def headOk (b : List Byte) : Bool :=
  let w := leAt b 0 4
  bits w 31 22 == 0 && bits w 15 13 == 0 && bits w 7 5 == 0 && bits w 2 1 != 3 && decide (7 ≤ bits w 12 8)
    && leAt b 0x10 4 != 0 && decide (leAt b 0x10 4 < 65536) && zeroAt b 0x14 4

/-- Whether the segment at offset `o` keeps R285. -/
def copySegOk (b : List Byte) (o : Nat) : Bool :=
  leAt b (o + 0x10) 4 != 0 && decide (leAt b (o + 0x14) 4 < 4) && zeroAt b (o + 0x18) 8

/-- How a chain stops early: its status, its detail and the address. -/
structure CopyStop where
  status : Nat
  detail : Nat
  addr : Nat

/-- How a failed access ends a chain (R288): `det` is the detail of a translation fault. -/
def copyErr (e : MemErr) (det a : Nat) : CopyStop :=
  match e with
  | .trans => ⟨stTranslation, det, a⟩
  | .ecc cls => ⟨stFault, cls, a⟩

/-- The check unit over bytes (R286). -/
def checkFeed (w0 poly reg : Nat) (bs : List Byte) : Nat :=
  if bitOn w0 0 then bs.foldl (crcByte (bits w0 12 8 + 1) (poly % 2 ^ (bits w0 12 8 + 1)) (bitOn w0 3)) reg else reg

/-- The blocks of 128 bytes of a segment, from offset `off` on (R289): the check register, or the stop. -/
def Device.copyBlocks (d : Device) (sp : Space) (seg : List Byte) (w0 poly len : Nat) :
    Nat → Nat → Nat → Except CopyStop Nat × Device
  | 0, _, reg => (.ok reg, d)
  | k + 1, off, reg =>
    let n := min 128 (len - off)
    let src := leAt seg 0 8
    let dst := leAt seg 8 8
    let flags := leAt seg 0x14 4
    let (r, d) := if bitOn flags 0 then
        (.ok ((List.range n).map (fun j => b8 (src / 256 ^ ((off + j) % 4)))), d)
      else d.read sp 10 (src + off) n
    match r with
    | .error e => (.error (copyErr e 1 (src + off)), d)
    | .ok bs =>
      let reg := if bitOn flags 1 then reg else checkFeed w0 poly reg bs
      match d.write sp 10 (dst + off) bs with
      | (.error e, d) => (.error (copyErr e 2 (dst + off)), d)
      | (.ok (), d) => d.copyBlocks sp seg w0 poly len k (off + n) reg

/-- The segments of a chain in order (R286, R289); the first `whole` of them and `pages` of 4 KiB of the next when the chain is
cut (R288). -/
def Device.copySegs (d : Device) (sp : Space) (w0 poly : Nat) (cut : Option (Nat × Nat)) :
    List (List Byte) → Nat → Nat → Except CopyStop Nat × Device
  | [], _, reg => (.ok reg, d)
  | s :: ss, i, reg =>
    let len := leAt s 0x10 4
    let len := match cut with | some (w, p) => if i < w then len else if i = w then min len (p * 4096) else 0 | none => len
    match d.copyBlocks sp s w0 poly len ((len + 127) / 128) 0 reg with
    | (.error e, d) => (.error e, d)
    | (.ok reg, d) => d.copySegs sp w0 poly cut ss (i + 1) reg

/-- The bytes of a check value in memory (R287). -/
def checkBytes (w0 v : Nat) : List Byte :=
  let n := (bits w0 12 8 + 8) / 8
  if bitOn w0 4 then leBytes n v else beBytes n v

/-- The end of a chain's check (R287): its status and detail. -/
def Device.copyCheck (d : Device) (sp : Space) (w0 v : Nat) (last : List Byte) : (Nat × Nat × Bool) × Device :=
  let len := leAt last 0x10 4
  let bs := checkBytes w0 v
  match bits w0 2 1 with
  | 0 =>
    match d.write sp 10 (leAt last 8 8 + len) bs with
    | (.error e, d) => let x := copyErr e 2 0; ((x.status, x.detail, false), d)
    | (.ok (), d) => ((stDone, 0, false), d)
  | 1 =>
    match d.read sp 10 (leAt last 0 8 + len) bs.length with
    | (.error e, d) => let x := copyErr e 1 0; ((x.status, x.detail, false), d)
    | (.ok cs, d) => if cs = bs then ((stDone, 0, false), d) else ((stFault, 9, true), d)
  | _ => ((stDone, 0, false), d)

/-- Whether the instance of a running chain is being reset (R288, R304). -/
def Device.chainReset (d : Device) (sp : Space) : Bool :=
  match sp with
  | .inst i => d.instState i == 5
  | _ => false

/-- The header and the segments of a chain: its spaces, word 0 and bytes, or the stop (R285, R288). -/
def Device.chainRead (d : Device) (c : Chain) : Except CopyStop (Space × Space × List Byte) × Device :=
  let cands := d.chainBase c.src
  let fits := fun (sp : Space) =>
    match (d.read sp 10 c.addr 32).1 with
    | .ok b => (match d.chainSpaces c.src (leAt b 0 4) with | some p => p.1 == sp | none => false)
    | .error _ => false
  match cands.find? fits with
  | none =>
    match cands.findSome? (fun sp => match (d.read sp 10 c.addr 32).1 with | .ok b => some b | .error _ => none) with
    | some _ => (.error ⟨stInvalid, 5, c.addr⟩, d)
    | none =>
      match cands with
      | sp :: _ =>
        match d.read sp 10 c.addr 32 with
        | (.error e, d) => (.error (copyErr e 3 c.addr), d)
        | (.ok _, d) => (.error ⟨stInvalid, 5, c.addr⟩, d)
      | [] => (.error ⟨stInvalid, 5, c.addr⟩, d)
  | some sp =>
    match d.read sp 10 c.addr 32 with
    | (.error e, d) => (.error (copyErr e 3 c.addr), d)
    | (.ok h, d) =>
      if c.addr % 32 != 0 || !headOk h then (.error ⟨stInvalid, 5, c.addr⟩, d)
      else
        match d.read sp 10 (c.addr + 32) (leAt h 0x10 4 * 32) with
        | (.error e, d) => (.error (copyErr e 3 (c.addr + 32)), d)
        | (.ok ss, d) =>
          if (List.range (leAt h 0x10 4)).all (fun k => copySegOk ss (32 * k)) then
            match d.chainSpaces c.src (leAt h 0 4) with
            | some (a, b) => (.ok (a, b, h ++ ss), d)
            | none => (.error ⟨stInvalid, 5, c.addr⟩, d)
          else (.error ⟨stInvalid, 5, c.addr⟩, d)

/-- The segments of a chain's bytes. -/
def chainSegs (b : List Byte) : List (List Byte) :=
  (List.range (leAt b 0x10 4)).map (fun k => (b.drop (32 + 32 * k)).take 32)

/-- A chain of engine `n` that a failed access in space `sp` ends: its status and detail, and the record of a translation fault (R288). -/
def Device.copyFault (d : Device) (sp : Space) (n : Nat) (e : CopyStop) : (Nat × Nat) × Device :=
  ((e.status, e.detail),
    if e.status = stTranslation then
      d.raise { fault 0x0B 1 0xA00000 n with addr := e.addr, inst := match sp with | .inst i => some i | _ => none }
    else d)

/-- The work of a chain (R285 to R289): its status and detail. `whole` and `pages` say where a chain of an instance under reset
stops. -/
def Device.chainWork (d : Device) (c : Chain) (n whole pages : Nat) : (Nat × Nat) × Device :=
  match d.chainRead c with
  | (.error e, d) =>
    ((e.status, e.detail), if e.status = stTranslation then d.raise { fault 0x0B 1 0xA00000 n with addr := e.addr } else d)
  | (.ok (csp, sp, b), d) =>
    let w0 := leAt b 0 4
    let width := bits w0 12 8 + 1
    let cut := if d.chainReset sp then some (whole, pages) else none
    match d.copySegs sp w0 (leAt b 4 4) cut (chainSegs b) 0 (leAt b 8 4 % 2 ^ width) with
    | (.error e, d) => d.copyFault sp n e
    | (.ok reg, d) =>
      if cut.isSome then ((stAbandoned, 1), d)
      else if !bitOn w0 0 then ((stDone, 0), d)
      else
        let v := crcEnd width (bitOn w0 4) (leAt b 0xC 4) reg
        let ((st, det, bad), d) := d.copyCheck sp w0 v ((chainSegs b).getLastD [])
        match d.write csp 10 (c.addr + 0x18) (leBytes 4 v ++ leBytes 4 (b2n bad)) with
        | (.ok (), d) => ((st, det), if bad then d.raise (fault 0x09 2 0xA00000 n) else d)
        | (.error e, d) => d.copyFault csp n (copyErr e 3 (c.addr + 0x18))

/-- A chain of the legacy blit ends (R439): the next one follows, or the blit ends. -/
def Device.blitEnd (d : Device) (status : Nat) : Device :=
  if status = stDone && !d.udc.blit.isEmpty then d.blitNext
  else
    let d := { d with udc := { d.udc with blit := [] } }.wr Reg.UDC_BLT_CTL_busy 0
    (if status = stDone then d else d.wr Reg.UDC_BLT_CTL_err 1).udcEvent 8

/-- The running chain of engine `n` ends (R287, R288). The record of an item that a reset of its instance cuts follows with the others
of that reset (R93). -/
def Device.chainEnd (d : Device) (n whole pages : Nat) : Device :=
  match (d.copy n).run with
  | none => d
  | some c =>
    let ((st, det), d) := d.chainWork c n whole pages
    let shown := match c.src with
      | .item u => (match d.item u with | some x => if st = stDone then x.doneStatus d else st | none => st)
      | _ => st
    let d := (d.modCopy n (fun x => { x with run := none })).wr (Reg.CPY_STAT_last n) shown
    match c.src with
    | .item u =>
      if st = stAbandoned then d.modItem u (fun x => { x with stage := 0 }) else d.complete u st det
    | .post q k _ => d.endPost q k st
    | .blit => d.blitEnd st

/-- `COPY_CHAIN_END` (R287, R288). -/
def execCopyChainEnd (n whole pages : Nat) (s : State) : Host.Outcome State Fault Refusal :=
  onDev s (fun d => d.chainEnd n whole pages)

end Sys2Proof.Machine
end

