-- ==== Sys2Proof/Machine/Ports.lean ====
section
/-!
DEFINITION. The output crossbar and the ports (R198 to R202): the needs of streams, link capacity, the apply sequence, the
loss of a link, and the DSC setting of a head.
-/

namespace Sys2Proof.Machine

open Sys2Proof

/-- Port `p` beyond its registers. -/
def Device.port (d : Device) (p : Nat) : Port := tget (fun _ => Port.reset) d.disp.ports p

/-- Port `p` changed by `f`. -/
def Device.modPort (d : Device) (p : Nat) (f : Port → Port) : Device :=
  { d with disp := { d.disp with ports := tset (fun _ => Port.reset) d.disp.ports p (f (d.port p)) } }

/-- The bits per pixel of a head's stream times 16: its DSC target, or three components (R198, R433). -/
def Device.streamBits (d : Device) (h : Nat) : Nat :=
  match (d.head h).dsc with
  | some t => t
  | none =>
    if d.legacyHead h then 24 * 16
    else match (timingOf (d.activeTiming h)).bpc with | 0 => 18 * 16 | 1 => 24 * 16 | _ => 30 * 16

/-- The need of head `h` in units of 1/16 kb/s (R198); a stopped head sends nothing. -/
def Device.streamNeed (d : Device) (h : Nat) : Nat :=
  if d.running h then (timingOf (d.activeTiming h)).khz * d.streamBits h else 0

/-- The link rate in kb/s of a rate code (R201); none for a code that the standard of the port does not have. -/
def linkRate (edp : Bool) (code : Nat) : Option Nat :=
  match code with
  | 0 => some 1620000
  | 1 => some 2700000
  | 2 => some 5400000
  | 3 => some 8100000
  | 4 => if edp then none else some 10000000
  | 5 => if edp then none else some 13500000
  | 6 => if edp then none else some 20000000
  | 8 => if edp then some 2160000 else none
  | 9 => if edp then some 2430000 else none
  | 10 => if edp then some 3240000 else none
  | 11 => if edp then some 4320000 else none
  | _ => none

/-- The lanes of a lane code (R204). -/
def laneCount (code : Nat) : Nat := if code = 0 then 1 else if code = 1 then 2 else 4

/-- Whether needs of `need`/16 kb/s fit a link (R198): efficiency 0.8 or 128/132, times 63/64 in MST. -/
def fitsLink (need rate lanes : Nat) (wide mst : Bool) : Bool :=
  let cap := lanes * rate * (if wide then 128 * 5 else 4 * 132) * (if mst then 63 else 64)
  decide (need * (132 * 5 * 64) ≤ cap * 16)

/-- The streams that DP_p_STREAM names; single-stream transport has stream 0 only, and eDP no MST (R198, R201). -/
def Device.namedStreams (d : Device) (p : Nat) : List (Option Nat) :=
  let w := (d.reg (Reg.DP_STREAM p)).toNat
  let mst := d.on (Reg.DP_CTL_mst p) && !d.on (Reg.DP_CTL_edp p)
  (List.range 4).map (fun s =>
    if w.testBit (8 * s + 7) && (mst || s == 0) then some (bits w (8 * s + 2) (8 * s)) else none)

/-- The sum of the needs of streams. -/
def Device.needs (d : Device) (ss : List (Option Nat)) : Nat := (ss.map (fun s => match s with | some h => d.streamNeed h | none => 0)).sum

/-- The settings of DP_p_CTL whose change trains the link: enable, eDP, lanes and rate. -/
def Device.linkCfg (d : Device) (p : Nat) : Word := d.reg (Reg.DP_CTL p) &&& 0xFF000000#32

/-- The link of port `p` no longer trained. -/
def Device.unlink (d : Device) (p : Nat) : Device := (d.wr (Reg.DP_STATUS_trained p) 0).wr (Reg.DP_STATUS_lanes_active p) 0

/-- The sequence of R198 once PORTS is ON. -/
def Device.dpRun (d : Device) (p : Nat) (sink : DpSink) : Device :=
  let edp := d.on (Reg.DP_CTL_edp p)
  let mst := d.on (Reg.DP_CTL_mst p) && !edp
  let lanes := laneCount (d.rd (Reg.DP_CTL_lanes p))
  let code := d.rd (Reg.DP_CTL_rate p)
  let new := d.namedStreams p
  let d := ((d.wr (Reg.DP_STATUS_done p) 1).wr (Reg.DP_STATUS_hpd p) (b2n sink.present)).modPort p (fun x => { x with wait := none })
  if !d.on (Reg.DP_CTL_enable p) then
    (d.unlink p).modPort p (fun x => { x with streams := [none, none, none, none], cfg := d.linkCfg p })
  else
    let fit := match linkRate edp code with
      | some r => fitsLink (d.needs new) r lanes (decide (4 ≤ code) && decide (code ≤ 6)) mst
      | none => true
    if !fit then d.wr (Reg.DP_STATUS_bw_err p) 1
    else
      let same := d.on (Reg.DP_STATUS_trained p) && (d.port p).cfg == d.linkCfg p
      if same then d.modPort p (fun x => { x with streams := new, mst := mst })
      else if sink.present && sink.trains && (linkRate edp code).isSome then
        ((d.wr (Reg.DP_STATUS_trained p) 1).wr (Reg.DP_STATUS_lanes_active p) lanes).modPort p
          (fun x => { x with streams := new, mst := mst, cfg := d.linkCfg p, sink := sink })
      else
        ((d.unlink p).wr (Reg.DP_STATUS_train_fail p) 1).modPort p
          (fun x => { x with streams := [none, none, none, none], cfg := d.linkCfg p })

/-- A write of 1 to DP_p_CTL.apply (R198): done clears; the port waits for PORTS before it trains (R371). -/
def Device.dpApply (d : Device) (p : Nat) (sink : DpSink) : Device :=
  let d := d.wr (Reg.DP_STATUS_done p) 0
  if d.rd (Reg.PWR_DOM_state 6) = 2 then d.dpRun p sink else d.modPort p (fun x => { x with wait := some sink })

/-- `DP_APPLY` (R198, R199): the write and what the sink then reports. -/
def execDpApply (p : Nat) (sink : DpSink) (s : State) : Host.Outcome State Fault Refusal :=
  onDev s (fun d => d.when (decide (p < 8) && !d.flt.lostCompute) (fun d => d.dpApply p sink))

/-- `DP_LINK_LOST` (R200): a trained link loses lock, or, with `hpd`, the sink drops HPD, trained or not. -/
def execDpLinkLost (p : Nat) (hpd : Bool) (s : State) : Host.Outcome State Fault Refusal :=
  onDev s (fun d =>
    d.when (decide (p < 8) && !d.flt.lostCompute && (d.on (Reg.DP_STATUS_trained p) || hpd)) (fun d =>
      let d := (d.unlink p).wr (Reg.DP_STATUS_link_lost p) 1
      (if hpd then d.wr (Reg.DP_STATUS_hpd p) 0 else d).raise (fault 0x0C 4 (chanBase (p / 2) 3) p)))

/-- `HPD_IRQ` (R200): a short low pulse of HPD, whose level is high again after it. -/
def execHpdIrq (p : Nat) (s : State) : Host.Outcome State Fault Refusal :=
  onDev s (fun d => d.when (decide (p < 8) && !d.flt.lostCompute) (fun d => (d.wr (Reg.DP_STATUS_hpd_irq p) 1).wr (Reg.DP_STATUS_hpd p) 1))

/-- The ports that carry head `h`. -/
def Device.carriers (d : Device) (h : Nat) : List Nat :=
  (List.range 8).filter (fun p => d.on (Reg.DP_STATUS_trained p) && (d.port p).streams.any (· == some h))

/-- The bits per component that head `h` sends (R182, R433). -/
def Device.sentBits (d : Device) (h : Nat) : Nat :=
  if d.legacyHead h then 8 else match (timingOf (d.activeTiming h)).bpc with | 0 => 6 | 1 => 8 | _ => 10

/-- The ports that send the pixels of head `h` (R200, R201): the trained ones that carry it, and for six bits per component those of
them that run eDP. -/
def Device.senders (d : Device) (h : Nat) : List Nat :=
  (d.carriers h).filter (fun p => d.sentBits h != 6 || bitOn (d.port p).cfg.toNat 30)

/-- A post-blend pixel as a port sends it, `n` bits per component (R173, R201). -/
def sentPixel (n : Nat) (cs : List Nat) : Nat := cs.foldl (fun v c => v * 2 ^ n + c / 2 ^ (10 - n)) 0

/-- Ports whose capacity the timing of head `h` now exceeds drop its stream (R200). -/
def Device.recheckPorts (d : Device) (h : Nat) : Device :=
  (d.carriers h).foldl (fun d p =>
    let x := d.port p
    let c := x.cfg.toNat
    let code := bits c 27 24
    let fit := match linkRate (bitOn c 30) code with
      | some r => fitsLink (d.needs x.streams) r (laneCount (bits c 29 28)) (decide (4 ≤ code) && decide (code ≤ 6)) x.mst
      | none => true
    if fit then d
    else (d.wr (Reg.DP_STATUS_bw_err p) 1).modPort p (fun x =>
      { x with streams := x.streams.map (fun s => if s == some h then none else s) })) d

/-- Whether the DSC setting of head `h` keeps the limits of R202. -/
def Device.dscOk (d : Device) (h : Nat) : Bool :=
  let t := timingOf (d.activeTiming h)
  let n := 2 ^ d.rd (Reg.HEAD_DSC_slices h)
  let b := d.rd (Reg.HEAD_DSC_bpp h)
  let sh := d.rd (Reg.HEAD_DSC_slice_h h)
  t.bpc != 0 && decide (128 ≤ b) && decide (b ≤ 384) && t.hactive % n == 0 && decide (t.hactive / n ≤ 2560) && sh != 0
    && t.vactive % sh == 0

/-- The DSC encoder of head `h` reads its register (R202), and the ports check the new need (R200). -/
def Device.readDsc (d : Device) (h : Nat) : Device :=
  let on := d.on (Reg.HEAD_DSC_enable h)
  let ok := on && d.dscOk h
  let d := d.modHead h (fun x => { x with dsc := if ok then some (d.rd (Reg.HEAD_DSC_bpp h)) else none })
  (if on && !ok then d.wr (Reg.HEAD_STATUS_dsc_err h) 1 else d).recheckPorts h

end Sys2Proof.Machine
end

