-- ==== Sys2Proof/Machine/Latch.lean ====
section
/-!
DEFINITION. The latch line of a head and what leads to it: the cut-off (R184), Adaptive-Sync (R187), the pending set taking
effect (R161, R183, R189 to R191), withholding (R164), self refresh (R195, R196), frame synchronisation (R197), rectangle
decisions (R192, R193), start and restart (R188, R190).
-/

namespace Sys2Proof.Machine

open Sys2Proof

/-! ### Rectangles -/

/-- A rectangle in effect: where it lies, its expected value, and its control word. -/
structure Rect where
  x : Nat
  y : Nat
  w : Nat
  h : Nat
  exp : Nat
  ctl : Nat

/-- Rectangle `k` of head `h` in effect: 0 to 15 the sets of R191, 16 to 19 the regions of a legacy head (R437). -/
def Device.rect (d : Device) (h k : Nat) : Rect :=
  let f := fun j => if k < 16 then (d.reg (Reg.HEAD_RC_ACTIVE_POS h k + 4 * j)).toNat
    else ((d.head h).regions.getD (4 * (k - 16) + j) 0#32).toNat
  let hi := if k < 16 then 29 else 27
  let lo := if k < 16 then 13 else 11
  { x := bits (f 0) lo 0, y := bits (f 0) hi 16, w := bits (f 1) lo 0, h := bits (f 1) hi 16, exp := f 2, ctl := f 3 }

/-- Whether a rectangle set lies partly outside the active area (R191). -/
def Device.rectOut (d : Device) (h k : Nat) : Bool :=
  let r := d.rect h k
  let (w, v) := d.activeSize h
  r.w == 0 || r.h == 0 || decide (w < r.x + r.w) || decide (v < r.y + r.h)

/-- Whether rectangle `k` of head `h` is computed: enabled, and a set not bad (R191, R437). -/
def Device.rectOn (d : Device) (h k : Nat) : Bool :=
  bitOn (d.rect h k).ctl 31 && (if k < 16 then !d.rectOut h k else d.legacyHead h)

/-- The lines of a rectangle within the active area: the first and the one after the last. -/
def Device.rectLines (d : Device) (h k : Nat) : Nat × Nat :=
  let r := d.rect h k
  let v := (d.activeSize h).2
  (min v r.y, min v (r.y + r.h))

/-- The action of a rectangle set whose mismatches reached its threshold (R192, R193). -/
def Device.rectAct (d : Device) (h k got : Nat) : Device :=
  let r := d.rect h k
  let busy := d.on (Reg.HEAD_STATUS_fallback h) || d.on (Reg.HEAD_STATUS_blanked h)
  let a := bits r.ctl 9 8
  let d := d.headEvent h 1
  let d := d.raise { fault 0x09 1 (chanBase (h / 2) 3) h with
    secure := true, sub := k, addr := got, infoA := (d.head h).frame % 2 ^ 32, infoB := r.exp }
  if a = 2 && !d.on (Reg.HEAD_STATUS_blanked h) && (!busy || (d.head h).fallNext) then
    let d := if (d.head h).fallNext then d.wr (Reg.HEAD_STATUS_fallback h) 0 else d
    ((d.wr (Reg.HEAD_STATUS_blanked h) 1).headEvent h 2).modHead h (fun x => { x with fallNext := false })
  else if a = 1 && !busy then ((d.wr (Reg.HEAD_STATUS_fallback h) 1).headEvent h 2).modHead h (fun x => { x with fallNext := true })
  else d

/-- Rectangle `k` of head `h` decided for the frame (R192, R437): the value, and what a mismatch does. A set acts in every
mismatching frame whose run has reached its threshold (log entry 55). -/
def Device.rectDecide (d : Device) (h k : Nat) : Device :=
  let r := d.rect h k
  let x := d.head h
  let leg := d.legacyHead h
  let reg := tget (fun _ => if leg then 0xFFFF else 0xFFFFFFFF) x.crcs k
  let v := if leg then reg else crcEnd 32 true 0xFFFFFFFF reg
  let d := d.setHead h { x with gots := tput x.gots k v }
  if 16 ≤ k then d
  else
    let bad := if leg then v != r.exp % 65536 else v != r.exp
    let d := d.wr (Reg.HEAD_RC_STAT_mismatch h k) (b2n bad)
    if !bad then d.wr (Reg.HEAD_RC_STAT_run h k) 0
    else
      let d := (d.bump (Reg.HEAD_RC_STAT_run h k)).bump (Reg.HEAD_RC_STAT_count h k)
      if max 1 (bits r.ctl 3 0) ≤ d.rd (Reg.HEAD_RC_STAT_run h k) then d.rectAct h k v else d

/-- Whether rectangle `k` can be decided: its lines are composed and it has no value yet. -/
def Device.rectReady (d : Device) (h k : Nat) : Bool :=
  let x := d.head h
  d.rectOn h k && !(x.gots.any (fun g => g.1 == k)) && decide (0 < x.line) && decide ((d.rectLines h k).2 ≤ x.line)

/-- A legacy region's result written at the end of a frame (R437, R438): a frozen region holds its values. -/
def Device.regionGot (d : Device) (h k v : Nat) : Device :=
  let r := d.rect h (16 + k)
  if bitOn r.ctl 15 then d
  else
    let bad := v != r.exp % 65536
    let d := (d.wr (Reg.UDC_R_GOT_got h k) v).wr (Reg.UDC_R_CTL_mismatch h k) (b2n bad)
    if bad then d.udcEvent (4 + h) else d

/-- The rectangles of the ended frame: those still open are decided, and the values are written to the registers (R192). -/
def Device.closeRects (d : Device) (h : Nat) : Device :=
  if (d.head h).closed then d else
  let d := d.modHead h (fun x => { x with closed := true })
  let d := (List.range 20).foldl (fun d k => if d.rectReady h k then d.rectDecide h k else d) d
  (d.head h).gots.foldl (fun d g =>
    if g.1 < 16 then d.wr (Reg.HEAD_RC_GOT_value h g.1) g.2 else d.regionGot h (g.1 - 16) g.2) d

/-- The head's frame closes at line vactive (R192, R437), once its lines are composed. -/
def Device.closeDue (d : Device) (h : Nat) : Device :=
  if d.running h && !d.on (Reg.HEAD_STATUS_restarting h) && decide ((d.activeSize h).2 ≤ (d.head h).line)
      && decide (d.vactiveAt h ≤ d.beat.clock) then d.closeRects h
  else d

/-- Every head's frame that has reached line vactive closes. -/
def Device.closeFrames (d : Device) : Device := (List.range 8).foldl (fun d h => d.closeDue h) d

/-- `RECT_CHECK_RESULT` (R192): rectangle `k` of head `h` is decided at its last pixel. -/
def execRectCheckResult (h k : Nat) (s : State) : Host.Outcome State Fault Refusal :=
  onDev s (fun d => d.when (decide (h < 8) && decide (k < 20) && d.rectReady h k) (fun d => (d.rectDecide h k).closeDue h))

/-! ### The cut-off -/

/-- Whether Adaptive-Sync still holds the cut-off back (R187). -/
def Device.vrrHolds (d : Device) (h : Nat) : Bool :=
  (d.head h).coming.isEmpty && decide ((d.head h).extra < d.vrrRoom h)

/-- Whether a commit changes a self-refreshing head by selective update alone (R196). -/
def Device.suOnly (d : Device) (h : Nat) : Bool :=
  d.on (Reg.HEAD_PSR_su h) && (d.carriers h).all (fun p => (d.port p).sink.su)
    && !((d.head h).coming.any (fun p => p.group == 0))

/-- A reprojection pass that the cutoff finds under way is abandoned (R124). -/
def Device.rpjAbandon (d : Device) (h : Nat) (r : Option RpjPass) : Device :=
  match r with
  | none => d
  | some _ =>
    let d := (d.rpjFree h).bump (Reg.RAS_RPJ_STAT_late (h / 2) (h % 2))
    (d.showRpj (h / 2)).raise { fault 0x0C 3 (chanBase (h / 2) 1) h with infoA := (d.head h).frame % 2 ^ 32 }

/-- The cut-off of head `h` (R184, R196, R124): the coming set closes, self refresh ends, and an unfinished reprojection
pass is abandoned. -/
def Device.cutoff (d : Device) (h : Nat) : Device :=
  let d := ((d.atClock (d.cutoffAt h)).closeDue h).modHead h (fun x => { x with cut := true })
  let d :=
    if d.on (Reg.HEAD_STATUS_psr h) && !(d.head h).coming.isEmpty && !d.suOnly h then
      (d.wr (Reg.HEAD_STATUS_psr h) 0).headEvent h 7
    else d
  d.rpjAbandon h (d.head h).rpj

/-- Whether the cut-off of head `h` can fall now. -/
def Device.canCut (d : Device) (h : Nat) : Bool :=
  decide (h < 8) && d.running h && !d.on (Reg.HEAD_STATUS_restarting h) && !(d.head h).cut && !d.vrrHolds h

/-- `HEAD_CUTOFF` (R184). -/
def execHeadCutoff (h : Nat) (s : State) : Host.Outcome State Fault Refusal :=
  onDev s (fun d => d.when (d.canCut h) (fun d => d.cutoff h))

/-- `VRR_LINE_INSERT` (R187): one more front-porch line before the cut-off. -/
def execVrrLineInsert (h : Nat) (s : State) : Host.Outcome State Fault Refusal :=
  onDev s (fun d =>
    d.when (decide (h < 8) && d.running h && !d.on (Reg.HEAD_STATUS_restarting h) && !(d.head h).cut && d.vrrHolds h)
      (fun d => (d.atClock (d.cutoffAt h)).modHead h (fun x => { x with extra := x.extra + 1 })))

/-! ### What the latch line applies -/

/-- A head's state bits after it stops (R189). -/
def Device.stopHead (d : Device) (h : Nat) : Device :=
  (((d.wr (Reg.HEAD_STATUS_running h) 0).wr (Reg.HEAD_STATUS_restarting h) 0).wr (Reg.HEAD_STATUS_psr h) 0).wr
    (Reg.HEAD_STATUS_locked h) 0

/-- A timing set that the coming set holds takes effect, or not, at the latch line (R183, R189, R190). -/
def Device.applyTiming (d : Device) (h : Nat) (ws : List Word) : Device :=
  let old := timingOf (d.activeTiming h)
  let t := timingOf ws
  if !t.enable then
    ((d.setRegs (Reg.HEAD_ACTIVE_HTIME h) ws).stopHead h).wr (Reg.HEAD_STATUS_vrr h) 0
  else if !d.timingApplies h ws then d.timingBad h
  else
    let d := (d.setRegs (Reg.HEAD_ACTIVE_HTIME h) ws).wr (Reg.HEAD_STATUS_vrr h) (b2n t.vrr)
    if d.running h && (t.khz != old.khz || t.hactive != old.hactive || t.vactive != old.vactive || t.htotal != old.htotal
        || t.vtotal != old.vtotal) then
      ((d.wr (Reg.HEAD_STATUS_restarting h) 1).headEvent h 5).modHead h (fun x =>
        { x with base := d.beat.clock + 80000, lines := 0 })
    else d

/-- A layer group of the coming set takes effect (R161, R178, R434): an invalid legacy plane shows as disabled. -/
def Device.applyLayer (d : Device) (h g : Nat) (ws : List Word) : Device :=
  let k := g - 1
  let plane := planeOf ws
  let ws8 := ws.take 8
  let ws8 := if plane.isSome && layerInvalid ws8 then
      match ws8 with | w :: r => w32 (putBits w.toNat 0 0 0) :: r | [] => []
    else ws8
  let d := (d.setRegs (Reg.CMP_ACTIVE_CTL h k) ws8).wr (Reg.CMP_HEAD_STATUS_faulted h)
    (putBits (d.rd (Reg.CMP_HEAD_STATUS_faulted h)) k k 0)
  match plane with
  | some p => d.modHead h (fun x => { x with planes := tput x.planes k p })
  | none => d

/-- One group of the coming set takes effect. -/
def Device.applyGroup (d : Device) (h : Nat) (p : Pend) : Device :=
  if p.group = 0 then d.applyTiming h p.words
  else if p.group ≤ 17 then d.applyLayer h p.group p.words
  else if p.group = 18 then
    (List.range 16).foldl (fun d k => d.setRegs (Reg.HEAD_RC_ACTIVE_POS h k) ((p.words.drop (4 * k)).take 4)) d
  else d.modHead h (fun x => { x with regions := p.words })

/-- The shadowed registers of head `h` that take effect at its latch line (R421). -/
def latchShadows (h : Nat) : List Nat :=
  [Reg.CMP_BG h, Reg.CMP_OWN h 0, Reg.CMP_OWN h 1, Reg.CMP_OWN h 2, Reg.CMP_OWN h 3, Reg.CMP_GOWN h, Reg.CMP_WB_CFG h,
   Reg.CMP_WB_LO h, Reg.CMP_WB_HI h, Reg.CMP_WB_PITCH h, Reg.CMP_GMIR_LO h, Reg.CMP_GMIR_HI h, Reg.CMP_GLCRC_LO h,
   Reg.CMP_GLCRC_HI h, Reg.CMP_GCHK h, Reg.HEAD_HORIZON h]

/-- The layers of head `h` that take part with the active sets, before withholding. -/
def Device.liveLayers (d : Device) (h : Nat) : List Shown :=
  d.shown h (d.activeSet h) (d.head h).planes (d.rd (Reg.CMP_HEAD_STATUS_faulted h) % 2 ^ 16)

/-- Withholding and the load, evaluated at a latch line (R164, R170); a head that stops there fetches nothing. -/
def Device.withhold (d : Device) (h : Nat) : Device :=
  let (w, v) := d.activeSize h
  let ls := if d.running h then d.liveLayers h else []
  let lim := d.fetchLimit h w
  let out := maskOf (withholdFrom w v lim ls 16 [])
  let was := d.rd (Reg.CMP_WITHHELD_layers h)
  let d := (d.wr (Reg.CMP_WITHHELD_layers h) out).wr (Reg.CMP_HEAD_STATUS_over h) (b2n (out != 0))
  let d := (d.wr (Reg.CMP_LOAD_limit h) (satAt 0xFFFF lim)).wr (Reg.CMP_LOAD_worst h)
    (satAt 0xFFFF (worstFetch (ls.filter (fun s => !out.testBit s.k)) w v))
  if out != 0 && out != was then
    d.raise { fault 0x0C 6 (chanBase (h / 2) 2) h with infoA := (d.head h).frame % 2 ^ 32, infoB := out }
  else d

/-- Whether the writeback registers in effect can be used (R174). -/
def Device.wbUsable (d : Device) (h : Nat) : Bool :=
  let f := d.rdAct (Reg.CMP_WB_CFG_format h)
  let linear := d.rdAct (Reg.CMP_WB_CFG_layout h) == 1
  (f == 4 || f == 7 || (f == 3 && linear))
    && (if linear then d.rdAct (Reg.CMP_WB_PITCH_pitch h) % 64 == 0 else wbits (d.actReg (Reg.CMP_WB_LO h)) 11 6 == 0)

/-- WB_CFG.mode of head `h` turned off, in the register and in effect. -/
def Device.wbOff (d : Device) (h : Nat) : Device :=
  let d := d.wr (Reg.CMP_WB_CFG_mode h) 0
  d.setAct (Reg.CMP_WB_CFG h) (w32 (putBits (d.actReg (Reg.CMP_WB_CFG h)).toNat 1 0 0))

/-- Writeback of the frame that a latch line begins (R174, R305). -/
def Device.wbStart (d : Device) (h : Nat) : Device :=
  let m := d.rdAct (Reg.CMP_WB_CFG_mode h)
  let go := fun (d : Device) (b : Bool) => d.modHead h (fun x => { x with wb := b })
  if !d.running h || d.on (Reg.HEAD_STATUS_restarting h) || m = 0 || m = 3 then go d false
  else if !d.wbUsable h then (go (d.wbOff h) false).wr (Reg.CMP_STATUS_cfg_err (h / 2)) 1
  else go d (d.instState (d.rdAct (Reg.CMP_WB_CFG_inst h)) != 4)

/-! ### Frame synchronisation -/

/-- The clock of the reference of head `h` (R197). -/
def Device.syncRef (d : Device) (h : Nat) : Option Nat :=
  match d.rd (Reg.HEAD_SYNC_source h) with
  | 1 => d.disp.genlock
  | 2 =>
    let k := d.rd (Reg.HEAD_SYNC_head h)
    if d.running k then some (d.lineAt k 0) else none
  | 3 => d.disp.weftRef
  | _ => none

/-- WFT_HEAD_n_WALL of a head that the Weft frame lock holds (R400). -/
def Device.showWall (d : Device) (h : Nat) : Device :=
  if d.rd (Reg.HEAD_SYNC_source h) = 3 && d.on (Reg.HEAD_STATUS_locked h) then
    d.setReg (Reg.WFT_HEAD_WALL h) (d.reg Reg.WFT_FLOCK_FRAME - w32 (d.head h).frame)
  else d

/-- The comparison of a latch with the reference (R197): the correction of the following frame and the lock. -/
def Device.frameSync (d : Device) (h : Nat) : Device :=
  let src := d.rd (Reg.HEAD_SYNC_source h)
  let t := timingOf (d.activeTiming h)
  let period := max 1 (lineTicks t t.vtotal)
  let line := max 1 (lineTicks t 1)
  let (locked, fix) : Bool × Int := match d.syncRef h with
    | none => (false, 0)
    | some r =>
      let e := (((d.beat.clock : Int) - r) % (period : Int)).toNat
      let late := decide (e ≤ period / 2)
      let m := if late then e else period - e
      let n := min (m / line) (d.rd (Reg.HEAD_SYNC_step h))
      (decide (m ≤ line), if late then - (min n (t.vtotal - t.vactive - t.vfront - t.vsync - 1) : Nat) else (n : Int))
  let was := d.on (Reg.HEAD_STATUS_locked h)
  let d := ((d.wr (Reg.HEAD_STATUS_locked h) (b2n locked)).modHead h (fun x => { x with adjust := fix })).showWall h
  if was && !locked && src != 0 then (d.headEvent h 8).raise (fault 0x0C 5 (chanBase (h / 2) 3) h) else d

/-- GENLOCK_OUT pulses at the latch lines of the lowest head with gen_out (R197). -/
def Device.genlockOut (d : Device) (h : Nat) : Device :=
  if (List.range 8).find? (fun k => d.on (Reg.HEAD_SYNC_gen_out k)) == some h then d.emit (.pin "GENLOCK_OUT" 0 1) else d

/-! ### Self refresh -/

/-- Whether head `h` enters self refresh (R195). -/
def Device.psrEnters (d : Device) (h : Nat) : Bool :=
  d.on (Reg.HEAD_PSR_enable h) && !d.on (Reg.HEAD_STATUS_psr h)
    && decide (max 1 (d.rd (Reg.HEAD_PSR_idle h)) ≤ (d.head h).idle)
    && (match d.carriers h with | [p] => !(d.port p).mst && (d.port p).sink.psr | _ => false)
    && (List.range 16).all (fun k => !d.on (Reg.HEAD_RC_ACTIVE_CTL_enable h k)) && !(d.head h).wb

/-- The lines of the update region of a selective update (R196): of the old and new rectangles of the changed layers,
widened to the granularity of the sink. -/
def Device.updateBand (d : Device) (h : Nat) (coming : List Pend) : Option (Nat × Nat) :=
  let v := (d.activeSize h).2
  let gran := ((d.carriers h).map (fun p => max 1 (d.port p).sink.gran)).foldl max 1
  let spans := (coming.filter (fun p => 1 ≤ p.group && p.group ≤ 17)).flatMap (fun p =>
    [layerOf (d.activeSet h (p.group - 1)), layerOf p.words].filterMap (fun l =>
      if l.enable && decide (l.y < v) then some (l.y, min v (l.y + l.h)) else none))
  match spans with
  | [] => none
  | s :: ss =>
    let lo := ss.foldl (fun a t => min a t.1) s.1
    let hi := ss.foldl (fun a t => max a t.2) s.2
    some (lo / gran * gran, min v (ceilDiv hi gran * gran))

/-! ### The legacy side of a latch line -/

/-- What the latch line of a legacy head shows in the UDC-4 map (R434, R438). -/
def Device.legacyLatch (d : Device) (h : Nat) : Device :=
  if !d.legacyHead h then d
  else
    let x := d.head h
    let d := d.setReg (Reg.UDC_H_FRAME h) (w32 x.frame)
    let d := if x.checks.isEmpty && x.coming.isEmpty then d.wr (Reg.UDC_H_CTL_pending h) 0 else d
    let d := (List.range 4).foldl (fun d p =>
      d.wr (Reg.UDC_P_CUR_addr h p) ((layerOf (d.activeSet h p)).addr / 64)) d
    d.modHead h (fun x =>
      { x with
        tpat := d.on (Reg.UDC_H_CTL_tpat h)
        regions := (List.range x.regions.length).map (fun j =>
          let w := x.regions.getD j 0#32
          if j % 4 = 3 then w32 (putBits w.toNat 15 15 (d.rd (Reg.UDC_R_CTL_freeze h (j / 4)))) else w) })

/-! ### The latch line -/

/-- Clears that were asked for since the last latch line (R193): the runs return to 0 when the head leaves a state. -/
def Device.rectClears (d : Device) (h : Nat) : Device :=
  let x := d.head h
  let left := (x.clearFall && d.on (Reg.HEAD_STATUS_fallback h)) || (x.clearBlank && d.on (Reg.HEAD_STATUS_blanked h))
  let d := if x.clearFall then d.wr (Reg.HEAD_STATUS_fallback h) 0 else d
  let d := if x.clearBlank then d.wr (Reg.HEAD_STATUS_blanked h) 0 else d
  let d := if left then
      (List.range 16).foldl (fun d k => d.wr (Reg.HEAD_RC_STAT_run h k) 0) d
    else d
  d.modHead h (fun x => { x with clearFall := false, clearBlank := false, fallNext := false })

/-- Head `h` latches (R184), at the clock of its latch line; `start` for a head that starts (R188). The head then stands at the latch
line at which it latched, also when the set that applies moves that line; after a start or a restart it begins at the new one (R188,
R190). -/
def Device.latch (d : Device) (h : Nat) (start : Bool) : Device :=
  let d := (d.closeRects h).rectClears h
  let x := d.head h
  let coming := x.coming
  let last := x.frame
  let frame := (x.frame + 1) % 2 ^ 48
  let stamp := d.beatTime
  let n := d.frameLines h x.extra
  let band := if d.on (Reg.HEAD_STATUS_psr h) then d.updateBand h coming else none
  let old := (timingOf (d.activeTiming h)).latch
  let d := d.setHead h { x with
    frame := frame, flip := stamp, coming := x.after, after := [], cut := false, extra := 0, adjust := 0,
    lines := if start then 0 else x.lines + n, base := if start then d.beat.clock else x.base, starting := false, line := 0,
    crcs := [], gots := [], closed := false, gOnly := false, under := false, band := band, flips := x.flips.filter (fun f => f.2 != frame),
    idle := if coming.isEmpty then satAt 255 (x.idle + 1) else 0, wb := false }
  let d := ((d.setReg (Reg.HEAD_FRAME_LO h) (w32 frame)).setReg (Reg.HEAD_FLIP_LO h) (w32 stamp))
  let d := coming.foldl (fun d p => d.applyGroup h p) d
  let d := if start then d.wr (Reg.HEAD_STATUS_running h) 1 else d
  let d := (latchShadows h).foldl (fun d a => d.applyShadow a) d
  let d := d.wr (Reg.CMP_GCHK_on_mirror h) 0
  let d := d.modHead h (fun x => { x with
    pos := if start || d.on (Reg.HEAD_STATUS_restarting h) then (timingOf (d.activeTiming h)).latch else old })
  let d := (List.range 16).foldl (fun d k =>
    d.wr (Reg.HEAD_RC_STAT_bad h k) (b2n (d.on (Reg.HEAD_RC_ACTIVE_CTL_enable h k) && d.rectOut h k))) d
  let d := ((d.legacyLatch h).withhold h).retire h last (coming.filterMap (fun p => if p.res then some (p.group - 1) else none))
  let d := x.flips.foldl (fun d f =>
    if f.2 = frame then (match d.item f.1 with | some y => (d.turn (h / 2)).completeAt y stDone 0 stamp | none => d) else d) d
  let d := ((d.event (h / 2) (evLatch + h)).event 4 (evLatch + h)).headEvent h 0
  let d := if start then d.readDsc h else d
  let d := ((d.wbStart h).genlockOut h)
  if !d.running h then d
  else
    let d := d.frameSync h
    if d.psrEnters h then (d.wr (Reg.HEAD_STATUS_psr h) 1).headEvent h 6 else d

/-- `HEAD_LATCH_LINE` (R184): the cut-off has fallen, or falls now, before it. -/
def execHeadLatchLine (h : Nat) (s : State) : Host.Outcome State Fault Refusal :=
  onDev s (fun d =>
    let d := if d.canCut h then d.cutoff h else d
    d.when (decide (h < 8) && d.running h && !d.on (Reg.HEAD_STATUS_restarting h) && (d.head h).cut) (fun d =>
      (d.atClock (d.latchAt h)).latch h false))

/-- What the coming timing set of a starting head says (R183, R188): 0 the head starts, 1 the set does not apply, 2 it stays stopped.
A head that resumes after a reset has none, and starts. -/
def Device.startCode (d : Device) (h : Nat) : Nat :=
  match (d.head h).coming.find? (fun p => p.group == 0) with
  | none => 0
  | some p => if !(timingOf p.words).enable then 2 else if d.timingApplies h p.words then 0 else 1

/-- A stopped head starts (R188), unless its timing set no longer applies (R183). -/
def Device.startHead (d : Device) (h : Nat) : Device :=
  match d.startCode h with
  | 0 => d.latch h true
  | 1 => d.startBad h
  | _ => d.modHead h (fun x => { x with starting := false })

/-- `HEAD_START` (R188): a stopped head starts, `after` ticks after the end of the check. -/
def execHeadStart (h after : Nat) (s : State) : Host.Outcome State Fault Refusal :=
  onDev s (fun d =>
    d.when (decide (h < 8) && (d.head h).starting && !d.running h && decide (after ≤ 1600)) (fun d =>
      (d.atClock ((d.head h).checkEnd + after)).startHead h))

/-- `HEAD_CLOCK_LOCKED` (R190, R202): the clock of a restarting head locks, `after` ticks after its latch line. -/
def execHeadClockLocked (h after : Nat) (s : State) : Host.Outcome State Fault Refusal :=
  onDev s (fun d =>
    d.when (decide (h < 8) && d.on (Reg.HEAD_STATUS_restarting h) && decide (after ≤ 80000)) (fun d =>
      let t := (d.head h).base - 80000 + after
      let d := (d.atClock t).modHead h (fun x => { x with base := t, lines := 0 })
      ((d.wr (Reg.HEAD_STATUS_restarting h) 0).readDsc h).wbStart h))

/-! ### Register commands of a head -/

/-- A write of 1 to HEAD_n_TIMING_CHK.go (R183). -/
def Device.timingCheck (d : Device) (h : Nat) : Device :=
  (d.wr (Reg.HEAD_TIMING_CHK_done h) 1).wr (Reg.HEAD_TIMING_CHK_result h) (d.timingCode h (d.shadowTiming h))

/-- `TIMING_CHK` (R183). -/
def execTimingChk (h : Nat) (s : State) : Host.Outcome State Fault Refusal :=
  onDev s (fun d => d.when (h < 8) (fun d => d.timingCheck h))

/-- A secure write of HEAD_n_RC_ACT (R193); a stopped head waits for its next latch line. -/
def Device.clearRects (d : Device) (h : Nat) (fall blank : Bool) : Device :=
  d.modHead h (fun x => { x with clearFall := x.clearFall || fall, clearBlank := x.clearBlank || blank })

/-- `CLEAR_FALLBACK` (R193). -/
def execClearFallback (h : Nat) (s : State) : Host.Outcome State Fault Refusal :=
  onDev s (fun d => d.when (h < 8) (fun d => d.clearRects h true false))

/-- `CLEAR_BLANK` (R193). -/
def execClearBlank (h : Nat) (s : State) : Host.Outcome State Fault Refusal :=
  onDev s (fun d => d.when (h < 8) (fun d => d.clearRects h false true))

/-- `GENLOCK_IN_PULSE` (R197): a rising edge on the pin at tick `tick` of the beat. -/
def execGenlockInPulse (tick : Nat) (s : State) : Host.Outcome State Fault Refusal :=
  onDev s (fun d =>
    let d := d.atTick tick
    { d with disp := { d.disp with genlock := some d.beat.clock } })

end Sys2Proof.Machine
end

