-- ==== Sys2Proof/Machine/Compose.lean ====
section
/-!
DEFINITION. One output line (R168 to R174, R178, R356 to R358, R435): fetching and culling by spans of 16 pixels, the guard
line check and its mirror, the blend, the running rectangle values, writeback, underruns and the compositor's own reset.
-/

namespace Sys2Proof.Machine

open Sys2Proof

/-- `n` pixels of a layer's buffer from layer pixel `i` of row `j`, as bytes: one read of a linear row, or one of each texel
of a twill row. -/
def Device.readPixels (d : Device) (sp : Space) (input base : Nat) (l : Layer) (i n j : Nat) :
    Except MemErr (List (List Byte)) × Device :=
  let bpp := pixBits l.fmt / 8
  if l.linear then
    match d.read sp input (base + l.offset (l.srcX + i) (l.srcY + j)) (n * bpp) with
    | (.ok bs, d) => (.ok ((List.range n).map (fun k => (bs.drop (k * bpp)).take bpp)), d)
    | (.error e, d) => (.error e, d)
  else
    (List.range n).foldl (fun (acc : Except MemErr (List (List Byte)) × Device) k =>
      match acc with
      | (.error e, d) => (.error e, d)
      | (.ok ps, d) =>
        match d.read sp input (base + l.offset (l.srcX + i + k) (l.srcY + j)) bpp with
        | (.ok bs, d) => (.ok (ps ++ [bs]), d)
        | (.error e, d) => (.error e, d)) (.ok [], d)

/-! ### The guard line check -/

/-- Whether the line check of R356 can run on G of head `h`; an enabled check that cannot sets cfg_err. -/
def Device.guardChecked (d : Device) (h : Nat) (l : Layer) : Bool × Device :=
  if d.rdAct (Reg.CMP_GCHK_enable h) = 0 then (false, d)
  else
    let (w, v) := d.activeSize h
    if l.solid || decide (w < l.x + l.w) || decide (v < l.y + l.h) then (false, d.wr (Reg.CMP_GCHK_cfg_err h) 1)
    else (true, d)

/-- Row `j` of G from the mirror, after a failure of the primary copy (R357): none when it fails too. -/
def Device.guardMirror (d : Device) (h : Nat) (sp : Space) (l : Layer) (j want : Nat) : Option (List (List Byte)) × Device :=
  let base := (d.actReg (Reg.CMP_GMIR_HI h)).toNat * 2 ^ 32 + (d.actReg (Reg.CMP_GMIR_LO h)).toNat
  let note := fun (d : Device) (lost : Bool) =>
    if d.on (Reg.CMP_GCHK_on_mirror h) && !lost then d
    else d.raise { fault 0x09 3 (chanBase (h / 2) 2) h with
      secure := true, sub := 16, corrected := !lost, infoA := (d.head h).frame % 2 ^ 32, infoB := l.y + j + (if lost then 2 ^ 31 else 0) }
  match d.readPixels sp (h / 2) base l 0 l.w j with
  | (.ok ps, d) =>
    if crc32c ps.flatten = want then
      (some ps, ((note d false).wr (Reg.CMP_GCHK_on_mirror h) 1).bump (Reg.CMP_GCHK_failovers h))
    else (none, note (d.wr (Reg.CMP_HEAD_STATUS_faulted h) (d.rd (Reg.CMP_HEAD_STATUS_faulted h) ||| 2 ^ 16)) true)
  | (.error _, d) =>
    (none, note (d.wr (Reg.CMP_HEAD_STATUS_faulted h) (d.rd (Reg.CMP_HEAD_STATUS_faulted h) ||| 2 ^ 16)) true)

/-- Row `j` of a checked G with its entry of the line table as it was read. -/
def guardCompared (h : Nat) (sp : Space) (l : Layer) (j : Nat) (mirrored : Bool) (p : Except MemErr (List Byte) × Device) :
    Option (List (List Byte)) × Device :=
  match p with
  | (.error _, d) =>
    match d.readPixels sp (h / 2) l.addr l 0 l.w j with
    | (.ok ps, d) => (some ps, d)
    | (.error _, d) => (none, d.wr (Reg.CMP_HEAD_STATUS_faulted h) (d.rd (Reg.CMP_HEAD_STATUS_faulted h) ||| 2 ^ 16))
  | (.ok t, d) =>
    if mirrored then d.guardMirror h sp l j (leNat t)
    else
      match d.readPixels sp (h / 2) l.addr l 0 l.w j with
      | (.ok ps, d) => if crc32c ps.flatten = leNat t then (some ps, d) else d.guardMirror h sp l j (leNat t)
      | (.error _, d) => d.guardMirror h sp l j (leNat t)

/-- Row `j` of a checked G (R356, R357): its pixels, or none when the line shows transparent. -/
def Device.guardRow (d : Device) (h : Nat) (sp : Space) (l : Layer) (j : Nat) : Option (List (List Byte)) × Device :=
  let table := (d.actReg (Reg.CMP_GLCRC_HI h)).toNat * 2 ^ 32 + (d.actReg (Reg.CMP_GLCRC_LO h)).toNat
  guardCompared h sp l j (d.on (Reg.CMP_GCHK_on_mirror h)) (d.read sp (h / 2) (table + 4 * j) 4)

/-! ### A line -/

/-- A fetch of layer `k` that fails on line `y`, at an address of the faulting span (R178): the layer is faulted and a record is written. -/
def Device.layerFault (d : Device) (h k y at' : Nat) (e : MemErr) : Device :=
  let d := d.wr (Reg.CMP_HEAD_STATUS_faulted h) (d.rd (Reg.CMP_HEAD_STATUS_faulted h) ||| 2 ^ k)
  match e with
  | .trans =>
    d.raise { fault 0x0B 1 (chanBase (h / 2) 2) h with
      secure := k == 16, sub := k, inst := if k = 16 then none else d.layerOwner h k, infoA := (d.head h).frame % 2 ^ 32,
      infoB := y, addr := at' }
  | .ecc _ => d

/-- What a line under way holds: the device, the layers that failed on it, and the blended components of its pixels. -/
structure LineRun where
  d : Device
  failed : List Nat
  px : List (List Nat)

/-- The pixel values of a layer in the columns a to b − 1 of line `y`; `row` is a checked row of G. -/
def Device.spanPixels (d : Device) (h : Nat) (s : Shown) (row : Option (List (List Byte))) (a b y : Nat) :
    Except MemErr (List Nat) × Device :=
  if s.l.solid then (.ok (List.replicate (b - a) s.l.colour), d)
  else
    match row with
    | some r => (.ok (((r.drop (a - s.l.x)).take (b - a)).map leNat), d)
    | none =>
      match d.layerSpace h s.k with
      | none => (.error .trans, d)
      | some sp =>
        match d.readPixels sp (h / 2) s.l.addr s.l (a - s.l.x) (b - a) (y - s.l.y) with
        | (.ok ps, d) => (.ok (ps.map leNat), d)
        | (.error e, d) => (.error e, d)

/-- One span of 16 pixels of line `y` (R168, R172, R178). `start` gives the value below the layers at each column. -/
def composeSpan (h y : Nat) (legacy : Bool) (ls : List Shown) (row : Option (List (List Byte))) (skip : List Nat)
    (start : Nat → List Nat) (x : LineRun) (x0 x1 : Nat) : LineRun :=
  let go := fun (acc : LineRun × List (List Nat)) (s : Shown) =>
    let a := max x0 s.l.x
    let b := min x1 (s.l.x + s.l.w)
    if acc.1.failed.contains s.k || skip.contains s.k || !(decide (s.l.y ≤ y) && decide (y < s.l.y + s.l.h)) || decide (b ≤ a)
        || culled ls s.k x0 x1 y then acc
    else
      match acc.1.d.spanPixels h s (if s.k = 16 then row else none) a b y with
      | (.error e, d) => ({ acc.1 with d := d.layerFault h s.k y (s.l.addr + s.l.offset (s.l.srcX + (a - s.l.x)) (s.l.srcY + (y - s.l.y))) e, failed := s.k :: acc.1.failed }, acc.2)
      | (.ok ps, d) =>
        let fmt := if s.l.solid then 6 else s.l.fmt
        ({ acc.1 with d := d }, acc.2.zipIdx.map (fun (dst, i) =>
          if x0 + i < a || b ≤ x0 + i then dst
          else
            let p := ps.getD (x0 + i - a) 0
            if legacy then blend8 s fmt p dst else blend12 s.l fmt p dst))
  let (r, px) := ls.foldl go (x, (List.range (x1 - x0)).map (fun i => start (x0 + i)))
  { r with px := r.px ++ px }

/-- The background of head `h` as a destination value (R172, R435). -/
def Device.background (d : Device) (h : Nat) : List Nat :=
  let w := (d.actReg (Reg.CMP_BG h)).toNat
  [bits w 29 20, bits w 19 10, bits w 9 0].map (fun c => if d.legacyHead h then c / 4 else rep12 c 10)

/-- The colour bars of the UDC-4 test control (R438). -/
def colourBar (width x : Nat) : List Nat :=
  let n := min 7 (x / max 1 (width / 8))
  ([[255, 255, 255], [255, 255, 0], [0, 255, 255], [0, 255, 0], [255, 0, 255], [255, 0, 0], [0, 0, 255], [0, 0, 0]]).getD n
    [0, 0, 0]

/-- The blended components of line `y` of head `h`. -/
def Device.blendLine (d : Device) (h y : Nat) : Device × List (List Nat) :=
  let x := d.head h
  let (w, _) := d.activeSize h
  let legacy := d.legacyHead h
  let bars := legacy && x.tpat
  let only := x.gOnly || (d.on (Reg.HEAD_STATUS_fallback h) && !x.fallNext) || bars
  let ls := (d.liveLayers h).filter (fun s => !(d.rd (Reg.CMP_WITHHELD_layers h)).testBit s.k && (!only || s.k == 16))
  let (row, skip, d) : Option (List (List Byte)) × List Nat × Device :=
    match ls.find? (fun s => s.k == 16 && decide (s.l.y ≤ y) && decide (y < s.l.y + s.l.h)), d.layerSpace h 16 with
    | some g, some sp =>
      match d.guardChecked h g.l with
      | (false, d) => (none, [], d)
      | (true, d) =>
        match d.guardRow h sp g.l (y - g.l.y) with
        | (some r, d) => (some r, [], d)
        | (none, d) => (none, [16], d)
    | _, _ => (none, [], d)
  let bg := d.background h
  let start := fun c => if bars then colourBar w c else bg
  let r := (List.range (ceilDiv w 16)).foldl (fun r n =>
    composeSpan h y legacy ls row skip start r (16 * n) (min w (16 * n + 16))) { d := d, failed := [], px := [] }
  (r.d, r.px)

/-! ### What a line feeds -/

/-- The running values of the rectangles that line `y` passes (R173, R437). -/
def Device.feedRects (d : Device) (h y : Nat) (px : List (List Nat)) : Device :=
  let legacy := d.legacyHead h
  (List.range 20).foldl (fun d k =>
    let (lo, hi) := d.rectLines h k
    if d.rectOn h k && decide (lo ≤ y) && decide (y < hi) then
      let r := d.rect h k
      let bs := ((px.drop r.x).take r.w).flatMap (fun c => if legacy then c.map b8 else leBytes 4 (outWord (outComps false c)))
      d.modHead h (fun x =>
        let v := tget (fun _ => if legacy then 0xFFFF else 0xFFFFFFFF) x.crcs k
        let v := bs.foldl (if legacy then crcByte 16 0x1021 false else crcByte 32 0x04C11DB7 true) v
        { x with crcs := tput x.crcs k v })
    else d) d

/-- The bytes of an output pixel in a writeback format (R174). -/
def wbBytes (fmt : Nat) (c : List Nat) : List Byte :=
  let o := fun i => b8 (c.getD i 0 / 4)
  if fmt = 7 then leBytes 4 (outWord c) else if fmt = 4 then [o 2, o 1, o 0, 0#8] else [o 2, o 1, o 0]

/-- Line `y` written back (R174). -/
def Device.writeBack (d : Device) (h y : Nat) (cs : List (List Nat)) : Device :=
  if !(d.head h).wb then d
  else
    let fmt := d.rdAct (Reg.CMP_WB_CFG_format h)
    let i := d.rdAct (Reg.CMP_WB_CFG_inst h)
    let base := (d.actReg (Reg.CMP_WB_HI h)).toNat * 2 ^ 32 + (d.actReg (Reg.CMP_WB_LO h)).toNat / 64 * 64
    let n := pixBits fmt / 8
    let spans : List (Nat × List Byte) :=
      if d.rdAct (Reg.CMP_WB_CFG_layout h) = 1 then
        [(base + y * d.rdAct (Reg.CMP_WB_PITCH_pitch h), cs.flatMap (wbBytes fmt))]
      else cs.zipIdx.map (fun (c, x) => (base + twillOffset (d.activeSize h).1 (n * 8) x y, wbBytes fmt c))
    let (ok, d) := spans.foldl (fun (acc : Bool × Device) s =>
      if !acc.1 then acc
      else match acc.2.write (.inst i) (h / 2) s.1 s.2 with
        | (.ok (), d) => (true, d)
        | (.error _, d) => (false, d)) (true, d)
    if ok then d
    else
      ((d.wr (Reg.CMP_WB_STAT_fault h) 1).modHead h (fun x => { x with wb := false })).raise
        { fault 0x0B 1 (chanBase (h / 2) 2) h with inst := some i, infoA := (d.head h).frame % 2 ^ 32, infoB := y }

/-- A composed line leaves: to the rectangles, to writeback and to the ports that carry the head (R173, R192, R200, R201). The DSC
encoder of a port is not modelled: its stream shows the pixels that enter it (log entry 120). -/
def Device.sendLine (d : Device) (h y : Nat) (px : List (List Nat)) : Device :=
  let cs := px.map (outComps (d.legacyHead h))
  let blank := d.on (Reg.HEAD_STATUS_blanked h)
  let d := (d.feedRects h y px).writeBack h y cs
  let row := cs.map (fun c => if blank then 0 else sentPixel (d.sentBits h) c)
  (d.senders h).foldl (fun d p => d.emit (.pixels p row)) ((d.modHead h (fun x => { x with line := y + 1 })).closeDue h)

/-- The next line that head `h` composes: none when it stands, or self refresh leaves the line out (R195, R196). -/
def Device.nextLine (d : Device) (h : Nat) : Option Nat :=
  let x := d.head h
  let v := (d.activeSize h).2
  if !(decide (h < 8) && d.running h) || d.on (Reg.HEAD_STATUS_restarting h) then none
  else if d.on (Reg.HEAD_STATUS_psr h) then
    match x.band with
    | some (lo, hi) => if max lo x.line < hi then some (max lo x.line) else none
    | none => none
  else if x.line < v then some x.line else none

/-- `COMPOSE_LINE` (R172): the compositor composes the next line of head `h`. -/
def execComposeLine (h : Nat) (s : State) : Host.Outcome State Fault Refusal :=
  onDev s (fun d =>
    match d.nextLine h with
    | none => d
    | some y =>
      let (d, px) := d.blendLine h y
      d.sendLine h y px)

/-- `UNDERRUN` (R194): the next line of head `h` is background from pixel `col` on. -/
def execUnderrun (h col : Nat) (s : State) : Host.Outcome State Fault Refusal :=
  onDev s (fun d =>
    match d.nextLine h with
    | none => d
    | some y =>
      d.when (col < (d.activeSize h).1) (fun d =>
        let (d, px) := d.blendLine h y
        let bg := d.background h
        let d := d.sendLine h y (px.zipIdx.map (fun (c, i) => if i < col then c else bg))
        let d := (d.bump (Reg.HEAD_UNDERRUN_lines h)).headEvent h 3
        if (d.head h).under then d
        else
          ((d.bump (Reg.HEAD_UNDERRUN_frames h)).modHead h (fun x => { x with under := true })).raise
            { fault 0x0C 1 (chanBase (h / 2) 3) h with infoA := (d.head h).frame % 2 ^ 32, infoB := y }))

/-- `WRITEBACK_FRAME_DONE` (R174): the last write of a frame has reached the system cache. -/
def execWritebackFrameDone (h : Nat) (s : State) : Host.Outcome State Fault Refusal :=
  onDev s (fun d =>
    d.when (decide (h < 8) && (d.head h).wb && decide ((d.activeSize h).2 ≤ (d.head h).line)) (fun d =>
      let d := (d.wr (Reg.CMP_WB_STAT_done h) 1).setReg (Reg.CMP_WB_FRAME h) (w32 (d.head h).frame)
      let d := d.modHead h (fun x => { x with wb := false })
      if d.rdAct (Reg.CMP_WB_CFG_mode h) = 1 then d.wbOff h else d))

/-- `COMPOSITOR_WATCHDOG` (R358): the compositor of channel `c` resets and shows G alone until the next latch lines. -/
def execCompositorWatchdog (c : Nat) (s : State) : Host.Outcome State Fault Refusal :=
  onDev s (fun d =>
    d.when (c < 4) (fun d =>
      let d := [2 * c, 2 * c + 1].foldl (fun d h => d.modHead h (fun x => { x with gOnly := true })) d
      d.raise (fault 0x06 4 (chanBase c 2) c)))

end Sys2Proof.Machine
end

