-- ==== Sys2Proof/Machine/Encode.lean ====
section
/-!
DEFINITION. The instruction words of the D8's two instruction sets, as the tables of R51, R54 and R61 (sequencers, 32 bits) and
of R138 to R154 (shader clusters, 64 bits) give them: which instruction a word spells, and the word of an instruction. The
commands carry instructions in their decoded form; these functions say which word stands for each.
-/

namespace Sys2Proof.Machine

open Sys2Proof

/-! ### Scalar instructions -/

/-- An instruction of format R, by its fn (R54). -/
def decodeR (q rd ra rb fn : Nat) : Option Instr :=
  match fn with
  | 0x00 => some (.add q rd ra rb)
  | 0x01 => some (.sub q rd ra rb)
  | 0x02 => some (.andR q rd ra rb)
  | 0x03 => some (.orR q rd ra rb)
  | 0x04 => some (.xor q rd ra rb)
  | 0x05 => some (.shl q rd ra rb)
  | 0x06 => some (.shr q rd ra rb)
  | 0x07 => some (.sra q rd ra rb)
  | 0x08 => some (.mul q rd ra rb)
  | 0x09 => some (.mulhu q rd ra rb)
  | 0x0A => some (.mulh q rd ra rb)
  | 0x0B => some (.divu q rd ra rb)
  | 0x0C => some (.remu q rd ra rb)
  | 0x0D => some (.min q rd ra rb)
  | 0x0E => some (.max q rd ra rb)
  | 0x0F => some (.minu q rd ra rb)
  | 0x10 => some (.maxu q rd ra rb)
  | 0x11 => if rd = 0 then some (.cmp q ra rb) else none
  | _ => none

/-- An instruction of format E, by its fn and cls (R51, R54, R61). Fields that a row does not use are not read. -/
def decodeE (q rd ra rb fn cls : Nat) : Option Instr :=
  match fn, cls with
  | 0x01, 0x01 => some (.postPick q rd ra)
  | 0x01, 0x02 => some (.postCtx q rd ra)
  | 0x01, 0x03 => some (.postCopy q rd ra)
  | 0x01, 0x04 => some (.postHap q rd ra)
  | 0x01, 0x05 => some (.postAud q rd ra)
  | 0x02, 0x00 => some (.waitb q ra)
  | 0x03, 0x00 => some (.waitf q rd ra rb)
  | 0x04, 0x00 => some (.commit q rd ra rb)
  | 0x05, 0x00 => some (.aswap q rd ra rb)
  | 0x06, 0x00 => some (.seedw q rd ra rb)
  | 0x07, 0x00 => some (.locka q rd ra)
  | 0x08, 0x00 => some (.lockr q rd ra)
  | 0x09, 0x00 => some (.rayq q rd ra)
  | _, _ => none

/-- The instruction that a word of sequencer `q` spells, or none for a word that is ILLEGAL (R51, R54). What the outside supplies
with an instruction, the outcome of its access, stands here at a clean access and a prompt answer. -/
def decodeScalar (q : Nat) (w : Word) : Option Instr :=
  let rd := wbits w 25 22
  let ra := wbits w 21 18
  let rb := wbits w 17 14
  let imm : BitVec 18 := BitVec.ofNat 18 (wbits w 17 0)
  let off : BitVec 22 := BitVec.ofNat 22 (wbits w 21 0)
  match wbits w 31 26 with
  | 0x00 => if wbits w 7 0 = 0 then decodeR q rd ra rb (wbits w 13 8) else none
  | 0x01 => some (.addi q rd ra imm)
  | 0x02 => some (.andi q rd ra imm)
  | 0x03 => some (.ori q rd ra imm)
  | 0x04 => some (.xori q rd ra imm)
  | 0x05 => if wbits w 17 5 = 0 then some (.shli q rd ra (wbits w 4 0)) else none
  | 0x06 => if wbits w 17 5 = 0 then some (.shri q rd ra (wbits w 4 0)) else none
  | 0x07 => if wbits w 17 5 = 0 then some (.srai q rd ra (wbits w 4 0)) else none
  | 0x08 => if rd = 0 then some (.cmpi q ra imm) else none
  | 0x09 => some (.lui q rd off)
  | 0x10 => some (.ldw q rd ra imm .clean)
  | 0x11 => some (.ldh q rd ra imm .clean)
  | 0x12 => some (.ldhu q rd ra imm .clean)
  | 0x13 => some (.ldb q rd ra imm .clean)
  | 0x14 => some (.ldbu q rd ra imm .clean)
  | 0x15 => some (.stw q rd ra imm)
  | 0x16 => some (.sth q rd ra imm)
  | 0x17 => some (.stb q rd ra imm)
  | 0x18 => some (.pld q rd ra imm 8 .word)
  | 0x19 => some (.pst q rd ra ⟨imm, 0⟩)
  | 0x1A => if ra = 0 then some (.mfs q rd imm) else none
  | 0x1B => if rd = 0 then some (.mts q ra imm) else none
  | 0x20 => some (.br q rd off)
  | 0x21 => some (.jal q rd off)
  | 0x22 => some (.jalr q rd ra imm)
  | 0x3C => decodeE q rd ra rb (wbits w 13 8) (wbits w 7 0)
  | 0x3D => if rd = 0 then some (.trap q off) else none
  | 0x3E => if wbits w 25 0 = 0 then some (.eret q) else none
  | _ => none

/-- The word of a scalar instruction, with zeros in the fields that its row does not use; none for any other command. -/
def encodeScalar : Instr → Option Word
  | .add _ rd ra rb => some (encR rd ra rb 0x00)
  | .sub _ rd ra rb => some (encR rd ra rb 0x01)
  | .andR _ rd ra rb => some (encR rd ra rb 0x02)
  | .orR _ rd ra rb => some (encR rd ra rb 0x03)
  | .xor _ rd ra rb => some (encR rd ra rb 0x04)
  | .shl _ rd ra rb => some (encR rd ra rb 0x05)
  | .shr _ rd ra rb => some (encR rd ra rb 0x06)
  | .sra _ rd ra rb => some (encR rd ra rb 0x07)
  | .mul _ rd ra rb => some (encR rd ra rb 0x08)
  | .mulhu _ rd ra rb => some (encR rd ra rb 0x09)
  | .mulh _ rd ra rb => some (encR rd ra rb 0x0A)
  | .divu _ rd ra rb => some (encR rd ra rb 0x0B)
  | .remu _ rd ra rb => some (encR rd ra rb 0x0C)
  | .min _ rd ra rb => some (encR rd ra rb 0x0D)
  | .max _ rd ra rb => some (encR rd ra rb 0x0E)
  | .minu _ rd ra rb => some (encR rd ra rb 0x0F)
  | .maxu _ rd ra rb => some (encR rd ra rb 0x10)
  | .cmp _ ra rb => some (encR 0 ra rb 0x11)
  | .addi _ rd ra imm => some (encI 0x01 rd ra imm)
  | .andi _ rd ra imm => some (encI 0x02 rd ra imm)
  | .ori _ rd ra imm => some (encI 0x03 rd ra imm)
  | .xori _ rd ra imm => some (encI 0x04 rd ra imm)
  | .shli _ rd ra k => some (encI 0x05 rd ra (BitVec.ofNat 18 (k % 32)))
  | .shri _ rd ra k => some (encI 0x06 rd ra (BitVec.ofNat 18 (k % 32)))
  | .srai _ rd ra k => some (encI 0x07 rd ra (BitVec.ofNat 18 (k % 32)))
  | .cmpi _ ra imm => some (encI 0x08 0 ra imm)
  | .lui _ rd imm => some (encU 0x09 rd imm)
  | .ldw _ rd ra imm _ => some (encI 0x10 rd ra imm)
  | .ldh _ rd ra imm _ => some (encI 0x11 rd ra imm)
  | .ldhu _ rd ra imm _ => some (encI 0x12 rd ra imm)
  | .ldb _ rd ra imm _ => some (encI 0x13 rd ra imm)
  | .ldbu _ rd ra imm _ => some (encI 0x14 rd ra imm)
  | .stw _ rd ra imm => some (encI 0x15 rd ra imm)
  | .sth _ rd ra imm => some (encI 0x16 rd ra imm)
  | .stb _ rd ra imm => some (encI 0x17 rd ra imm)
  | .pld _ rd ra imm _ _ => some (encI 0x18 rd ra imm)
  | .pst _ rd ra put => some (encI 0x19 rd ra put.imm)
  | .mfs _ rd num => some (encI 0x1A rd 0 num)
  | .mts _ ra num => some (encI 0x1B 0 ra num)
  | .br _ cond off => some (encU 0x20 cond off)
  | .jal _ rd off => some (encU 0x21 rd off)
  | .jalr _ rd ra imm => some (encI 0x22 rd ra imm)
  | .postPick _ rd ra => some (encE rd ra 0 0x01 0x01)
  | .postCtx _ rd ra => some (encE rd ra 0 0x01 0x02)
  | .postCopy _ rd ra => some (encE rd ra 0 0x01 0x03)
  | .postHap _ rd ra => some (encE rd ra 0 0x01 0x04)
  | .postAud _ rd ra => some (encE rd ra 0 0x01 0x05)
  | .waitb _ ra => some (encE 0 ra 0 0x02 0)
  | .waitf _ rd ra rb => some (encE rd ra rb 0x03 0)
  | .commit _ rd ra rb => some (encE rd ra rb 0x04 0)
  | .aswap _ rd ra rb => some (encE rd ra rb 0x05 0)
  | .seedw _ rd ra rb => some (encE rd ra rb 0x06 0)
  | .locka _ rd ra => some (encE rd ra 0 0x07 0)
  | .lockr _ rd ra => some (encE rd ra 0 0x08 0)
  | .rayq _ rd ra => some (encE rd ra 0 0x09 0)
  | .trap _ code => some (encU 0x3D 0 code)
  | .eret _ => some encZ
  | _ => none

/-! ### Vector instructions -/

/-- The operand fields of a word of format VA, SA, VI or SI (R138). -/
def vArithOf (imm : Bool) (w : Nat) : VArith :=
  if imm then
    { imm := some (BitVec.ofNat 32 (bits w 31 0)), dst := BitVec.ofNat 8 (bits w 51 44), src0 := BitVec.ofNat 9 (bits w 43 35),
      src1 := 0, src2 := 0, neg := 0, abs := 0, sat := false }
  else
    { imm := none, dst := BitVec.ofNat 8 (bits w 51 44), src0 := BitVec.ofNat 9 (bits w 43 35),
      src1 := BitVec.ofNat 9 (bits w 34 26), src2 := BitVec.ofNat 9 (bits w 25 17), neg := BitVec.ofNat 3 (bits w 16 14),
      abs := BitVec.ofNat 3 (bits w 13 11), sat := bitOn w 10 }

/-- The operand fields of a word of format M. -/
def vMemOf (w : Nat) : VMem :=
  { data := BitVec.ofNat 8 (bits w 51 44), vaddr := BitVec.ofNat 8 (bits w 43 36), desc := BitVec.ofNat 7 (bits w 35 29),
    count := BitVec.ofNat 3 (bits w 28 26), flags := BitVec.ofNat 2 (bits w 25 24), offset := BitVec.ofNat 16 (bits w 23 8) }

/-- The operand fields of a word of format T. -/
def vTexOf (w : Nat) : VTex :=
  { dst := BitVec.ofNat 8 (bits w 51 44), coord := BitVec.ofNat 8 (bits w 43 36), tdesc := BitVec.ofNat 7 (bits w 35 29),
    sdesc := BitVec.ofNat 7 (bits w 28 22), mask := BitVec.ofNat 4 (bits w 21 18), offu := BitVec.ofNat 4 (bits w 17 14),
    offv := BitVec.ofNat 4 (bits w 13 10) }

/-- The operand fields of a word of format Y. -/
def vRayOf (w : Nat) : VRay :=
  { dst := BitVec.ofNat 8 (bits w 51 44), ray := BitVec.ofNat 8 (bits w 43 36), root := BitVec.ofNat 7 (bits w 35 29),
    omask := BitVec.ofNat 7 (bits w 28 22), flags := BitVec.ofNat 2 (bits w 21 20) }

/-- The operand fields of a word of format X. -/
def vExpOf (w : Nat) : VExp :=
  { src := BitVec.ofNat 8 (bits w 51 44), target := BitVec.ofNat 4 (bits w 43 40), mask := BitVec.ofNat 4 (bits w 39 36) }

/-- A vector arithmetic instruction by its op (R146). -/
def decodeVa (u : Nat) (a : VArith) (op : Nat) : Option Instr :=
  match op with
  | 0x00 => some (.fadd u a)
  | 0x01 => some (.fsub u a)
  | 0x02 => some (.fmul u a)
  | 0x03 => some (.ffma u a)
  | 0x04 => some (.fmin u a)
  | 0x05 => some (.fmax u a)
  | 0x06 => some (.frnd u a)
  | 0x07 => some (.fflr u a)
  | 0x08 => some (.fceil u a)
  | 0x09 => some (.ftrunc u a)
  | 0x0A => some (.ffract u a)
  | 0x10 => some (.fcmpEq u a)
  | 0x11 => some (.fcmpNe u a)
  | 0x12 => some (.fcmpLt u a)
  | 0x13 => some (.fcmpLe u a)
  | 0x14 => some (.fcmpGt u a)
  | 0x15 => some (.fcmpGe u a)
  | 0x16 => some (.fcmpOrd u a)
  | 0x17 => some (.fcmpUnord u a)
  | 0x18 => some (.frcp u a)
  | 0x19 => some (.frsq u a)
  | 0x1A => some (.fsqrt u a)
  | 0x1B => some (.fexp2 u a)
  | 0x1C => some (.flog2 u a)
  | 0x1D => some (.fsinr u a)
  | 0x1E => some (.fcosr u a)
  | 0x20 => some (.f2i u a)
  | 0x21 => some (.f2u u a)
  | 0x22 => some (.i2f u a)
  | 0x23 => some (.u2f u a)
  | 0x24 => some (.f2h u a)
  | 0x25 => some (.h2f u a)
  | 0x26 => some (.f2h2 u a)
  | 0x30 => some (.hadd2 u a)
  | 0x31 => some (.hmul2 u a)
  | 0x32 => some (.hfma2 u a)
  | 0x33 => some (.hmin2 u a)
  | 0x34 => some (.hmax2 u a)
  | 0x40 => some (.iadd u a)
  | 0x41 => some (.isub u a)
  | 0x42 => some (.imul u a)
  | 0x43 => some (.imulhu u a)
  | 0x44 => some (.imulh u a)
  | 0x45 => some (.imad u a)
  | 0x48 => some (.vecAnd u a)
  | 0x49 => some (.vecOr u a)
  | 0x4A => some (.vecXor u a)
  | 0x4C => some (.vecShl u a)
  | 0x4D => some (.vecShr u a)
  | 0x4E => some (.vecSra u a)
  | 0x50 => some (.imin u a)
  | 0x51 => some (.imax u a)
  | 0x52 => some (.umin u a)
  | 0x53 => some (.umax u a)
  | 0x54 => some (.bfe u a)
  | 0x55 => some (.bfi u a)
  | 0x56 => some (.popc u a)
  | 0x57 => some (.fmsb u a)
  | 0x58 => some (.icmpEq u a)
  | 0x59 => some (.icmpNe u a)
  | 0x5A => some (.icmpLt u a)
  | 0x5B => some (.icmpLe u a)
  | 0x5C => some (.icmpGt u a)
  | 0x5D => some (.icmpGe u a)
  | 0x5E => some (.icmpLtu u a)
  | 0x5F => some (.icmpGeu u a)
  | 0x60 => some (.mov u a)
  | 0x61 => some (.sel u a)
  | 0x62 => some (.lget u a)
  | 0x63 => some (.shuf u a)
  | 0x64 => some (.vinterp u a)
  | 0x68 => some (.ddx u a)
  | 0x69 => some (.ddy u a)
  | _ => none

/-- A scalar arithmetic instruction of a wave by its op (R146). -/
def decodeSa (u : Nat) (a : VArith) (op : Nat) : Option Instr :=
  match op with
  | 0x00 => some (.sadd u a)
  | 0x01 => some (.ssub u a)
  | 0x02 => some (.smul u a)
  | 0x08 => some (.sand u a)
  | 0x09 => some (.sor u a)
  | 0x0A => some (.sxor u a)
  | 0x0B => some (.sbic u a)
  | 0x0C => some (.sshl u a)
  | 0x0D => some (.sshr u a)
  | 0x0E => some (.ssra u a)
  | 0x10 => some (.smov u a)
  | 0x12 => some (.spopc u a)
  | 0x13 => some (.slsb u a)
  | 0x18 => some (.scmpEq u a)
  | 0x19 => some (.scmpNe u a)
  | 0x1A => some (.scmpLt u a)
  | 0x1B => some (.scmpLe u a)
  | 0x1C => some (.scmpGt u a)
  | 0x1D => some (.scmpGe u a)
  | 0x1E => some (.scmpLtu u a)
  | 0x1F => some (.scmpGeu u a)
  | 0x20 => some (.ssel u a)
  | _ => none

/-- A memory instruction by its op (R147). -/
def decodeM (u : Nat) (a : VMem) (op : Nat) : Option Instr :=
  match op with
  | 0x00 => some (.sld u a)
  | 0x10 => some (.bld u a)
  | 0x11 => some (.bst u a)
  | 0x18 => some (.batomAdd u a)
  | 0x19 => some (.batomSmin u a)
  | 0x1A => some (.batomSmax u a)
  | 0x1B => some (.batomUmin u a)
  | 0x1C => some (.batomUmax u a)
  | 0x1D => some (.batomAnd u a)
  | 0x1E => some (.batomOr u a)
  | 0x1F => some (.batomXor u a)
  | 0x20 => some (.batomXchg u a)
  | 0x21 => some (.batomCmpxchg u a)
  | 0x30 => some (.wld u a)
  | 0x31 => some (.wst u a)
  | 0x38 => some (.watomAdd u a)
  | 0x39 => some (.watomSmin u a)
  | 0x3A => some (.watomSmax u a)
  | 0x3B => some (.watomUmin u a)
  | 0x3C => some (.watomUmax u a)
  | 0x3D => some (.watomAnd u a)
  | 0x3E => some (.watomOr u a)
  | 0x3F => some (.watomXor u a)
  | 0x40 => some (.watomXchg u a)
  | 0x41 => some (.watomCmpxchg u a)
  | _ => none

/-- A texture instruction by its op (R151). -/
def decodeT (u : Nat) (a : VTex) (op : Nat) : Option Instr :=
  match op with
  | 0x00 => some (.sample u a)
  | 0x01 => some (.sampleL u a)
  | 0x02 => some (.sampleB u a)
  | 0x03 => some (.fetch u a)
  | 0x04 => some (.query u a)
  | _ => none

/-- An export instruction by its op (R154). -/
def decodeX (u : Nat) (a : VExp) (op : Nat) : Option Instr :=
  match op with
  | 0x00 => some (.expc u a)
  | 0x01 => some (.expz u a)
  | 0x02 => some (.expp u a)
  | 0x03 => some (.expa u a)
  | 0x04 => some (.kill u)
  | _ => none

/-- A control instruction by its op (R146). -/
def decodeC (u : Nat) (imm : Word) (op : Nat) : Option Instr :=
  match op with
  | 0x00 => some (.bra u imm)
  | 0x01 => some (.bq1 u imm)
  | 0x02 => some (.bq0 u imm)
  | 0x03 => some (.baz u imm)
  | 0x04 => some (.banz u imm)
  | 0x08 => some (.wgbar u)
  | 0x09 => some (.membar u imm)
  | 0x0E => some (.vecNop u)
  | 0x0F => some (.vecEnd u)
  | _ => none

/-- The instruction of wave `u` that a 64-bit word spells, or none for a word whose class, op or zero field is not as R138 and
R140 ask. What R140 asks of the operands is checked as the instruction runs. -/
def decodeVec (u : Nat) (w : BitVec 64) : Option Instr :=
  let v := w.toNat
  let op := bits v 59 52
  match bits v 63 60 with
  | 0x0 => if bits v 9 0 = 0 then decodeVa u (vArithOf false v) op else none
  | 0x1 => if bits v 34 32 = 0 then decodeVa u (vArithOf true v) op else none
  | 0x2 => if bits v 9 0 = 0 then decodeSa u (vArithOf false v) op else none
  | 0x3 => if bits v 34 32 = 0 then decodeSa u (vArithOf true v) op else none
  | 0x4 => if bits v 7 0 = 0 then decodeM u (vMemOf v) op else none
  | 0x5 => if bits v 9 0 = 0 then decodeT u (vTexOf v) op else none
  | 0x6 => if bits v 19 0 = 0 && op == 0 then some (.trace u (vRayOf v)) else none
  | 0x7 => if bits v 35 0 = 0 then decodeX u (vExpOf v) op else none
  | 0x8 => if bits v 51 32 = 0 then decodeC u (BitVec.ofNat 32 (bits v 31 0)) op else none
  | _ => none

/-- A word of format VA, or of format VI when the instruction has an immediate; `c` is the class of VA (R138). -/
def encArith (c op : Nat) (a : VArith) : BitVec 64 :=
  match a.imm with
  | none => BitVec.ofNat 4 c ++ BitVec.ofNat 8 op ++ a.dst ++ a.src0 ++ a.src1 ++ a.src2 ++ a.neg ++ a.abs ++ BitVec.ofBool a.sat ++ 0#10
  | some i => BitVec.ofNat 4 (c + 1) ++ BitVec.ofNat 8 op ++ a.dst ++ a.src0 ++ 0#3 ++ i

/-- A word of format M. -/
def encMem (op : Nat) (a : VMem) : BitVec 64 :=
  4#4 ++ BitVec.ofNat 8 op ++ a.data ++ a.vaddr ++ a.desc ++ a.count ++ a.flags ++ a.offset ++ 0#8

/-- A word of format T. -/
def encTex (op : Nat) (a : VTex) : BitVec 64 :=
  5#4 ++ BitVec.ofNat 8 op ++ a.dst ++ a.coord ++ a.tdesc ++ a.sdesc ++ a.mask ++ a.offu ++ a.offv ++ 0#10

/-- A word of format Y. -/
def encRay (a : VRay) : BitVec 64 := 6#4 ++ 0#8 ++ a.dst ++ a.ray ++ a.root ++ a.omask ++ a.flags ++ 0#20

/-- A word of format X. -/
def encExp (op : Nat) (a : VExp) : BitVec 64 := 7#4 ++ BitVec.ofNat 8 op ++ a.src ++ a.target ++ a.mask ++ 0#36

/-- A word of format C. -/
def encCtl (op : Nat) (imm : Word) : BitVec 64 := 8#4 ++ BitVec.ofNat 8 op ++ 0#20 ++ imm

/-- The word of a vector instruction; none for any other command. -/
def encodeVec : Instr → Option (BitVec 64)
  | .fadd _ a => some (encArith 0 0x00 a)
  | .fsub _ a => some (encArith 0 0x01 a)
  | .fmul _ a => some (encArith 0 0x02 a)
  | .ffma _ a => some (encArith 0 0x03 a)
  | .fmin _ a => some (encArith 0 0x04 a)
  | .fmax _ a => some (encArith 0 0x05 a)
  | .frnd _ a => some (encArith 0 0x06 a)
  | .fflr _ a => some (encArith 0 0x07 a)
  | .fceil _ a => some (encArith 0 0x08 a)
  | .ftrunc _ a => some (encArith 0 0x09 a)
  | .ffract _ a => some (encArith 0 0x0A a)
  | .fcmpEq _ a => some (encArith 0 0x10 a)
  | .fcmpNe _ a => some (encArith 0 0x11 a)
  | .fcmpLt _ a => some (encArith 0 0x12 a)
  | .fcmpLe _ a => some (encArith 0 0x13 a)
  | .fcmpGt _ a => some (encArith 0 0x14 a)
  | .fcmpGe _ a => some (encArith 0 0x15 a)
  | .fcmpOrd _ a => some (encArith 0 0x16 a)
  | .fcmpUnord _ a => some (encArith 0 0x17 a)
  | .frcp _ a => some (encArith 0 0x18 a)
  | .frsq _ a => some (encArith 0 0x19 a)
  | .fsqrt _ a => some (encArith 0 0x1A a)
  | .fexp2 _ a => some (encArith 0 0x1B a)
  | .flog2 _ a => some (encArith 0 0x1C a)
  | .fsinr _ a => some (encArith 0 0x1D a)
  | .fcosr _ a => some (encArith 0 0x1E a)
  | .f2i _ a => some (encArith 0 0x20 a)
  | .f2u _ a => some (encArith 0 0x21 a)
  | .i2f _ a => some (encArith 0 0x22 a)
  | .u2f _ a => some (encArith 0 0x23 a)
  | .f2h _ a => some (encArith 0 0x24 a)
  | .h2f _ a => some (encArith 0 0x25 a)
  | .f2h2 _ a => some (encArith 0 0x26 a)
  | .hadd2 _ a => some (encArith 0 0x30 a)
  | .hmul2 _ a => some (encArith 0 0x31 a)
  | .hfma2 _ a => some (encArith 0 0x32 a)
  | .hmin2 _ a => some (encArith 0 0x33 a)
  | .hmax2 _ a => some (encArith 0 0x34 a)
  | .iadd _ a => some (encArith 0 0x40 a)
  | .isub _ a => some (encArith 0 0x41 a)
  | .imul _ a => some (encArith 0 0x42 a)
  | .imulhu _ a => some (encArith 0 0x43 a)
  | .imulh _ a => some (encArith 0 0x44 a)
  | .imad _ a => some (encArith 0 0x45 a)
  | .vecAnd _ a => some (encArith 0 0x48 a)
  | .vecOr _ a => some (encArith 0 0x49 a)
  | .vecXor _ a => some (encArith 0 0x4A a)
  | .vecShl _ a => some (encArith 0 0x4C a)
  | .vecShr _ a => some (encArith 0 0x4D a)
  | .vecSra _ a => some (encArith 0 0x4E a)
  | .imin _ a => some (encArith 0 0x50 a)
  | .imax _ a => some (encArith 0 0x51 a)
  | .umin _ a => some (encArith 0 0x52 a)
  | .umax _ a => some (encArith 0 0x53 a)
  | .bfe _ a => some (encArith 0 0x54 a)
  | .bfi _ a => some (encArith 0 0x55 a)
  | .popc _ a => some (encArith 0 0x56 a)
  | .fmsb _ a => some (encArith 0 0x57 a)
  | .icmpEq _ a => some (encArith 0 0x58 a)
  | .icmpNe _ a => some (encArith 0 0x59 a)
  | .icmpLt _ a => some (encArith 0 0x5A a)
  | .icmpLe _ a => some (encArith 0 0x5B a)
  | .icmpGt _ a => some (encArith 0 0x5C a)
  | .icmpGe _ a => some (encArith 0 0x5D a)
  | .icmpLtu _ a => some (encArith 0 0x5E a)
  | .icmpGeu _ a => some (encArith 0 0x5F a)
  | .mov _ a => some (encArith 0 0x60 a)
  | .sel _ a => some (encArith 0 0x61 a)
  | .lget _ a => some (encArith 0 0x62 a)
  | .shuf _ a => some (encArith 0 0x63 a)
  | .vinterp _ a => some (encArith 0 0x64 a)
  | .ddx _ a => some (encArith 0 0x68 a)
  | .ddy _ a => some (encArith 0 0x69 a)
  | .sadd _ a => some (encArith 2 0x00 a)
  | .ssub _ a => some (encArith 2 0x01 a)
  | .smul _ a => some (encArith 2 0x02 a)
  | .sand _ a => some (encArith 2 0x08 a)
  | .sor _ a => some (encArith 2 0x09 a)
  | .sxor _ a => some (encArith 2 0x0A a)
  | .sbic _ a => some (encArith 2 0x0B a)
  | .sshl _ a => some (encArith 2 0x0C a)
  | .sshr _ a => some (encArith 2 0x0D a)
  | .ssra _ a => some (encArith 2 0x0E a)
  | .smov _ a => some (encArith 2 0x10 a)
  | .spopc _ a => some (encArith 2 0x12 a)
  | .slsb _ a => some (encArith 2 0x13 a)
  | .scmpEq _ a => some (encArith 2 0x18 a)
  | .scmpNe _ a => some (encArith 2 0x19 a)
  | .scmpLt _ a => some (encArith 2 0x1A a)
  | .scmpLe _ a => some (encArith 2 0x1B a)
  | .scmpGt _ a => some (encArith 2 0x1C a)
  | .scmpGe _ a => some (encArith 2 0x1D a)
  | .scmpLtu _ a => some (encArith 2 0x1E a)
  | .scmpGeu _ a => some (encArith 2 0x1F a)
  | .ssel _ a => some (encArith 2 0x20 a)
  | .sld _ a => some (encMem 0x00 a)
  | .bld _ a => some (encMem 0x10 a)
  | .bst _ a => some (encMem 0x11 a)
  | .batomAdd _ a => some (encMem 0x18 a)
  | .batomSmin _ a => some (encMem 0x19 a)
  | .batomSmax _ a => some (encMem 0x1A a)
  | .batomUmin _ a => some (encMem 0x1B a)
  | .batomUmax _ a => some (encMem 0x1C a)
  | .batomAnd _ a => some (encMem 0x1D a)
  | .batomOr _ a => some (encMem 0x1E a)
  | .batomXor _ a => some (encMem 0x1F a)
  | .batomXchg _ a => some (encMem 0x20 a)
  | .batomCmpxchg _ a => some (encMem 0x21 a)
  | .wld _ a => some (encMem 0x30 a)
  | .wst _ a => some (encMem 0x31 a)
  | .watomAdd _ a => some (encMem 0x38 a)
  | .watomSmin _ a => some (encMem 0x39 a)
  | .watomSmax _ a => some (encMem 0x3A a)
  | .watomUmin _ a => some (encMem 0x3B a)
  | .watomUmax _ a => some (encMem 0x3C a)
  | .watomAnd _ a => some (encMem 0x3D a)
  | .watomOr _ a => some (encMem 0x3E a)
  | .watomXor _ a => some (encMem 0x3F a)
  | .watomXchg _ a => some (encMem 0x40 a)
  | .watomCmpxchg _ a => some (encMem 0x41 a)
  | .sample _ a => some (encTex 0x00 a)
  | .sampleL _ a => some (encTex 0x01 a)
  | .sampleB _ a => some (encTex 0x02 a)
  | .fetch _ a => some (encTex 0x03 a)
  | .query _ a => some (encTex 0x04 a)
  | .trace _ a => some (encRay a)
  | .expc _ a => some (encExp 0x00 a)
  | .expz _ a => some (encExp 0x01 a)
  | .expp _ a => some (encExp 0x02 a)
  | .expa _ a => some (encExp 0x03 a)
  | .kill _ => some (encExp 0x04 { src := 0, target := 0, mask := 0 })
  | .bra _ imm => some (encCtl 0x00 imm)
  | .bq1 _ imm => some (encCtl 0x01 imm)
  | .bq0 _ imm => some (encCtl 0x02 imm)
  | .baz _ imm => some (encCtl 0x03 imm)
  | .banz _ imm => some (encCtl 0x04 imm)
  | .wgbar _ => some (encCtl 0x08 0)
  | .membar _ imm => some (encCtl 0x09 imm)
  | .vecNop _ => some (encCtl 0x0E 0)
  | .vecEnd _ => some (encCtl 0x0F 0)
  | _ => none

/-- The operands of an arithmetic instruction as its format holds them: an immediate leaves no room for a second or third source
or for modifiers (R138). -/
def VArith.fits (a : VArith) : Bool :=
  a.imm.isNone || (a.src1 == 0#9 && a.src2 == 0#9 && a.neg == 0#3 && a.abs == 0#3 && !a.sat)

end Sys2Proof.Machine
end

