-- ==== Sys2Proof/Machine/Scalar.lean ====
section
/-!
DEFINITION. The Kryent scalar instructions that act within a sequencer (R54): arithmetic, loads and stores, special
registers, branches, waits, locks, traps. Engine commands that hand work to a block stand with that block.
-/

namespace Sys2Proof.Machine

open Sys2Proof

/-- A register instruction whose result sets z and n, with further flags from `fl` (R52). -/
def Device.alu (d : Device) (q rd ra rb cycles : Nat) (f : Word → Word → Word) (fl : Seq → Word → Word → Seq) : Device :=
  d.runSeq q cycles [ra, rb] (fun x =>
    let a := x.gr ra
    let b := x.gr rb
    fl ((x.zn (f a b)).setGr rd (f a b)) a b)

/-- A register and immediate instruction. -/
def Device.aluImm (d : Device) (q rd ra cycles : Nat) (b : Word) (f : Word → Word → Word)
    (fl : Seq → Word → Word → Seq) : Device :=
  d.runSeq q cycles [ra] (fun x =>
    let a := x.gr ra
    fl ((x.zn (f a b)).setGr rd (f a b)) a b)

/-- No flag beyond z and n. -/
def noFlags (x : Seq) (_ _ : Word) : Seq := x

/-- c and v of a sum (R52). -/
def flAdd (x : Seq) (a b : Word) : Seq := { x with c := addCarry a b, v := addOvf a b }

/-- c and v of a difference (R52). -/
def flSub (x : Seq) (a b : Word) : Seq := { x with c := subBorrow a b, v := subOvf a b }

/-- v of a division: set for a zero divisor (R54). -/
def flDiv (x : Seq) (_ b : Word) : Seq := { x with v := b == 0#32 }

/-- c of a left shift (R52). -/
def flShl (x : Seq) (a b : Word) : Seq := x.shiftC (b.toNat % 32) (shlLast a (b.toNat % 32))

/-- c of a right shift (R52). -/
def flShr (x : Seq) (a b : Word) : Seq := x.shiftC (b.toNat % 32) (shrLast a (b.toNat % 32))

/-- The signed minimum of two words. -/
def sMin (a b : Word) : Word := if a.slt b then a else b

/-- The signed maximum of two words. -/
def sMax (a b : Word) : Word := if a.slt b then b else a

/-- The unsigned minimum of two words. -/
def uMin (a b : Word) : Word := if a.ult b then a else b

/-- The unsigned maximum of two words. -/
def uMax (a b : Word) : Word := if a.ult b then b else a

/-- Unsigned quotient, all ones for a zero divisor (R54). -/
def divU (a b : Word) : Word := if b = 0#32 then 0xFFFFFFFF#32 else a / b

/-- Unsigned remainder, the dividend for a zero divisor (R54). -/
def remU (a b : Word) : Word := if b = 0#32 then a else a % b

/-- The high half of an unsigned product. -/
def mulHU (a b : Word) : Word := w32 (a.toNat * b.toNat / 2 ^ 32)

/-- The high half of a signed product. -/
def mulHS (a b : Word) : Word := w32 (wrapInt 64 (a.toInt * b.toInt) / 2 ^ 32)

/-- `ADD` (R52, R54). -/
def execAdd (sq rd ra rb : Nat) (s : State) : Host.Outcome State Fault Refusal :=
  onDev s (fun d => d.alu sq rd ra rb 1 (fun a b => a + b) flAdd)

/-- `SUB` (R52, R54). -/
def execSub (sq rd ra rb : Nat) (s : State) : Host.Outcome State Fault Refusal :=
  onDev s (fun d => d.alu sq rd ra rb 1 (fun a b => a - b) flSub)

/-- `AND` (R52, R54). -/
def execAnd (sq rd ra rb : Nat) (s : State) : Host.Outcome State Fault Refusal :=
  onDev s (fun d => d.alu sq rd ra rb 1 (fun a b => a &&& b) noFlags)

/-- `OR` (R52, R54). -/
def execOr (sq rd ra rb : Nat) (s : State) : Host.Outcome State Fault Refusal :=
  onDev s (fun d => d.alu sq rd ra rb 1 (fun a b => a ||| b) noFlags)

/-- `XOR` (R52, R54). -/
def execXor (sq rd ra rb : Nat) (s : State) : Host.Outcome State Fault Refusal :=
  onDev s (fun d => d.alu sq rd ra rb 1 (fun a b => a ^^^ b) noFlags)

/-- `SHL` (R52, R54). -/
def execShl (sq rd ra rb : Nat) (s : State) : Host.Outcome State Fault Refusal :=
  onDev s (fun d => d.alu sq rd ra rb 1 (fun a b => a <<< (b.toNat % 32)) flShl)

/-- `SHR` (R52, R54). -/
def execShr (sq rd ra rb : Nat) (s : State) : Host.Outcome State Fault Refusal :=
  onDev s (fun d => d.alu sq rd ra rb 1 (fun a b => a >>> (b.toNat % 32)) flShr)

/-- `SRA` (R52, R54). -/
def execSra (sq rd ra rb : Nat) (s : State) : Host.Outcome State Fault Refusal :=
  onDev s (fun d => d.alu sq rd ra rb 1 (fun a b => a.sshiftRight (b.toNat % 32)) flShr)

/-- `MUL` (R52, R54). -/
def execMul (sq rd ra rb : Nat) (s : State) : Host.Outcome State Fault Refusal :=
  onDev s (fun d => d.alu sq rd ra rb 2 (fun a b => a * b) noFlags)

/-- `MULHU` (R52, R54). -/
def execMulhu (sq rd ra rb : Nat) (s : State) : Host.Outcome State Fault Refusal :=
  onDev s (fun d => d.alu sq rd ra rb 2 (fun a b => mulHU a b) noFlags)

/-- `MULH` (R52, R54). -/
def execMulh (sq rd ra rb : Nat) (s : State) : Host.Outcome State Fault Refusal :=
  onDev s (fun d => d.alu sq rd ra rb 2 (fun a b => mulHS a b) noFlags)

/-- `DIVU` (R52, R54). -/
def execDivu (sq rd ra rb : Nat) (s : State) : Host.Outcome State Fault Refusal :=
  onDev s (fun d => d.alu sq rd ra rb 18 (fun a b => divU a b) flDiv)

/-- `REMU` (R52, R54). -/
def execRemu (sq rd ra rb : Nat) (s : State) : Host.Outcome State Fault Refusal :=
  onDev s (fun d => d.alu sq rd ra rb 18 (fun a b => remU a b) flDiv)

/-- `MIN` (R52, R54). -/
def execMin (sq rd ra rb : Nat) (s : State) : Host.Outcome State Fault Refusal :=
  onDev s (fun d => d.alu sq rd ra rb 1 (fun a b => sMin a b) noFlags)

/-- `MAX` (R52, R54). -/
def execMax (sq rd ra rb : Nat) (s : State) : Host.Outcome State Fault Refusal :=
  onDev s (fun d => d.alu sq rd ra rb 1 (fun a b => sMax a b) noFlags)

/-- `MINU` (R52, R54). -/
def execMinu (sq rd ra rb : Nat) (s : State) : Host.Outcome State Fault Refusal :=
  onDev s (fun d => d.alu sq rd ra rb 1 (fun a b => uMin a b) noFlags)

/-- `MAXU` (R52, R54). -/
def execMaxu (sq rd ra rb : Nat) (s : State) : Host.Outcome State Fault Refusal :=
  onDev s (fun d => d.alu sq rd ra rb 1 (fun a b => uMax a b) noFlags)

/-- `CMP`: the flags of ra − rb, and no result (R52, R54). -/
def execCmp (sq ra rb : Nat) (s : State) : Host.Outcome State Fault Refusal :=
  onDev s (fun d => d.runSeq sq 1 [ra, rb] (fun x => x.subFlags (x.gr ra) (x.gr rb)))

/-- `ADDI` (R52, R54). -/
def execAddi (sq rd ra : Nat) (imm : BitVec 18) (s : State) : Host.Outcome State Fault Refusal :=
  onDev s (fun d => d.aluImm sq rd ra 1 (simm imm) (fun a b => a + b) flAdd)

/-- `ANDI` (R52, R54). -/
def execAndi (sq rd ra : Nat) (imm : BitVec 18) (s : State) : Host.Outcome State Fault Refusal :=
  onDev s (fun d => d.aluImm sq rd ra 1 (zext18 imm) (fun a b => a &&& b) noFlags)

/-- `ORI` (R52, R54). -/
def execOri (sq rd ra : Nat) (imm : BitVec 18) (s : State) : Host.Outcome State Fault Refusal :=
  onDev s (fun d => d.aluImm sq rd ra 1 (zext18 imm) (fun a b => a ||| b) noFlags)

/-- `XORI` (R52, R54). -/
def execXori (sq rd ra : Nat) (imm : BitVec 18) (s : State) : Host.Outcome State Fault Refusal :=
  onDev s (fun d => d.aluImm sq rd ra 1 (zext18 imm) (fun a b => a ^^^ b) noFlags)

/-- `SHLI`: the count is imm18[4:0] (R52, R54). -/
def execShli (sq rd ra k : Nat) (s : State) : Host.Outcome State Fault Refusal :=
  onDev s (fun d => d.aluImm sq rd ra 1 (w32 k) (fun a b => a <<< (b.toNat % 32)) flShl)

/-- `SHRI`: the count is imm18[4:0] (R52, R54). -/
def execShri (sq rd ra k : Nat) (s : State) : Host.Outcome State Fault Refusal :=
  onDev s (fun d => d.aluImm sq rd ra 1 (w32 k) (fun a b => a >>> (b.toNat % 32)) flShr)

/-- `SRAI`: the count is imm18[4:0] (R52, R54). -/
def execSrai (sq rd ra k : Nat) (s : State) : Host.Outcome State Fault Refusal :=
  onDev s (fun d => d.aluImm sq rd ra 1 (w32 k) (fun a b => a.sshiftRight (b.toNat % 32)) flShr)

/-- `CMPI`: the flags of ra − sext(imm18), and no result (R52, R54). -/
def execCmpi (sq ra : Nat) (imm : BitVec 18) (s : State) : Host.Outcome State Fault Refusal :=
  onDev s (fun d => d.runSeq sq 1 [ra] (fun x => x.subFlags (x.gr ra) (simm imm)))

/-- `LUI`: rd := imm22 << 10; no flag changes (R52, R54). -/
def execLui (sq rd : Nat) (imm : BitVec 22) (s : State) : Host.Outcome State Fault Refusal :=
  onDev s (fun d => d.runSeq sq 1 [] (fun x => x.setGr rd (w32 (imm.toNat * 1024))))

/-! ### Data memory -/

/-- The trap of a DMEM access of `size` bytes at `ea`, if it takes one: its range first, then its alignment (R55). -/
def dmemTrap (q : Nat) (ea : Word) (size : Nat) : Option Nat :=
  if dmemSize q ≤ ea.toNat then some trapDmemRange
  else if ea.toNat % size != 0 then some trapDmemAlign
  else none

/-- A load of `size` bytes: `f` picks the value out of the word. An uncorrectable error traps, a corrected one raises
ECC_CORR (R55, R347). The next instruction that reads rd takes one more cycle (R54). -/
def Device.load (d : Device) (q rd ra : Nat) (imm : BitVec 18) (ecc : Ecc) (size : Nat) (f : Word → Nat → Word) : Device :=
  d.runInstr q 2 [ra] (fun d x =>
    let ea := x.ea ra imm
    match dmemTrap q ea size with
    | some c => .trap c ea
    | none =>
      if ecc = .uncorrectable then .trap trapDmemEcc ea
      else
        let d := if ecc = .corrected then
            d.raise { fault 0x01 5 (csqBase q) q with secure := q == 4, corrected := true, addr := ea.toNat }
          else d
        .next (d.setSeq q
          { x.setGr rd (f (x.dword (ea.toNat / 4)) (ea.toNat % 4)) with loadRd := rd }))

/-- A store of `size` bytes: `f` puts the value into the word; the word moves whole (R55, R56). -/
def Device.store (d : Device) (q rd ra : Nat) (imm : BitVec 18) (size : Nat) (f : Word → Nat → Word → Word) : Device :=
  d.runInstr q 1 [rd, ra] (fun d x =>
    let ea := x.ea ra imm
    match dmemTrap q ea size with
    | some c => .trap c ea
    | none =>
      .next (d.setSeq q (x.setDword (ea.toNat / 4) (f (x.dword (ea.toNat / 4)) (ea.toNat % 4) (x.gr rd)))))

/-- `LDW` (R54, R55). -/
def execLdw (sq rd ra : Nat) (imm : BitVec 18) (ecc : Ecc) (s : State) : Host.Outcome State Fault Refusal :=
  onDev s (fun d => d.load sq rd ra imm ecc 4 (fun w _ => w))

/-- `LDH` (R54, R55). -/
def execLdh (sq rd ra : Nat) (imm : BitVec 18) (ecc : Ecc) (s : State) : Host.Outcome State Fault Refusal :=
  onDev s (fun d => d.load sq rd ra imm ecc 2 (fun w o => w32 (wrapInt 32 (sextNat 16 (wordHalf w (o / 2))))))

/-- `LDHU` (R54, R55). -/
def execLdhu (sq rd ra : Nat) (imm : BitVec 18) (ecc : Ecc) (s : State) : Host.Outcome State Fault Refusal :=
  onDev s (fun d => d.load sq rd ra imm ecc 2 (fun w o => w32 (wordHalf w (o / 2))))

/-- `LDB` (R54, R55). -/
def execLdb (sq rd ra : Nat) (imm : BitVec 18) (ecc : Ecc) (s : State) : Host.Outcome State Fault Refusal :=
  onDev s (fun d => d.load sq rd ra imm ecc 1 (fun w o => w32 (wrapInt 32 (sextNat 8 (wordByte w o)))))

/-- `LDBU` (R54, R55). -/
def execLdbu (sq rd ra : Nat) (imm : BitVec 18) (ecc : Ecc) (s : State) : Host.Outcome State Fault Refusal :=
  onDev s (fun d => d.load sq rd ra imm ecc 1 (fun w o => w32 (wordByte w o)))

/-- `STW`: rd names the source (R54, R55). -/
def execStw (sq rd ra : Nat) (imm : BitVec 18) (s : State) : Host.Outcome State Fault Refusal :=
  onDev s (fun d => d.store sq rd ra imm 4 (fun _ _ v => v))

/-- `STH`: rd names the source (R54, R55). -/
def execSth (sq rd ra : Nat) (imm : BitVec 18) (s : State) : Host.Outcome State Fault Refusal :=
  onDev s (fun d => d.store sq rd ra imm 2 (fun w o v => w32 (putBits w.toNat (8 * o + 15) (8 * o) v.toNat)))

/-- `STB`: rd names the source (R54, R55). -/
def execStb (sq rd ra : Nat) (imm : BitVec 18) (s : State) : Host.Outcome State Fault Refusal :=
  onDev s (fun d => d.store sq rd ra imm 1 (fun w o v => w32 (putBits w.toNat (8 * o + 7) (8 * o) v.toNat)))

/-! ### Special registers -/

/-- The mosaic node number, 0 outside a mosaic (R49, R390). -/
def Device.node (d : Device) : Nat := if d.on Reg.WFT_STATUS_numbered then d.rd Reg.WFT_MESH_node else 0

/-- Special register `n` of sequencer `q`, and the sequencer after the read: a read of sbeat[31:0] captures sbeat[47:32]
(R49, R50). DEDUCED (log entry 24): spass as `MFS` reads it counts the `MFS` itself. -/
def Device.special (d : Device) (q n : Nat) (x : Seq) : Option (Word × Seq) :=
  match n with
  | 0x00 => some (w32 d.beat.sbeat, { x with sbeatCap := d.beat.sbeat / 2 ^ 32 % 65536 })
  | 0x01 => some (w32 x.sbeatCap, x)
  | 0x02 => some (w32 (d.beat.stick % 2 ^ 22), x)
  | 0x03 => some (w32 (q + (if q = 4 then 8 else 0) + d.node * 256), x)
  | 0x04 => some (w32 (if q = 4 then 1 else 0), x)
  | 0x05 => some (x.sflags, x)
  | 0x06 => some (w32 x.sevent, x)
  | 0x07 => some (w32 x.spass, x)
  | 0x08 => some (w32 x.sbudget, x)
  | 0x09 => some (w32 (d.rd Reg.BEAT_FALLOW_start), x)
  | 0x0A => some (x.sepc, x)
  | 0x0B => some (w32 x.scause, x)
  | 0x0C => some (x.stval, x)
  | 0x0D => some (x.stvec, x)
  | 0x0E => some (x.sscratch, x)
  | _ => none

/-- `MFS`: a reserved number takes an ILLEGAL trap (R49). -/
def execMfs (sq rd : Nat) (num : BitVec 18) (s : State) : Host.Outcome State Fault Refusal :=
  onDev s (fun d => d.runInstr sq 1 [] (fun d x =>
    match d.special sq num.toNat x with
    | some (v, x) => .next (d.setSeq sq (x.setGr rd v))
    | none => .trap trapIllegal (encI 0x1A rd 0 num)))

/-- A writable special register written (R49, R52); none for a reserved or read-only one. -/
def Seq.setSpecial (x : Seq) (n : Nat) (v : Word) : Option Seq :=
  match n with
  | 0x05 => some (x.setFlagBits v.toNat)
  | 0x0A => some { x with sepc := v }
  | 0x0D => some { x with stvec := v }
  | 0x0E => some { x with sscratch := v }
  | _ => none

/-- `MTS`: a reserved or read-only number takes an ILLEGAL trap (R49). -/
def execMts (sq ra : Nat) (num : BitVec 18) (s : State) : Host.Outcome State Fault Refusal :=
  onDev s (fun d => d.runInstr sq 1 [ra] (fun d x =>
    match x.setSpecial num.toNat (x.gr ra) with
    | some x => .next (d.setSeq sq x)
    | none => .trap trapIllegal (encI 0x1B 0 ra num)))

/-! ### Control flow -/

/-- `B`: cond 0xF takes an ILLEGAL trap; one cycle not taken, two taken (R53, R54). -/
def execB (sq cond : Nat) (off : BitVec 22) (s : State) : Host.Outcome State Fault Refusal :=
  onDev s (fun d =>
    let taken := (d.seq sq).cond cond
    d.runInstr sq (if taken then 2 else 1) [] (fun d x =>
      if cond = 15 then .trap trapIllegal (encU 0x20 cond off)
      else if taken then .jump d (x.branchTo off)
      else .next d))

/-- `JAL`: rd := pc + 4 and a pc-relative jump (R54). -/
def execJal (sq rd : Nat) (off : BitVec 22) (s : State) : Host.Outcome State Fault Refusal :=
  onDev s (fun d => d.runInstr sq 2 [] (fun d x =>
    .jump (d.setSeq sq (x.setGr rd (w32 (x.pc + 4)))) (x.branchTo off)))

/-- `JALR`: rd := pc + 4 and a jump to ra + sext(imm18) with bits [1:0] cleared (R54). -/
def execJalr (sq rd ra : Nat) (imm : BitVec 18) (s : State) : Host.Outcome State Fault Refusal :=
  onDev s (fun d => d.runInstr sq 2 [ra] (fun d x =>
    .jump (d.setSeq sq (x.setGr rd (w32 (x.pc + 4)))) (w32 ((x.ea ra imm).toNat / 4 * 4))))

/-- `TRAP`: the trap handler is entered with the 22-bit code; sepc is the address after it (R70). -/
def execTrap (sq : Nat) (code : BitVec 22) (s : State) : Host.Outcome State Fault Refusal :=
  onDev s (fun d =>
    if d.canRun sq then
      (d.atTick (d.seq sq).now).trapAt sq trapInsn (w32 code.toNat) (w32 ((d.seq sq).pc + 4))
    else d)

/-- `ERET`: back to sepc with the saved flags, in_trap clear; ILLEGAL outside a trap (R54, R71). -/
def execEret (sq : Nat) (s : State) : Host.Outcome State Fault Refusal :=
  onDev s (fun d => d.runInstr sq 3 [] (fun d x =>
    if !x.inTrap then .trap trapIllegal encZ
    else .jump (d.setSeq sq { x.setFlagBits x.saved with inTrap := false }) (w32 (x.sepc.toNat / 4 * 4))))

/-- An instruction fetch that fails: a word that spells no instruction, or an uncorrectable IMEM word (R51, R70). A word that
spells one is no fetch of this kind (log entry 1). -/
def execSeqIllegal (sq : Nat) (why : FetchFault) (s : State) : Host.Outcome State Fault Refusal :=
  onDev s (fun d =>
    match why with
    | .illegal w => d.when (decodeScalar sq w).isNone (fun d => d.runInstr sq 1 [] (fun _ _ => .trap trapIllegal w))
    | .imemEcc => d.runInstr sq 1 [] (fun _ x => .trap trapImemEcc (w32 x.pc)))

/-! ### Waits -/

/-- `WAITB`: 0 ends the pass; a wake tick ahead sleeps to it; one that has passed continues at once (R63, R71). The pc stays at an
instruction that sleeps or stalls until it completes (R54). -/
def execWaitb (sq ra : Nat) (s : State) : Host.Outcome State Fault Refusal :=
  onDev s (fun d => d.runInstr sq 1 [ra] (fun d x =>
    let wake := (x.gr ra).toNat
    if wake = 0 then .stop ((d.setSeq sq { x with inTrap := false }).endPass sq)
    else if wake ≤ d.beat.stick then .next d
    else .stop (d.setSeq sq { x with wait := .tick wake })))

/-- stick reaches the wake tick of a sleeping pass, and it continues (R63). -/
def execWaitbWake (sq : Nat) (s : State) : Host.Outcome State Fault Refusal :=
  onDev s (fun d =>
    match (d.seq sq).wait with
    | .tick wake =>
      (d.atTick wake).wakeUp sq id
    | _ => d)

/-- What a `WAITF` answers now: the masked events, cleared; 0 at a deadline that has come; or nothing yet (R64). -/
def Seq.waitf (x : Seq) (stick rd mask deadline : Nat) : Option Seq :=
  let m := x.sevent &&& mask
  if m != 0 then some { x.setGr rd (w32 m) with sevent := x.sevent ^^^ m, z := false }
  else if deadline != 0 && decide (deadline ≤ stick) then some { x.setGr rd 0#32 with z := true }
  else none

/-- `WAITF` (R64). -/
def execWaitf (sq rd ra rb : Nat) (s : State) : Host.Outcome State Fault Refusal :=
  onDev s (fun d => d.runInstr sq 1 [ra, rb] (fun d x =>
    let mask := (x.gr ra).toNat
    let dl := (x.gr rb).toNat
    match x.waitf d.beat.stick rd mask dl with
    | some y => .next (d.setSeq sq y)
    | none => .stop (d.setSeq sq { x with wait := .event rd mask dl })))

/-- A masked event arrives, or `at` reaches the deadline, during a `WAITF`, and it returns (R64). -/
def execWaitfReturn (sq tick : Nat) (s : State) : Host.Outcome State Fault Refusal :=
  onDev s (fun d =>
    match (d.seq sq).wait with
    | .event rd mask dl =>
      let d := d.atTick tick
      match (d.seq sq).waitf d.beat.stick rd mask dl with
      | some y => d.wakeUp sq (fun _ => y)
      | none => d
    | _ => d)

/-! ### Locks -/

/-- `LOCKA` (R68). -/
def execLocka (sq rd ra : Nat) (s : State) : Host.Outcome State Fault Refusal :=
  onDev s (fun d => d.runInstr sq 6 [ra] (fun d x =>
    let (code, d) := d.lockAcquire (.seq sq) (x.gr ra).toNat
    .next (d.setSeq sq (x.result rd code 0 0))))

/-- `LOCKR` (R68). -/
def execLockr (sq rd ra : Nat) (s : State) : Host.Outcome State Fault Refusal :=
  onDev s (fun d => d.runInstr sq 4 [ra] (fun d x =>
    let (code, d) := d.lockRelease (.seq sq) (x.gr ra).toNat
    .next (d.setSeq sq (x.result rd code 0 0))))

/-! ### Overruns -/

/-- The pass stopped at once, so that the next edge starts a fresh one (R34, R73). -/
def Device.stopPass (d : Device) (q : Nat) : Device :=
  d.modSeq q (fun x => { x with running := false, wait := .running })

/-- A due OVERRUN trap is taken at once unless the pass stalls. -/
def Device.whenRuns (d : Device) (q : Nat) : Device := if (d.seq q).wait.stalls then d else d.dueTrap q

/-- The device when the count of sequencer `q` reaches `n` cycles: a stall under way is counted up to that cycle (R34). -/
def Device.reachCount (d : Device) (q n : Nat) : Device :=
  let x := d.seq q
  if x.running && x.wait.stalls then (d.atTick (x.now + (n - x.spass))).countStall q else d

/-- Whether sequencer `q` executes or stalls on its own instructions, so that its cycles count (R34). -/
def Device.counts (d : Device) (q : Nat) : Bool :=
  d.canRun q || ((d.seq q).running && (d.seq q).wait.stalls && decide (q ≤ 4))

/-- A pass has used its budget without `WAITB`, in an instruction or in a stall: counted, recorded, and met by the policy; the SSQ
always uses TRAP (R34, R35, R37). STOP halts a stalled pass at once; the OVERRUN trap waits for the instruction that stalls, since
its sepc is the address of the instruction that would have run next (R70, log entry 23). -/
def execPassOverrun (sq : Nat) (s : State) : Host.Outcome State Fault Refusal :=
  onDev s (fun d =>
    if d.counts sq && (d.seq sq).overrun.isNone then
      let d := d.reachCount sq (d.seq sq).sbudget
      let x := d.seq sq
      d.when (decide (x.sbudget ≤ x.spass)) (fun d =>
        let d := (d.bump (Reg.BEAT_SQ_OVR_overruns sq)).raise
          { fault 0x0A 3 (csqBase sq) sq with secure := sq == 4, addr := x.spass }
        let d := d.modSeq sq (fun x => { x with overrun := some x.spass })
        match (if sq = 4 then 1 else d.rdAct (Reg.BEAT_SQ_BUDGET_policy sq)) with
        | 0 => d
        | 2 => d.stopPass sq
        | _ => (d.modSeq sq (fun x => { x with ovr := .due })).whenRuns sq)
    else d)

/-- The pass that took an OVERRUN trap goes on for 2,000 further counted cycles, stalls included, and is stopped (R73): whatever the
policy register has come to say. DEDUCED (log entry 23): the cycles are counted from spass as the trap found it, before the 4
cycles of its entry. -/
def execOverrunGraceExpire (sq : Nat) (s : State) : Host.Outcome State Fault Refusal :=
  onDev s (fun d =>
    let x := d.seq sq
    match x.overrun with
    | some t =>
      if x.running && x.ovr == .taken && decide (sq ≤ 4) then
        let d := d.reachCount sq (t + 2000)
        d.when (decide (t + 2000 ≤ (d.seq sq).spass)) (fun d => d.stopPass sq)
      else d
    | none => d)

end Sys2Proof.Machine
end

