-- ==== Sys2Proof/Machine/Assembly.lean ====
section
/-!
DEFINITION. Between the vertex program and the fragment program (R97, R105 to R107, R134): primitive assembly, clipping and culling,
the bin pool, the partial-render sequence when it is full, and the fragments that wait for shading.
-/

namespace Sys2Proof.Machine

open Sys2Proof

/-! ### Primitive assembly -/

/-- How many primitives `n` vertices of an instance make in a topology (R98). -/
def primsOf (topo n : Nat) : Nat :=
  match topo with
  | 0 => n
  | 1 => n / 2
  | 2 => n - 1
  | 3 => n / 3
  | _ => n - 2

/-- The vertices of primitive `n` of an instance, as Vulkan orders them; a point names its vertex thrice and a line its second twice. -/
def primVerts (topo n : Nat) : List Nat :=
  match topo with
  | 0 => [n, n, n]
  | 1 => [2 * n, 2 * n + 1, 2 * n + 1]
  | 2 => [n, n + 1, n + 1]
  | 3 => [3 * n, 3 * n + 1, 3 * n + 2]
  | 4 => [n, n + 1 + n % 2, n + 2 - n % 2]
  | _ => [n + 1, n + 2, 0]

/-- The number of primitives of a draw. -/
def DrawState.prims (x : DrawState) : Nat := x.insts * primsOf x.topo x.count

/-- The number of vertices of a draw. -/
def DrawState.verts (x : DrawState) : Nat := x.insts * x.count

/-- The number under which vertex `v` of draw `n` of a pass is kept. -/
def vtxKey (n v : Nat) : Nat := n * 2 ^ 64 + v

/-- The keys of the vertices of primitive `i` of draw `n`. -/
def DrawState.keys (x : DrawState) (n i : Nat) : List Nat :=
  let per := primsOf x.topo x.count
  (primVerts x.topo (i % per)).map (fun v => vtxKey n (i / per * x.count + v))

/-! ### Clip and cull -/

/-- A finite binary32 number in units of 2^-149. -/
def fixed (a : Nat) : Option Int :=
  match f32.decode a with
  | .fin s m e => some (sgn s (m * 2 ^ (e + 149).toNat))
  | _ => none

/-- A clip-space position with finite components x, y, z, w. -/
def clipPos (v : Vtx) : Option (Int × Int × Int × Int) :=
  match v.pos.map (fun a => fixed a.toNat) with
  | [some x, some y, some z, some w] => some (x, y, z, w)
  | _ => none

/-- Whether a primitive is clipped away (R97, R154): a vertex of it has the position (0, 0, 0, 0), or all of it lies outside one plane of the
view volume. -/
def clippedAway (vs : List Vtx) : Bool :=
  vs.any (fun v => v.pos.all (· == 0#32)) ||
    match vs.mapM clipPos with
    | some ps =>
      ps.all (fun p => decide (p.1 < -p.2.2.2)) || ps.all (fun p => decide (p.2.2.2 < p.1))
        || ps.all (fun p => decide (p.2.1 < -p.2.2.2)) || ps.all (fun p => decide (p.2.2.2 < p.2.1))
        || ps.all (fun p => decide (p.2.2.1 < 0)) || ps.all (fun p => decide (p.2.2.2 < p.2.2.1))
    | none => false

/-- Twice the signed area of a triangle in x, y, w: negative where it is counter-clockwise on the screen, whose y runs down. -/
def windingOf (ps : List (Int × Int × Int × Int)) : Int :=
  match ps with
  | [(x0, y0, _, w0), (x1, y1, _, w1), (x2, y2, _, w2)] => x0 * (y1 * w2 - w1 * y2) - y0 * (x1 * w2 - w1 * x2) + w0 * (x1 * y2 - y1 * x2)
  | _ => 0

/-- Whether the raster word culls a triangle (R97, R98). -/
def faceCulled (word topo : Nat) (vs : List Vtx) : Bool :=
  match vs.mapM clipPos with
  | some ps =>
    let a := windingOf ps
    let front := if bitOn word 2 then decide (a < 0) else decide (0 < a)
    decide (3 ≤ topo) && (if bits word 1 0 = 1 then front else if bits word 1 0 = 2 then !front else false)
  | none => false

/-! ### The bin pool -/

/-- The blocks of the bin pool that an item uses (R105, R106, R112). -/
def Device.binRoom (d : Device) (u c : Nat) : Nat :=
  match d.item u with
  | some x =>
    match x.slot with
    | some sl => (d.rd (Reg.RAS_SLOT_CFG_size_mib sl.ch) - 3) * 2 ^ 20 / 64
    | none => d.rd (Reg.RAS_CTXPOOL_SIZE_size_mib c) * 2 ^ 20 / 64
  | none => 0

/-- The address of the bin pool that an item uses. -/
def Device.binBase (d : Device) (u c : Nat) : Nat :=
  match (d.item u).bind (·.slot) with
  | some sl => d.slotBase sl + 3 * 2 ^ 20
  | none => d.rd (Reg.RAS_CTXPOOL_HI_addr_hi c) * 2 ^ 32 + d.rd (Reg.RAS_CTXPOOL_LO_addr_lo c) * 2 ^ 16

/-- Block `n` of the bin pool written with what `content` stands for (R106). -/
def putBlock (k : RasCtx) (base n : Nat) (content : List Nat) : RasM Unit := fun d =>
  let a := base + 64 * n
  match d.poolWrite k.c k.u a ((List.range 64).map (Config.poolByte content)) with
  | (.ok (), d) => (.ok (), d)
  | (.error e, d) => (.error (.mem e 2 a), d)

/-- Whether the list of a tile has room for one more reference (R106). -/
def PassState.listOpen (p : PassState) (t : Nat) : Bool :=
  match p.lists.find? (fun l => l.1 == t) with | some l => decide (l.2.refs.length < 15) | none => false

/-- The list blocks that a primitive needs: one wherever a tile has no list yet or its last block is full (R106). -/
def PassState.newBlocks (p : PassState) (tiles : List Nat) : Nat := (tiles.filter (fun t => !p.listOpen t)).length

/-- A reference to record `rec` added to the list of tile `t` (R106): in its last block, or in a new one to which the last one then links. -/
def putRef (k : RasCtx) (base rec : Nat) (p : PassState) (t : Nat) : RasM PassState := do
  match p.lists.find? (fun l => l.1 == t) with
  | some l =>
    if l.2.refs.length < 15 then
      let b := { l.2 with refs := l.2.refs ++ [rec] }
      putBlock k base b.block (1 :: b.refs)
      pure { p with lists := tput p.lists t b }
    else
      putBlock k base l.2.block (2 :: p.blocks :: l.2.refs)
      putBlock k base p.blocks [1, rec]
      pure { p with lists := tput p.lists t { block := p.blocks, refs := [rec] }, blocks := p.blocks + 1 }
  | none =>
    putBlock k base p.blocks [1, rec]
    pure { p with lists := tput p.lists t { block := p.blocks, refs := [rec] }, blocks := p.blocks + 1 }

/-- A primitive's record and list entries written into the bin pool (R106). -/
def binBlocks (k : RasCtx) (base : Nat) (p : PassState) (tiles : List Nat) (vs : List Vtx) : RasM PassState := do
  putBlock k base p.blocks (0 :: vs.flatMap (fun v => v.pos.map (·.toNat)))
  tiles.foldlM (fun p t => putRef k base p.blocks p t) { p with blocks := p.blocks + 1 }

/-! ### Fragments that wait -/

/-- Whether two pixels lie in one quad. -/
def sameQuad (f g : Frag) : Bool := f.x / 2 == g.x / 2 && f.y / 2 == g.y / 2

/-- Whether a fragment wave of item `u` shades the quad of a fragment. -/
def Device.shading (d : Device) (u : Nat) (f : Frag) : Bool :=
  d.ras.waves.any (fun w => w.uid == u && w.kind == 1 && w.frags.any (fun e => e.2.x / 2 == f.x / 2 && e.2.y / 2 == f.y / 2))

/-- The fragments of depth-only draws whose turn has come are tested (R134): those with no earlier fragment of their quad still to shade. -/
def drainDepth (k : RasCtx) : RasM Unit := do
  let d ← get
  match d.run k.u with
  | none => pure ()
  | some r =>
    match r.pass with
    | none => pure ()
    | some p =>
      let (p, kept) ← r.frags.foldlM
        (fun (acc : PassState × List Covered) f => do
          let free := !acc.2.any (fun g => sameQuad g.frag f.frag) && !d.shading k.u f.frag
          match r.draws[f.draw]? with
          | some dr =>
            if dr.fhead.isEmpty && free then do
              let (_, p) ← testFrag k dr.bound.words acc.1 f.frag
              pure (p, acc.2)
            else pure (acc.1, acc.2 ++ [f])
          | none => pure acc) (p, [])
      modify (fun d => d.modRun k.u (fun r => { r with pass := some p, frags := kept }))

/-! ### Binning -/

/-- The first draw of a run with a primitive still to assemble, with its number. -/
def Run.nextDraw (r : Run) : Option (DrawState × Nat) := r.draws.zipIdx.find? (fun e => decide (e.1.taken < e.1.prims))

/-- The vertices with the keys `ks`, once all of them are shaded. -/
def Run.shaded (r : Run) (ks : List Nat) : Option (List Vtx) := ks.mapM (fun n => (r.vtx.find? (fun e => e.1 == n)).map (·.2))

/-- Primitive assembly moves past a primitive of draw `n`. -/
def Run.takePrim (r : Run) (n : Nat) : Run := { r with draws := modAt r.draws n (fun x => { x with taken := x.taken + 1 }) }

/-- Whether fragments that binning passed on earlier are still to shade. -/
def Device.rendering (d : Device) (u : Nat) (r : Run) : Bool :=
  !r.frags.isEmpty || d.ras.waves.any (fun w => w.uid == u && w.kind == 1)

/-- The fragments of a primitive inside the pass's area and in its tiles. -/
def coveredOf (p : PassState) (n i : Nat) (keys tiles : List Nat) (fs : List Frag) : List Covered :=
  (fs.filter (fun f => decide (f.x < p.width) && decide (f.y < p.height) && tiles.contains (p.tileOf f.x f.y)
    && !(p.covered f.mask).isEmpty)).map
      (fun f => { draw := n, prim := i, frag := f, va := keys.getD 0 0, vb := keys.getD 1 0, vc := keys.getD 2 0 })

/-- One primitive survives clipping and culling and is binned (R106, R107): false while the pool is full and what was binned before is
not rendered yet; once it is, a partial render makes room. -/
def binPrim (k : RasCtx) (d : Device) (r : Run) (p : PassState) (dr : DrawState) (n : Nat) (vs : List Vtx) : RasM Bool := do
  let pr := dr.cover.getD dr.taken { tiles := [], frags := [] }
  let tiles := (pr.tiles.filter (· < p.tiles)).eraseDups
  let full := decide (d.binRoom k.u k.c < p.blocks + 1 + p.newBlocks tiles)
  if full && d.rendering k.u r then pure false
  else do
    let p ← if full then partialRender k p else pure p
    let p ← binBlocks k (d.binBase k.u k.c) p tiles vs
    let fs := coveredOf p n dr.taken (dr.keys n dr.taken) tiles pr.frags
    modify (fun d => d.modRun k.u (fun r => { r.takePrim n with pass := some p, frags := r.frags ++ fs }))
    drainDepth k
    pure true

/-- The next primitive in order is assembled, clipped, culled and binned (R97): false when none can be now. -/
def nextPrim (k : RasCtx) : RasM Bool := do
  let d ← get
  match d.run k.u with
  | none => pure false
  | some r =>
    match r.pass, r.nextDraw with
    | some p, some (dr, n) =>
      match r.shaded (dr.keys n dr.taken) with
      | none => pure false
      | some vs =>
        if clippedAway vs || faceCulled (leAt dr.bound.words 0x20 4) dr.topo vs then do
          modify (fun d => d.modRun k.u (fun r => r.takePrim n))
          pure true
        else binPrim k d r p dr n vs
    | _, _ => pure false

/-- Up to `n` primitives in order, until one has to wait. -/
def nextPrims (k : RasCtx) : Nat → RasM Unit
  | 0 => pure ()
  | n + 1 => do
    let more ← nextPrim k
    if more then nextPrims k n else pure ()

/-- The fixed stages of an item go on as far as they can (R97): depth-only fragments whose turn has come, then the primitives whose
vertices are shaded. -/
def goOn (k : RasCtx) : RasM Unit := do
  drainDepth k
  let d ← get
  nextPrims k (match d.run k.u with | some r => (r.draws.map (fun x => x.prims - x.taken)).sum | none => 0)

end Sys2Proof.Machine
end

