-- ==== Sys2Proof/Machine/Packets.lean ====
section
/-!
DEFINITION. The command processor (R97 to R100, R104): the packets of a command buffer, each a step of the item whose
buffer holds it, program headers (R133) and the vertex buffer table (R137).
-/

namespace Sys2Proof.Machine

open Sys2Proof

/-! ### Programs and tables -/

/-- A program header (R133). -/
structure ProgHead where
  kind : Nat
  vregs : Nat
  sregs : Nat
  wgmem : Nat
  wx : Nat
  wy : Nat
  wz : Nat
  early : Bool
  wdepth : Bool
  kills : Bool
  slots : Nat
  text : Nat
  entry : Nat

/-- Whether a header's 64 bytes meet every condition of R133 for a program of `kind`. -/
def progOk (kind : Nat) (b : List Byte) : Bool :=
  let f := fun o => leAt b o 4
  let v := bits (f 0x0C) 8 0
  let s := bits (f 0x0C) 23 16
  let x := bits (f 0x14) 9 0
  let y := bits (f 0x14) 19 10
  let z := bits (f 0x14) 29 20
  f 0 == 0x4B564750 && f 4 == 1 && f 8 == kind
    && f 0x0C == v + s * 65536 && decide (8 ≤ v) && decide (v ≤ 256) && v % 8 == 0
    && decide (16 ≤ s) && decide (s ≤ 128) && s % 16 == 0
    && f 0x10 % 256 == 0 && decide (f 0x10 ≤ 65536) && (kind == 2 || f 0x10 == 0)
    && (if kind = 2 then f 0x14 < 2 ^ 30 && 1 ≤ x && 1 ≤ y && 1 ≤ z && x * y * z ≤ 512 else f 0x14 == 0)
    && (f 0x18 &&& 0x1F7) == f 0x18 && decide (bits (f 0x18) 8 4 ≤ 16)
    && f 0x1C % 8 == 0 && decide (f 0x1C ≤ 2 ^ 20) && f 0x20 % 8 == 0 && leAt b 0x24 28 == 0

/-- A program header decoded. -/
def progHead (b : List Byte) : ProgHead :=
  let f := fun o => leAt b o 4
  { kind := f 8, vregs := bits (f 0x0C) 8 0, sregs := bits (f 0x0C) 23 16, wgmem := f 0x10, wx := bits (f 0x14) 9 0,
    wy := bits (f 0x14) 19 10, wz := bits (f 0x14) 29 20, early := bitOn (f 0x18) 0, wdepth := bitOn (f 0x18) 1,
    kills := bitOn (f 0x18) 2, slots := bits (f 0x18) 8 4, text := f 0x1C, entry := f 0x20 }

/-- The header at an address read and checked; one that fails is malformed (R133). -/
def readProg (k : RasCtx) (kind a : Nat) : RasM (List Byte) := do
  let b ← rasRead k.c k.i a 64 1
  rasCheck (progOk kind b) .malformed
  pure b

/-- Components of a vertex format: how many, and the bytes of an element (R137). -/
def vtxFormat (f : Nat) : Option (Nat × Nat) :=
  match f with
  | 1 => some (1, 4)
  | 2 => some (2, 8)
  | 3 => some (3, 12)
  | 4 => some (4, 16)
  | 5 => some (4, 4)
  | 6 => some (2, 4)
  | 7 => some (4, 8)
  | 8 => some (1, 4)
  | 9 => some (2, 8)
  | 0xA => some (3, 12)
  | 0xB => some (4, 16)
  | _ => none

/-- Whether one entry of the vertex buffer table meets the conditions of R137. Every used entry fills four registers, since
the components that its format lacks read as 0, 0, 0 and 1.0. -/
def vtxEntryOk (vregs : Nat) (b : List Byte) : Bool :=
  let f := leAt b 0x0C 1
  f == 0
    || ((vtxFormat f).isSome && decide (leAt b 8 2 ≤ 2048) && decide (leAt b 0x0D 1 + 4 ≤ vregs)
        && decide (leAt b 0x0E 1 < 2) && leAt b 0x0F 1 == 0)

/-- The 16 entries of the vertex buffer table. -/
def splitEntries (b : List Byte) : List (List Byte) := (List.range 16).map (fun n => (b.drop (16 * n)).take 16)

/-! ### Packets -/

/-- Whether the packet's bytes outside `ranges` (offset, bytes, mask) are zero, its opcode apart (R98). -/
def packetZero (b : List Byte) (ranges : List (Nat × Nat × Nat)) : Bool :=
  let allowed := ranges.foldl (fun a r => a ||| ((r.2.2 % 2 ^ (8 * r.2.1)) * 2 ^ (8 * r.1))) 0xFF
  (leNat b ||| allowed) == allowed

/-- All ones of `n` bytes. -/
def anyBits (n : Nat) : Nat := 2 ^ (8 * n) - 1

/-- The fields of each packet (R98): offset, bytes, mask. -/
def packetRanges (op : Nat) : List (Nat × Nat × Nat) :=
  match op with
  | 1 => [(8, 24, anyBits 24), (0x20, 4, 7), (0x24, 4, 0x3F), (0x28, 4, 0x7FFFFFF), (0x2C, 4, 0x7FFFFFFF),
          (0x30, 4, 0x7FFFFFFF), (0x34, 4, 0x7FFFFFFF), (0x38, 4, 0x7FFFFFFF)]
  | 2 => [(4, 2, 0x3FFF), (6, 2, 0x3FFF), (8, 1, 3)]
  | 3 => [(4, 1, 7), (5, 1, 0xFF), (6, 1, 7), (8, 24, anyBits 24)]
  | 4 => [(4, 1, 0x3F), (8, 20, anyBits 20), (0x20, 8, anyBits 8)]
  | 5 => [(4, 1, 0x3F), (8, 16, anyBits 16), (0x20, 8, anyBits 8)]
  | 6 => [(8, 12, anyBits 12)]
  | 7 => [(8, 8, anyBits 8)]
  | 9 => [(4, 1, 0xF), (8, 16, anyBits 16)]
  | 0xB => [(8, 24, anyBits 24)]
  | 0xC => [(8, 8, anyBits 8)]
  | _ => []

/-- Whether the raster engine executes an item now: a pick runs it and is not preempted, or the context runs it. -/
def Device.executing (d : Device) (u : Nat) : Bool :=
  match d.pickOf u with
  | some p => !p.held && p.preempt.isNone
  | none =>
    match d.ctxOf u with
    | some c => match d.ctx c with | some x => x.start.isSome | none => false
    | none => false

/-- A malformed packet (R99): recorded, and the item stops. -/
def Device.malformed (d : Device) (u off op : Nat) : Device :=
  match d.item u, d.run u with
  | some x, some r =>
    let c := r.ch
    let d := (d.wr (Reg.RAS_CMD_ERR_POS_offset c) off).wr (Reg.RAS_CMD_ERR_SRC_valid c) 1
    let d := ((d.wr (Reg.RAS_CMD_ERR_SRC_queue c) x.queue).wr (Reg.RAS_CMD_ERR_SRC_inst c) x.inst).wr
      (Reg.RAS_CMD_ERR_SRC_op c) op
    (d.raise { fault 0x0A 4 (chanBase c 1) c with inst := some x.inst, addr := off, infoA := op }).stopItem u stFault 0x0A
  | _, _ => d

/-- The result of engine work on a packet at `off` with opcode `op` applied. -/
def Device.afterPacket (d : Device) (u off op : Nat) (r : Except RasErr Unit) : Device :=
  match r with
  | .ok () => d.modRun u (fun x => { x with pos := off + 64 })
  | .error (.mem e det a) => d.memStop u e det a
  | .error _ => d.malformed u off op

/-- Whether an item has nothing under way in any stage (R98): no wave, every dispatch has run, every vertex of every draw has started,
every primitive is binned and every fragment is shaded. -/
def Device.idleRun (d : Device) (u : Nat) : Bool :=
  !d.ras.waves.any (fun w => w.uid == u) &&
    match d.run u with
    | some r =>
      r.disps.all (fun s => s.started.length == s.nx * s.ny * s.nz)
        && r.draws.all (fun x => x.next == x.verts && x.taken == x.prims) && r.frags.isEmpty
    | none => true

/-- The engine executes the packet at an item's position when its opcode is one that `mine` takes (R98, R99). `ready` tells
whether the packet can proceed; `f` does its work. -/
def Device.packet (d : Device) (u : Nat) (mine : Nat → Bool) (ready : Device → Run → Bool)
    (f : RasCtx → Run → List Byte → RasM Unit) : Device :=
  match d.item u, d.run u with
  | some x, some r =>
    let off := r.pos
    if !d.executing u || x.pay 0x28 4 < off + 64 || !ready d r then d
    else
      match d.l2Read r.ch x.inst (x.pay 0x20 8 + off) 64 with
      | (.error e, d) => d.memStop u e 3 (x.pay 0x20 8 + off)
      | (.ok b, d) =>
        let op := leAt b 0 1
        if !mine op then d
        else
          let attaching := op == 2 || op == 3
          let d' := if attaching then d
            else d.modRun u (fun r => { r with pass := r.pass.map (fun p => { p with attaching := false }) })
          let k : RasCtx := { c := r.ch, i := x.inst, u := u }
          let m : RasM Unit := do
            rasCheck (packetZero b (packetRanges op)) .malformed
            f k r b
          match m.run d' with
          | (res, d) => d.afterPacket u off op res
  | _, _ => d

/-- The run changed from within engine work. -/
def setRun (k : RasCtx) (f : Run → Run) : RasM Unit := modify (fun d => d.modRun k.u f)

/-- Every packet can proceed at once. -/
def atOnce (_ : Device) (_ : Run) : Bool := true

/-- `NOP`, and the packets whose opcode R98 does not list, which are malformed (R99). -/
def execNop (u : Nat) (s : State) : Host.Outcome State Fault Refusal :=
  onDev s (fun d => d.packet u (fun op => op == 0 || 0x0D < op) atOnce (fun _ _ b => rasCheck (leAt b 0 1 == 0) .malformed))

/-- Whether a blend word holds factors and ops that exist. -/
def blendOk (w : Nat) : Bool :=
  decide (bits w 9 5 ≤ 18) && decide (bits w 14 10 ≤ 18) && decide (bits w 17 15 ≤ 4) && decide (bits w 22 18 ≤ 18)
    && decide (bits w 27 23 ≤ 18) && decide (bits w 30 28 ≤ 4)

/-- `STATE` (R98). -/
def execState (u : Nat) (s : State) : Host.Outcome State Fault Refusal :=
  onDev s (fun d => d.packet u (· == 1) atOnce (fun k _ b => do
    rasCheck (decide (leAt b 0x20 4 % 4 ≤ 2) && ([0, 1, 2, 3].all (fun n => blendOk (leAt b (0x2C + 4 * n) 4)))) .malformed
    setRun k (fun r => { r with bound := { r.bound with words := b } })))

/-- `PASS_BEGIN` (R98, R99). -/
def execPassBegin (u : Nat) (s : State) : Host.Outcome State Fault Refusal :=
  onDev s (fun d => d.packet u (· == 2) atOnce (fun k r b => do
    let w := leAt b 4 2
    let h := leAt b 6 2
    rasCheck (r.pass.isNone && decide (1 ≤ w) && decide (w ≤ 8192) && decide (1 ≤ h) && decide (h ≤ 8192)
      && decide (leAt b 8 1 ≤ 2)) .malformed
    setRun k (fun r => { r with pass := some {
      width := w, height := h, samples := leAt b 8 1, atts := [], attaching := true, blocks := 0, lists := [], flushed := [],
      rendered := [], texels := [] } })))

/-- `ATTACH` (R98, R99). -/
def execAttach (u : Nat) (s : State) : Host.Outcome State Fault Refusal :=
  onDev s (fun d => d.packet u (· == 3) atOnce (fun k r b => do
    let idx := leAt b 4 1
    let fmt := leAt b 5 1
    match r.pass with
    | none => throw .malformed
    | some p =>
      rasCheck (p.attaching && decide (idx ≤ 4) && !p.atts.any (fun a => a.idx == idx)
        && (if idx = 4 then decide (fmt ≤ 2) else decide (fmt ≤ 7) && fmt != 3) && decide (leAt b 6 1 % 4 ≤ 2)
        && leAt b 8 8 % 4096 == 0 && leAt b 0x18 8 % 4096 == 0) .malformed
      let a : Attach :=
        { idx := idx, fmt := fmt, load := leAt b 6 1 % 4, discard := bitOn (leAt b 6 1) 2, addr := leAt b 8 8,
          clear := leAt b 0x10 8, spill := leAt b 0x18 8 }
      setRun k (fun r => { r with pass := some { p with atts := p.atts ++ [a] } })))

/-- What a draw takes up of its run (R98, R99, R132, R133, R137): the vertex buffer table and the headers of its programs, checked. -/
structure DrawHeads where
  table : List Byte
  vhead : List Byte
  fhead : List Byte

/-- The checks that a draw makes of its programs and its vertex buffer table (R99, R133, R137). -/
def drawChecks (k : RasCtx) (r : Run) : RasM DrawHeads := do
  let vp := leAt r.bound.words 8 8
  let fp := leAt r.bound.words 0x10 8
  rasCheck (r.pass.isSome && vp != 0) .malformed
  let v ← readProg k 0 vp
  let f ← if fp = 0 then pure [] else readProg k 1 fp
  let t ← rasRead k.c k.i r.bound.vbuf 256 1
  rasCheck ((splitEntries t).all (vtxEntryOk (progHead v).vregs)) .malformed
  pure { table := t, vhead := v, fhead := f }

/-- Whether byte 0x04 of a draw names a topology and an index size that exist. -/
def drawByteOk (v : Nat) : Bool := decide (v % 16 ≤ 5) && decide (v / 16 ≤ 2)

/-- The draw that the packet `b` of DRAW gives (R98). -/
def drawOf (r : Run) (h : DrawHeads) (b : List Byte) (cover : List Prim) : DrawState :=
  { topo := leAt b 4 1 % 16, idxSize := leAt b 4 1 / 16, count := leAt b 8 4, insts := leAt b 0x0C 4, first := leAt b 0x10 4,
    voff := sextNat 32 (leAt b 0x14 4), firstInst := leAt b 0x18 4, idxAddr := leAt b 0x20 8, bound := r.bound, table := h.table,
    vhead := h.vhead, fhead := h.fhead, cover := cover, next := 0, taken := 0 }

/-- `DRAW` (R97, R98): the draw is taken up with what is bound now. `cover` gives, by the number of a primitive, what rasterisation makes of
it when it is neither clipped away nor culled. -/
def execDraw (u : Nat) (cover : List Prim) (s : State) : Host.Outcome State Fault Refusal :=
  onDev s (fun d => d.packet u (· == 4) atOnce (fun k r b => do
    rasCheck (drawByteOk (leAt b 4 1)) .malformed
    let h ← drawChecks k r
    setRun k (fun r => { r with draws := r.draws ++ [drawOf r h b cover] })
    goOn k))

/-- The draw that indirect arguments `b` give under byte `v` (R98). -/
def indirectDraw (r : Run) (h : DrawHeads) (v idxAddr : Nat) (b : List Byte) (cover : List Prim) : DrawState :=
  let indexed := v / 16 != 0
  { topo := v % 16, idxSize := v / 16, count := leAt b 0 4, insts := leAt b 4 4, first := leAt b 8 4,
    voff := if indexed then sextNat 32 (leAt b 12 4) else 0, firstInst := if indexed then leAt b 16 4 else leAt b 12 4,
    idxAddr := idxAddr, bound := r.bound, table := h.table, vhead := h.vhead, fhead := h.fhead, cover := cover, next := 0, taken := 0 }

/-- The draws of DRAW_INDIRECT `b` taken up in order (R98); `covers` gives the coverage of each. -/
def indirectDraws (k : RasCtx) (r : Run) (h : DrawHeads) (b : List Byte) (covers : List (List Prim)) : RasM Unit :=
  (List.range (leAt b 0x10 4)).forM (fun n => do
    let a ← rasRead k.c k.i (leAt b 8 8 + n * leAt b 0x14 4) (if leAt b 4 1 / 16 = 0 then 16 else 20) 1
    setRun k (fun y => { y with draws := y.draws ++ [indirectDraw r h (leAt b 4 1) (leAt b 0x20 8) a (covers.getD n [])] }))

/-- `DRAW_INDIRECT` (R98). -/
def execDrawIndirect (u : Nat) (covers : List (List Prim)) (s : State) : Host.Outcome State Fault Refusal :=
  onDev s (fun d => d.packet u (· == 5) atOnce (fun k r b => do
    rasCheck (drawByteOk (leAt b 4 1)) .malformed
    let h ← drawChecks k r
    indirectDraws k r h b covers
    goOn k))

/-- A dispatch taken up (R98). -/
def addDispatch (k : RasCtx) (r : Run) (x y z : Nat) : RasM Unit := do
  let cp := leAt r.bound.words 0x18 8
  rasCheck (cp != 0) .malformed
  let h ← readProg k 2 cp
  setRun k (fun r => { r with disps := r.disps ++ [({ nx := x, ny := y, nz := z, bound := r.bound, head := h, started := [] } : DispState)] })

/-- `DISPATCH` (R98, R99). -/
def execDispatch (u : Nat) (s : State) : Host.Outcome State Fault Refusal :=
  onDev s (fun d => d.packet u (· == 6) atOnce (fun k r b => do
    let ok := fun n => decide (1 ≤ n) && decide (n ≤ 65535)
    rasCheck (r.pass.isNone && ok (leAt b 8 4) && ok (leAt b 0x0C 4) && ok (leAt b 0x10 4)) .malformed
    addDispatch k r (leAt b 8 4) (leAt b 0x0C 4) (leAt b 0x10 4)))

/-- `DISPATCH_INDIRECT` (R98). -/
def execDispatchIndirect (u : Nat) (s : State) : Host.Outcome State Fault Refusal :=
  onDev s (fun d => d.packet u (· == 7) atOnce (fun k r b => do
    rasCheck (leAt r.bound.words 0x18 8 != 0) .malformed
    let a ← rasRead k.c k.i (leAt b 8 8) 12 1
    addDispatch k r (leAt a 0 4) (leAt a 4 4) (leAt a 8 4)))

/-- `PASS_END` (R99, R107): once the waves of the pass have ended, its tiles are rendered and stored. -/
def execPassEnd (u : Nat) (s : State) : Host.Outcome State Fault Refusal :=
  onDev s (fun d => d.packet u (· == 8) (fun d r => r.pass.isNone || d.idleRun u) (fun k r _ => do
    match r.pass with
    | none => throw .malformed
    | some p =>
      endPass k p
      setRun k (fun r => { r with pass := none, draws := [], vtx := [] })))

/-- `CACHE` (R98, R103, R104): L1 invalidation, and cleaning and invalidation of an L2 range, with its pinned lines only under bit 3. -/
def execCache (u : Nat) (s : State) : Host.Outcome State Fault Refusal :=
  onDev s (fun d => d.packet u (· == 9) atOnce (fun k _ b => do
    let v := leAt b 4 1
    let a := leAt b 8 8
    let n := leAt b 0x10 8
    let d ← get
    let (keys, d) := if n = 0 then (([] : List Nat), d) else d.rangeKeys k.i a n
    let inRange := fun (l : L2Line) => (n == 0 || keys.contains l.key) && (!l.pinned || bitOn v 3)
    let d := if bitOn v 0 then d.l1DropMask k.c 0xFFF else d
    let d := if bitOn v 2 then d.l2Clean k.c inRange else d
    let d := if bitOn v 1 then
        d.setL2 k.c ((d.l2 k.c).filter (fun l => !inRange l || l.dirty != 0))
      else d
    set d))

/-- `BARRIER` (R98): it ends once every earlier packet has finished. -/
def execBarrier (u : Nat) (s : State) : Host.Outcome State Fault Refusal :=
  onDev s (fun d => d.packet u (· == 0x0A) (fun d _ => d.idleRun u) (fun _ _ _ => pure ()))

/-- `BIND` (R98). -/
def execBind (u : Nat) (s : State) : Host.Outcome State Fault Refusal :=
  onDev s (fun d => d.packet u (· == 0x0B) atOnce (fun k _ b =>
    setRun k (fun r => { r with bound := { r.bound with res := leAt b 8 8, vbuf := leAt b 0x10 8, consts := leAt b 0x18 8 } })))

/-- `TIMESTAMP` (R98): the beat time, once every earlier packet has finished. -/
def execTimestamp (u : Nat) (s : State) : Host.Outcome State Fault Refusal :=
  onDev s (fun d => d.packet u (· == 0x0C) (fun d _ => d.idleRun u) (fun k _ b => do
    rasCheck (leAt b 8 8 % 8 == 0) .malformed
    let d ← get
    rasWrite k.c k.i k.u (leAt b 8 8) (leBytes 8 d.beatTime)))

/-- An item whose buffer has reached its length (R99): it ends as with END, or it is malformed inside a pass. -/
def Device.lengthEnd (d : Device) (u : Nat) : Device :=
  match d.item u, d.run u with
  | some x, some r =>
    if !d.executing u || r.pos + 64 ≤ x.pay 0x28 4 || !d.idleRun u then d
    else if r.pass.isSome then d.malformed u (x.pay 0x28 4) 0xFF
    else d.endItem u stDone 0 0
  | _, _ => d

/-- `END` (R98, R99, R104): the buffer ends, dirty lines are cleaned and the completion is decided. -/
def execEndC (u : Nat) (s : State) : Host.Outcome State Fault Refusal :=
  onDev s (fun d =>
    match d.item u, d.run u with
    | some x, some r =>
      if x.pay 0x28 4 < r.pos + 64 then d.lengthEnd u
      else
        let before := r.pos
        let d := d.packet u (· == 0x0D) (fun d r => r.pass.isSome || d.idleRun u) (fun _ r _ =>
          rasCheck r.pass.isNone .malformed)
        match d.run u with
        | some r => if r.pos = before + 64 then d.endItem u stDone 0 0 else d
        | none => d
    | _, _ => d)

/-- `PICK_FINISH` (R29): the work of the item in a pick has finished at the length of its buffer. -/
def execPickFinish (sq slot : Nat) (s : State) : Host.Outcome State Fault Refusal :=
  onDev s (fun d => match d.pickAt sq slot with | some p => d.lengthEnd p.item | none => d)

end Sys2Proof.Machine
end

