-- ==== Sys2Proof/Machine/Wave.lean ====
section
/-!
DEFINITION. Waves of the shader clusters (R128 to R132, R137 to R141): their start, their operands, and how a vector
instruction runs, ends or is ILLEGAL.
-/

namespace Sys2Proof.Machine

open Sys2Proof

/-! ### Registers and operands -/

/-- Lane `l` of vector register `r`. -/
def Wave.vr (x : Wave) (r l : Nat) : Word := tget (fun _ => 0#32) x.v (r * 32 + l)

/-- Lane `l` of vector register `r` set. -/
def Wave.setVr (x : Wave) (r l : Nat) (w : Word) : Wave := { x with v := tset (fun _ => 0#32) x.v (r * 32 + l) w }

/-- Scalar register `r`. -/
def Wave.sr (x : Wave) (r : Nat) : Word := tget (fun _ => 0#32) x.s r

/-- Scalar register `r` set. -/
def Wave.setSr (x : Wave) (r : Nat) (w : Word) : Wave := { x with s := tset (fun _ => 0#32) x.s r w }

/-- Predicate mask `k`. -/
def Wave.pr (x : Wave) (k : Nat) : Word := tget (fun _ => 0#32) x.p k

/-- The 64-bit address in a pair of scalar registers, low word first. -/
def Wave.pair (x : Wave) (r : Nat) : Nat := (x.sr r).toNat + (x.sr (r + 1)).toNat * 2 ^ 32

/-- The lanes of a mask, ascending. -/
def lanesOf (m : Word) : List Nat := onesBelow 32 m.toNat

/-- The binary32 constants 0.5, 1.0, 2.0, 4.0 and their negatives (R139). -/
def floatConst (k : Nat) : Word :=
  w32 (0x3F000000 + k % 4 * 0x00800000 + (if 4 ≤ k then 0x80000000 else 0))

/-- Whether a source operand names a value for a vector (`vec`) or a scalar instruction of a wave (R139, R140). -/
def Wave.srcOk (x : Wave) (vec : Bool) (o : Nat) : Bool :=
  if o < 0x100 then vec && decide (o < x.vregs)
  else if o < 0x180 then decide (o - 0x100 < x.sregs)
  else decide (o < 0x1D0) || (decide (0x1D0 ≤ o) && decide (o ≤ 0x1D7)) || (decide (0x1E0 ≤ o) && decide (o ≤ 0x1E5))
    || (o == 0x1E6 && vec) || o == 0x1E7

/-- The value of a source operand in a lane (R139). -/
def Wave.src (x : Wave) (o l : Nat) : Word :=
  if o < 0x100 then x.vr o l
  else if o < 0x180 then x.sr (o - 0x100)
  else if o < 0x1C0 then w32 (o - 0x180)
  else if o < 0x1D0 then w32 (2 ^ 32 - 1 - (o - 0x1C0))
  else if o < 0x1D8 then floatConst (o - 0x1D0)
  else if o = 0x1E0 then x.amask
  else if o < 0x1E5 then x.pr (o - 0x1E1)
  else if o = 0x1E5 then w32 (b2n x.q)
  else if o = 0x1E6 then w32 l
  else x.live

/-- Whether a scalar destination exists (R139, R140). -/
def Wave.sdstOk (x : Wave) (o : Nat) : Bool := decide (o < x.sregs) || (decide (0x80 ≤ o) && decide (o ≤ 0x84))

/-- A scalar destination written (R139). -/
def Wave.setSdst (x : Wave) (o : Nat) (w : Word) : Wave :=
  if o < 0x80 then x.setSr o w
  else if o = 0x84 then { x with amask := w }
  else { x with p := tset (fun _ => 0#32) x.p (o - 0x80) w }

/-- A vector register written in the active lanes (R131). -/
def Wave.setLanes (x : Wave) (r : Nat) (f : Nat → Word) : Wave :=
  (lanesOf x.amask).foldl (fun y l => y.setVr r l (f l)) x

/-- What a lane has exported, by the keys of `outs`. -/
def Wave.out (x : Wave) (k : Nat) : Option Word := (x.outs.find? (fun e => e.1 == k)).map (·.2)

/-- An export of a lane. -/
def Wave.setOut (x : Wave) (k : Nat) (w : Word) : Wave := { x with outs := tput x.outs k w }

/-! ### Running an instruction -/

/-- The wave with an identity. -/
def Device.wave (d : Device) (w : Nat) : Option Wave := d.ras.waves.find? (fun x => x.id == w)

/-- A wave replaced. -/
def Device.putWave (d : Device) (x : Wave) : Device :=
  { d with ras := { d.ras with waves := d.ras.waves.map (fun y => if y.id == x.id then x else y) } }

/-- An ILLEGAL instruction at a wave's pc (R141). -/
def Device.vecIllegal (d : Device) (x : Wave) : Device :=
  let i := (d.item x.uid).map (·.inst)
  (d.raise { fault 0x0A 5 (chanBase x.ch 1) x.ch with sub := x.cluster.getD 0, inst := i, addr := x.prog, infoA := x.pc }).stopItem
    x.uid stFault 0x0A

/-- What engine work left, applied to the item and the wave it ran for. -/
def Device.afterWork (d : Device) (x : Wave) (r : Except RasErr Unit) : Device :=
  match r with
  | .ok () => d
  | .error (.mem e det a) => d.memStop x.uid e det a
  | .error .malformed => d.malformed x.uid 0 0
  | .error .illegal => d.vecIllegal x

/-- Whether a wave can issue: it is on a cluster, does not wait at a barrier, and its item executes (R128, R155). -/
def Device.canIssue (d : Device) (x : Wave) : Bool := x.cluster.isSome && !x.barrier && d.executing x.uid

/-- A wave executes an instruction: `ok` tells whether it is legal (R140), `f` what becomes of the wave, whose pc is
already that of the next instruction. -/
def Device.runVec (d : Device) (w : Nat) (ok : Wave → Bool) (f : RasCtx → Wave → RasM Wave) : Device :=
  match d.wave w with
  | none => d
  | some x =>
    if !d.canIssue x then d
    else if x.text ≤ x.pc || !ok x then d.vecIllegal x
    else
      let i := match d.item x.uid with | some y => y.inst | none => 0
      let m : RasM Unit := do
        let y ← f { c := x.ch, i := i, u := x.uid } { x with pc := x.pc + 8 }
        modify (fun d => d.putWave y)
      match m.run d with
      | (r, d) => d.afterWork x r

/-- An instruction that changes only its wave. -/
def Device.runWave (d : Device) (w : Nat) (ok : Wave → Bool) (f : Wave → Wave) : Device :=
  d.runVec w ok (fun _ x => pure (f x))

/-! ### Starting waves -/

/-- Whether cluster `k` of channel `c` serves the item `u` now: the context holds it, or the first pick that names it is
the item's (R29, R112), and it does not reset (R32). -/
def Device.clusterFor (d : Device) (c k u : Nat) : Bool :=
  let inCtx := match d.ctx c with | some x => x.taken.testBit k | none => false
  if !d.clusterUp c k then false
  else if inCtx then d.ctxOf u == some c
  else
    d.q.picks.any (fun p => p.ch == c && !p.held && p.item == u && (d.pickHolds p).testBit k)

/-- The waves on a cluster. -/
def Device.wavesOn (d : Device) (c k : Nat) : List Wave := d.ras.waves.filter (fun x => x.ch == c && x.cluster == some k)

/-- The workgroup memory in use on a cluster. -/
def Device.wgOn (d : Device) (c k : Nat) : Nat :=
  ((d.ras.groups.filter (fun g => (d.wavesOn c k).any (fun x => x.kind == 2 && x.group == g.id))).map (·.size)).sum

/-- Whether waves fit on a cluster beside those it holds (R130). -/
def Device.fits (d : Device) (c k : Nat) (new : List Wave) (mem : Nat) : Bool :=
  let all := d.wavesOn c k ++ new
  decide ((all.map (·.vregs)).sum ≤ 1024) && decide ((all.map (·.sregs)).sum ≤ 2048) && decide (all.length ≤ 16)
    && decide (d.wgOn c k + mem ≤ 98304)

/-- A wave of the program at `prog`, with the header `h`, at its start (R132): `bd` is what was bound. -/
def newWave (r : Run) (bd : Bound) (id k kind prog : Nat) (h : ProgHead) (amask live : Word) : Wave :=
  let s : List (Nat × Word) :=
    [(bd.res, 0), (bd.vbuf, 2), (bd.consts, 4)].foldl
      (fun s p => tset (fun _ => 0#32) (tset (fun _ => 0#32) s p.2 (w32 p.1)) (p.2 + 1) (w32 (p.1 / 2 ^ 32))) []
  { id := id, uid := r.uid, ch := r.ch, cluster := some k, kind := kind, prog := prog, vregs := h.vregs, sregs := h.sregs,
    wgmem := h.wgmem, text := h.text, early := h.early, wdepth := h.wdepth, kills := h.kills, slots := h.slots, v := [],
    s := s, p := [], amask := amask, live := live, q := false, pc := h.entry, group := id, barrier := false, issue := 0,
    words := bd.words, base := 0, frags := [], outs := [] }

/-- The components of a vertex element (R137). -/
def vtxComps (f : Nat) (b : List Byte) : List Word :=
  let n := match vtxFormat f with | some (n, _) => n | none => 0
  let got := (List.range n).map (fun i =>
    if f = 5 then w32 (unormToF 8 (leAt b i 1))
    else if f = 6 || f = 7 then w32 (f16.conv f32 (leAt b (2 * i) 2))
    else w32 (leAt b (4 * i) 4))
  got ++ ([0#32, 0#32, 0#32, 0x3F800000#32].drop n)

/-- One vertex fetched into its lane (R137). -/
def fetchVertex (k : RasCtx) (table : List Byte) (l vi ii : Nat) (x : Wave) : RasM Wave :=
  (splitEntries table).foldlM
    (fun (x : Wave) e => do
      let f := leAt e 0x0C 1
      match vtxFormat f with
      | none => pure x
      | some (_, n) =>
        let idx := if leAt e 0x0E 1 = 0 then vi else ii
        let b ← rasRead k.c k.i (leAt e 0 8 + leAt e 0x0A 2 + idx * leAt e 8 2) n 1
        pure (((vtxComps f b).zipIdx).foldl (fun x p => x.setVr (leAt e 0x0D 1 + p.2) l p.1) x)) x

/-- The vertex index and the instance index of vertex number `n` of a draw (R98, R132). -/
def vertexIndex (k : RasCtx) (dr : DrawState) (n : Nat) : RasM (Nat × Nat) := do
  let o := n % dr.count
  let idx ←
    if dr.idxSize = 0 then pure (dr.first + o)
    else do
      let b ← rasRead k.c k.i (dr.idxAddr + (dr.first + o) * (2 * dr.idxSize)) (2 * dr.idxSize) 1
      pure (leNat b)
  pure (wrapInt 32 ((idx : Int) + dr.voff), (dr.firstInst + n / dr.count) % 2 ^ 32)

/-- The next vertex wave of draw `n` formed (R97, R132): one lane for each of its next 32 vertices. -/
def startVertex (k : RasCtx) (r : Run) (id cl n : Nat) : RasM (List Wave) := do
  match r.draws[n]? with
  | none => pure []
  | some dr =>
    let m := min 32 (dr.verts - dr.next)
    if m = 0 then pure []
    else
      let on := w32 (2 ^ m - 1)
      let x := newWave r dr.bound id cl 0 (leAt dr.bound.words 8 8) (progHead dr.vhead) on on
      let x ← (List.range m).foldlM
        (fun (x : Wave) l => do
          let (vi, ii) ← vertexIndex k dr (dr.next + l)
          fetchVertex k dr.table l vi ii ((x.setVr 0 l (w32 vi)).setVr 1 l (w32 ii))) x
      pure [{ x with base := vtxKey n dr.next }]

/-- Whether depth and stencil are tested before the fragment program (R134). -/
def ProgHead.testsEarly (h : ProgHead) : Bool := h.early && !h.wdepth && !h.kills

/-- Whether the depth and stencil of a wave's fragments were tested at its start (R134). -/
def Wave.tested (x : Wave) : Bool := x.early && !x.wdepth && !x.kills

/-- The quads of a fragment wave taken from the fragments `fs` that wait (R97): at each place the first that waits, all in tile `t` and of
draw `n`, none of them in a quad that a wave shades. The quads, and the fragments that still wait; none when one cannot be taken. -/
def takeQuads (p : PassState) (busy : Frag → Bool) (t n : Nat) :
    List (Nat × Nat) → List Covered → Option (List (List Covered) × List Covered)
  | [], fs => some ([], fs)
  | q :: qs, fs =>
    match fs.find? (fun f => f.frag.x / 2 == q.1 && f.frag.y / 2 == q.2) with
    | none => none
    | some f =>
      if f.draw != n || p.tileOf f.frag.x f.frag.y != t || busy f.frag then none
      else
        let mine := fun (g : Covered) => g.draw == f.draw && g.prim == f.prim && sameQuad g.frag f.frag
        (takeQuads p busy t n qs (fs.filter (fun g => !mine g))).map (fun x => (fs.filter mine :: x.1, x.2))

/-- The first tile, in row-major order, with a fragment that waits (R97). -/
def PassState.walkTile (p : PassState) (fs : List Covered) : Nat :=
  (fs.map (fun f => p.tileOf f.frag.x f.frag.y)).foldl min (p.tiles)

/-- The fragment lanes of quads: the number of the lane and its fragment (R132). -/
def laneFrags (quads : List (List Covered)) : List (Nat × Covered) :=
  quads.zipIdx.flatMap (fun q => q.1.map (fun f => (4 * q.2 + f.frag.x % 2 + 2 * (f.frag.y % 2), f)))

/-- Depth and stencil of the fragments of lanes tested in order (R134): the fragments with the samples that pass, and the pass. -/
def testLanes (k : RasCtx) (words : List Byte) (p : PassState) (fs : List (Nat × Covered)) : RasM (List (Nat × Covered) × PassState) :=
  fs.foldlM
    (fun (acc : List (Nat × Covered) × PassState) e => do
      let (m, p) ← testFrag k words acc.2 e.2.frag
      pure (if m = 0 then (acc.1, p) else (acc.1 ++ [(e.1, { e.2 with frag := { e.2.frag with mask := m } })], p))) ([], p)

/-- The registers of a fragment wave filled (R132): the lanes of every quad with coverage are active, the covered ones live. -/
def fillFragment (x : Wave) (quads : List (Nat × Nat)) (fs : List (Nat × Covered)) : Wave :=
  let live := maskOf (fs.map (·.1))
  let act := maskOf ((List.range 32).filter (fun l => bits live (l / 4 * 4 + 3) (l / 4 * 4) != 0))
  let x := { x with amask := w32 act, live := w32 live }
  let x := (onesBelow 32 act).foldl
    (fun (x : Wave) l =>
      let q := quads.getD (l / 4) (0, 0)
      (x.setVr 0 l (w32 (q.1 * 2 + l % 2))).setVr 1 l (w32 (q.2 * 2 + l % 4 / 2))) x
  fs.foldl
    (fun (x : Wave) e =>
      let f := e.2.frag
      { (((x.setVr 2 e.1 (w32 f.mask)).setVr 3 e.1 f.depth).setVr 4 e.1 f.i).setVr 5 e.1 f.j with
        frags := tput x.frags e.1 { x := f.x, y := f.y, mask := f.mask, depth := f.depth, va := e.2.va, vb := e.2.vb, vc := e.2.vc } }) x

/-- A fragment wave formed of up to eight quads (R97, R132, R134): the rasteriser stands at the first tile with waiting fragments and passes
on, at each place, the fragments of the earliest primitive; with them the run that is left. A wave whose early tests fail everywhere is none. -/
def startFragment (k : RasCtx) (r : Run) (id cl : Nat) (busy : Frag → Bool) (quads : List (Nat × Nat)) : RasM (List Wave × Run) := do
  match r.pass, r.frags with
  | some p, f :: fs =>
    let t := p.walkTile (f :: fs)
    match (f :: fs).find? (fun g => quads.head? == some (g.frag.x / 2, g.frag.y / 2)) with
    | none => pure ([], r)
    | some g =>
      match r.draws[g.draw]?, takeQuads p busy t g.draw quads (f :: fs) with
      | some dr, some (qs, left) =>
        if dr.fhead.isEmpty || 8 < quads.length then pure ([], r)
        else do
          let h := progHead dr.fhead
          let x := newWave r dr.bound id cl 1 (leAt dr.bound.words 0x10 8) h 0#32 0#32
          let lanes := laneFrags qs
          let (lanes, p) ← if h.testsEarly then testLanes k dr.bound.words p lanes else pure (lanes, p)
          pure (if lanes.isEmpty then [] else [fillFragment x quads lanes], { r with pass := some p, frags := left })
      | _, _ => pure ([], r)
  | _, _ => pure ([], r)

/-- The waves of a workgroup formed (R130, R132). -/
def startGroup (r : Run) (id cl disp gx gy gz : Nat) : List Wave × Nat :=
  match r.disps[disp]? with
  | none => ([], 0)
  | some dp =>
    if dp.nx ≤ gx || dp.ny ≤ gy || dp.nz ≤ gz || dp.started.contains ((gz * dp.ny + gy) * dp.nx + gx) then ([], 0)
    else
      let h := progHead dp.head
      let total := h.wx * h.wy * h.wz
      let waves := (List.range (ceilDiv total 32)).map (fun w =>
        let n := min 32 (total - 32 * w)
        let m := w32 (2 ^ n - 1)
        let x := newWave r dp.bound (id + w) cl 2 (leAt dp.bound.words 0x18 8) h m m
        let x := (List.range n).foldl
          (fun (x : Wave) l =>
            let t := 32 * w + l
            ((x.setVr 0 l (w32 (t % h.wx))).setVr 1 l (w32 (t / h.wx % h.wy))).setVr 2 l (w32 (t / (h.wx * h.wy)))) x
        { (((x.setSr 6 (w32 gx)).setSr 7 (w32 gy)).setSr 8 (w32 gz)).setSr 9 (w32 w) with group := id })
      (waves, h.wgmem)

/-- Waves bound, one after the other, to the issue slot of their cluster that holds the fewest of `on` and of them, the lowest-numbered of
several (R128): none of the four slots then holds more than four of at most 16 waves. -/
def bindIssue (on : List Wave) : List Wave → List Wave
  | [] => []
  | w :: ws =>
    let n := fun s => (on.filter (fun x => x.issue == s)).length
    let w := { w with issue := [1, 2, 3].foldl (fun b s => if n s < n b then s else b) 0 }
    w :: bindIssue (w :: on) ws

/-- Waves placed on their cluster when they fit there; `grp` is the workgroup memory of a new workgroup. -/
def Device.placeWaves (d : Device) (r : Run) (k : Nat) (ws : List Wave) (grp : Option Nat) : Device × Bool :=
  if ws.isEmpty || !d.fits r.ch k ws (grp.getD 0) then (d, false)
  else
    let gs : List Group := match grp with
      | some n => [{ id := d.ras.nextWave, uid := r.uid, size := n, mem := [] }]
      | none => []
    ({ d with ras := { d.ras with
        waves := d.ras.waves ++ bindIssue (d.wavesOn r.ch k) ws, groups := d.ras.groups ++ gs, nextWave := d.ras.nextWave + ws.length } }, true)

/-- A preempted wave continues on a cluster (R111); the waves of a workgroup stay together (R155). -/
def Device.resumeWave (d : Device) (r : Run) (k w : Nat) : Device :=
  match d.wave w with
  | none => d
  | some x =>
    let together := d.ras.waves.filter (fun y => y.uid == x.uid && y.group == x.group)
    let mem := match d.ras.groups.find? (fun g => g.id == x.group) with | some g => g.size | none => 0
    if x.uid != r.uid || x.cluster.isSome || !d.fits r.ch k together mem then d
    else (bindIssue (d.wavesOn r.ch k) together).foldl (fun d y => d.putWave { y with ch := r.ch, cluster := some k }) d

/-- `WAVE_START` (R130, R132): cluster `k` starts what `what` names for the item `u`, when it serves the item and
registers, waves and memory fit. -/
def execWaveStart (u k : Nat) (what : WaveKind) (s : State) : Host.Outcome State Fault Refusal :=
  onDev s (fun d =>
    match d.item u, d.run u with
    | some x, some r =>
      if !d.executing u || !d.clusterFor r.ch k u then d
      else
        let c : RasCtx := { c := r.ch, i := x.inst, u := u }
        let id := d.ras.nextWave
        let m : RasM Unit :=
          match what with
          | .vertex n => do
            let ws ← startVertex c r id k n
            modify (fun (d : Device) =>
              match d.placeWaves r k ws none with
              | (d, true) => d.modRun u (fun r => { r with draws := modAt r.draws n (fun x => { x with next := min x.verts (x.next + 32) }) })
              | (d, false) => d)
          | .fragment quads => do
            let (ws, r') ← startFragment c r id k (d.shading u) quads
            modify (fun (d : Device) =>
              if ws.isEmpty || d.fits r.ch k ws 0 then (d.placeWaves r k ws none).1.modRun u (fun _ => r') else d)
            goOn c
          | .workgroup n gx gy gz =>
            let (ws, mem) := startGroup r id k n gx gy gz
            modify (fun (d : Device) =>
              match d.placeWaves r k ws (some mem) with
              | (d, true) => d.modRun u (fun r => { r with disps := modAt r.disps n (fun dp =>
                  { dp with started := ((gz * dp.ny + gy) * dp.nx + gx) :: dp.started }) })
              | (d, false) => d)
          | .resume w => modify (fun d => d.resumeWave r k w)
        match m.run d with
        | (.ok (), d) => d
        | (.error (.mem e det a), d) => d.memStop u e det a
        | (.error _, d) => d.malformed u (r.pos - 64) 0
    | _, _ => d)

/-- `VEC_ILLEGAL` (R138, R140, R141): the word that a wave fetches spells no instruction, or lies beyond the text. A word that spells one is
executed by that instruction's command, whose operands R140 checks there. -/
def execVecIllegal (w : WaveWord) (s : State) : Host.Outcome State Fault Refusal :=
  onDev s (fun d =>
    match d.wave w.wave with
    | some x => d.when (d.canIssue x && (decide (x.text ≤ x.pc) || (decodeVec w.wave w.word).isNone)) (fun d => d.vecIllegal x)
    | none => d)

end Sys2Proof.Machine
end

