-- ==== Sys2Proof/Machine/VecArith.lean ====
section
/-!
DEFINITION. Kryent vector arithmetic, scalar arithmetic of waves, and control (R138 to R146, R150, R154): classes 0x0 to 0x3
and 0x8.
-/

namespace Sys2Proof.Machine

open Sys2Proof

/-! ### Operands -/

/-- How neg, abs and sat act on an operand or a result (R138, R143). -/
inductive Kind where
  | int
  | single
  | halves
  deriving DecidableEq, Repr

/-- A packed binary16 operation on both halves (R143). -/
def onHalves (f : Nat → Nat) (a : Word) : Word := w32 (f (wbits a 15 0) + f (wbits a 31 16) * 65536)

/-- abs, then neg, on an operand (R138). -/
def modify1 (k : Kind) (ng ab : Bool) (a : Word) : Word :=
  let m := match k with
    | .int => 0#32
    | .single => 0x80000000#32
    | .halves => 0x80008000#32
  let a := if ab then a &&& ~~~m else a
  if ng then a ^^^ m else a

/-- sat on a result (R138). -/
def satWord (k : Kind) (a : Word) : Word :=
  match k with
  | .int => a
  | .single => w32 (f32.sat a.toNat)
  | .halves => onHalves f16.sat a

/-- An operation of VA or VI: how many sources it has, whether it is a floating-point instruction, and the kind of its
operands and of its result. -/
structure VOp where
  n : Nat
  float : Bool
  ins : Kind
  out : Kind

/-- Whether source `k` of an instruction is legal (R139, R140): an immediate stands as source 1. -/
def vaSrcOk (a : VArith) (x : Wave) (vec : Bool) (k : Nat) : Bool :=
  match k with
  | 0 => x.srcOk vec a.src0.toNat
  | 1 => a.imm.isSome || x.srcOk vec a.src1.toNat
  | _ => x.srcOk vec a.src2.toNat

/-- Whether the sources and modifiers of an instruction are legal (R140, R146): three sources do not go with an
immediate, and an integer instruction takes no modifier. -/
def vaOk (a : VArith) (x : Wave) (vec : Bool) (o : VOp) : Bool :=
  (List.range o.n).all (fun k => vaSrcOk a x vec k) && !(a.imm.isSome && o.n == 3)
    && (o.float || (a.neg == 0#3 && a.abs == 0#3 && !a.sat))

/-- Source `k` of an instruction in a lane, with its modifiers. -/
def vaArg (a : VArith) (x : Wave) (o : VOp) (l k : Nat) : Word :=
  let raw := match k with
    | 0 => x.src a.src0.toNat l
    | 1 => match a.imm with | some w => w | none => x.src a.src1.toNat l
    | _ => x.src a.src2.toNat l
  modify1 o.ins (a.neg.toNat.testBit k) (a.abs.toNat.testBit k) raw

/-- A vector instruction that writes a vector register lane by lane. -/
def Device.vecLanes (d : Device) (w : Nat) (a : VArith) (o : VOp) (extra : Wave → Bool)
    (f : Wave → Nat → Word → Word → Word → Word) : Device :=
  d.runWave w (fun x => vaOk a x true o && decide (a.dst.toNat < x.vregs) && extra x)
    (fun x => x.setLanes a.dst.toNat (fun l =>
      let r := f x l (vaArg a x o l 0) (vaArg a x o l 1) (vaArg a x o l 2)
      if a.sat then satWord o.out r else r))

/-- A vector instruction of the first table of R146 whose lanes do not look at each other. -/
def Device.vecOp (d : Device) (w : Nat) (a : VArith) (o : VOp) (f : Word → Word → Word → Word) : Device :=
  d.vecLanes w a o (fun _ => true) (fun _ _ p q r => f p q r)

/-- A compare: the mask of the active lanes whose condition holds goes to a scalar destination (R146). -/
def Device.vecCmp (d : Device) (w : Nat) (a : VArith) (o : VOp) (f : Word → Word → Bool) : Device :=
  d.runWave w (fun x => vaOk a x true o && x.sdstOk a.dst.toNat)
    (fun x => x.setSdst a.dst.toNat (w32 (maskOf ((lanesOf x.amask).filter (fun l => f (vaArg a x o l 0) (vaArg a x o l 1))))))

/-- A scalar instruction (R146): its result, and q where the table gives it a value. -/
def Device.scaOp (d : Device) (w : Nat) (a : VArith) (n : Nat) (f : Bool → Word → Word → Word)
    (q : Bool → Word → Word → Bool) : Device :=
  let o : VOp := { n := n, float := false, ins := .int, out := .int }
  d.runWave w (fun x => vaOk a x false o && x.sdstOk a.dst.toNat)
    (fun x =>
      let p := vaArg a x o 0 0
      let r := vaArg a x o 0 1
      { x.setSdst a.dst.toNat (f x.q p r) with q := q x.q p r })

/-- A scalar compare: only q is written (R146). -/
def Device.scaCmp (d : Device) (w : Nat) (a : VArith) (f : Word → Word → Bool) : Device :=
  let o : VOp := { n := 2, float := false, ins := .int, out := .int }
  d.runWave w (fun x => vaOk a x false o) (fun x => { x with q := f (vaArg a x o 0 0) (vaArg a x o 0 1) })

/-- q as it was. -/
def keepQ (q : Bool) (_ _ : Word) : Bool := q

/-! ### Functions -/

/-- A binary32 function of patterns, as a function of words. -/
def on32 (f : Nat → Nat → Nat) (a b : Word) : Word := w32 (f a.toNat b.toNat)

/-- A packed binary16 function of two operands (R143). -/
def onHalves2 (f : Nat → Nat → Nat) (a b : Word) : Word :=
  w32 (f (wbits a 15 0) (wbits b 15 0) + f (wbits a 31 16) (wbits b 31 16) * 65536)

/-- A packed binary16 fused multiply and add. -/
def hFma (a b c : Word) : Word :=
  w32 (f16.fmaR .near (wbits a 15 0) (wbits b 15 0) (wbits c 15 0)
    + f16.fmaR .near (wbits a 31 16) (wbits b 31 16) (wbits c 31 16) * 65536)

/-- a − floor(a) (R146). -/
def fFract (a : Word) : Word := w32 (f32.addR .near a.toNat (f32.negate (f32.integral .down a.toNat)))

/-- The number of ones. -/
def popCount (a : Word) : Nat := (lanesOf a).length

/-- The index of the highest one, all ones for 0. -/
def highOne (a : Word) : Word := if a = 0#32 then 0xFFFFFFFF#32 else w32 a.toNat.log2

/-- The index of the lowest one, all ones for 0. -/
def lowOne (a : Word) : Word := match lanesOf a with | [] => 0xFFFFFFFF#32 | l :: _ => w32 l

/-- The low five bits. -/
def low5 (a : Word) : Nat := a.toNat % 32

/-- The unsigned field of c[4:0] bits at a from bit b[4:0] (R146). -/
def bitField (a b c : Word) : Word := w32 (a.toNat / 2 ^ low5 b % 2 ^ low5 c)

/-- b's low c[4:0] bits inserted into a at bit 0 (R146). -/
def bitInsert (a b c : Word) : Word := w32 (a.toNat / 2 ^ low5 c * 2 ^ low5 c + b.toNat % 2 ^ low5 c)

/-- `LGET` (R146): a scalar destination takes a of lane b[4:0]. -/
def Device.laneGet (d : Device) (w : Nat) (a : VArith) (o : VOp) : Device :=
  d.runWave w (fun x => vaOk a x true o && x.sdstOk a.dst.toNat)
    (fun x => x.setSdst a.dst.toNat (vaArg a x o (low5 (vaArg a x o 0 1)) 0))

/-- What a vertex of the item's draw exported to a component of an attribute slot, 0.0 where it exported nothing (R154). -/
def Device.attrOf (d : Device) (u v k : Nat) : Nat :=
  match d.run u with
  | some r =>
    match r.vtx.find? (fun e => e.1 == v) with
    | some e => (tget (fun _ => 0#32) e.2.attrs k).toNat
    | none => 0
  | none => 0

/-- The interpolation of `VINTERP` for one lane (R146): each step rounded, left to right. -/
def interp (a0 a1 a2 i j : Nat) : Word :=
  let x := f32.addR .near a0 (f32.mulR .near i (f32.addR .near a1 (f32.negate a0)))
  w32 (f32.addR .near x (f32.mulR .near j (f32.addR .near a2 (f32.negate a0))))

/-- `VINTERP` (R146): src0 is an integer constant 0 to 63, 4 × slot + component. -/
def Device.vecInterp (d : Device) (w : Nat) (a : VArith) (o : VOp) : Device :=
  let k := a.src0.toNat - 0x180
  d.vecLanes w a o (fun _ => decide (0x180 ≤ a.src0.toNat) && decide (a.src0.toNat < 0x1C0))
    (fun x l _ i j =>
      match x.frags.find? (fun e => e.1 == l) with
      | some (_, f) => interp (d.attrOf x.uid f.va k) (d.attrOf x.uid f.vb k) (d.attrOf x.uid f.vc k) i.toNat j.toNat
      | none => interp 0 0 0 i.toNat j.toNat)

/-- `DDX` and `DDY` (R146): the difference across a quad on the bit `m` of the lane number; fragment waves only. -/
def Device.vecDeriv (d : Device) (w : Nat) (a : VArith) (o : VOp) (m : Nat) : Device :=
  d.vecLanes w a o (fun x => x.kind == 1)
    (fun x l _ _ _ =>
      let lo := l - l / m % 2 * m
      w32 (f32.addR .near (vaArg a x o (lo + m) 0).toNat (f32.negate (vaArg a x o lo 0).toNat)))

/-! ### Control -/

/-- A branch (R146): to the next instruction's address + 8 × imm32, when its condition holds. -/
def Device.vecBranch (d : Device) (w : Nat) (imm : Word) (c : Wave → Bool) : Device :=
  d.runWave w (fun _ => true)
    (fun x => if c x then { x with pc := wrapInt 48 ((x.pc : Int) + 8 * imm.toInt) } else x)

/-- The waves of a workgroup pass their barrier once every wave of it that has not ended has arrived (R154). -/
def Device.passBarrier (d : Device) (g : Nat) : Device :=
  let ws := d.ras.waves.filter (fun y => y.kind == 2 && y.group == g)
  if ws.all (·.barrier) then ws.foldl (fun d y => d.putWave { y with barrier := false }) d else d

/-- Components r, g, b, a that a lane exported to a colour attachment (R154). -/
def Wave.colours (x : Wave) (l : Nat) : List (Nat × List Nat) :=
  (List.range 4).filterMap (fun t =>
    if (List.range 4).any (fun k => (x.out (l * 256 + t * 4 + k)).isSome) then
      some (t, (List.range 4).map (fun k => ((x.out (l * 256 + t * 4 + k)).getD 0#32).toNat))
    else none)

/-- A live fragment lane after its program (R134, R154): depth and stencil, unless they were tested before it, then blending, sample by
sample. -/
def endFragLane (k : RasCtx) (x : Wave) (p : PassState) (l : Nat) (f : FragLane) : RasM PassState :=
  if p.width ≤ f.x || p.height ≤ f.y then pure p
  else
    (p.covered f.mask).foldlM
      (fun p smp => do
        let (ok, p) ← if x.tested then pure (true, p) else testSample k p x.words smp f.x f.y ((x.out (l * 256 + 16)).getD f.depth)
        if ok then blendSample k p x.words smp f.x f.y (x.colours l) else pure p) p

/-- A fragment wave ends: its live lanes in order reach late depth, blending and tile memory. -/
def endFragWave (k : RasCtx) (x : Wave) : RasM Unit := do
  let d ← get
  match (d.run k.u).bind (·.pass) with
  | none => pure ()
  | some p =>
    let p ← (x.frags.filter (fun e => x.live.toNat.testBit e.1)).foldlM (fun p e => endFragLane k x p e.1 e.2) p
    setRun k (fun r => { r with pass := some p })

/-- What a vertex wave exported, kept for assembly and `VINTERP` (R154). -/
def vtxOf (x : Wave) (l : Nat) : Vtx :=
  { pos := (List.range 4).map (fun c => (x.out (l * 256 + 32 + c)).getD 0#32)
    attrs := (List.range 64).filterMap (fun c => (x.out (l * 256 + 64 + c)).map (fun v => (c, v))) }

/-- A wave leaves its cluster for good; its registers are free, and a workgroup with no wave left is gone. -/
def Device.removeWave (d : Device) (x : Wave) : Device :=
  let ws := d.ras.waves.filter (fun y => y.id != x.id)
  { d with ras := { d.ras with
      waves := ws
      groups := d.ras.groups.filter (fun g => g.id != x.group || ws.any (fun y => y.kind == 2 && y.group == g.id)) } }

/-- `END` of a wave (R97, R146, R154): what it exported goes on to the stage after it. -/
def Device.waveEnd (d : Device) (w : Nat) : Device :=
  match d.wave w with
  | none => d
  | some x =>
    if !d.canIssue x then d
    else if x.text ≤ x.pc then d.vecIllegal x
    else
      let i := match d.item x.uid with | some y => y.inst | none => 0
      let k : RasCtx := { c := x.ch, i := i, u := x.uid }
      let m : RasM Unit := do
        if x.kind = 1 then endFragWave k x
        else if x.kind = 0 then
          setRun k (fun r => { r with vtx := (lanesOf x.live).foldl (fun t l => tput t (x.base + l) (vtxOf x l)) r.vtx })
        else pure ()
        modify (fun d => (d.removeWave x).passBarrier x.group)
        if x.kind = 2 then pure () else goOn k
      match m.run d with
      | (r, d) => d.afterWork x r

/-! ### Vector arithmetic, classes 0x0 and 0x1 -/

/-- `FADD` (R146). -/
def execFadd (w : Nat) (a : VArith) (s : State) : Host.Outcome State Fault Refusal :=
  onDev s (fun d => d.vecOp w a ⟨2, true, .single, .single⟩ (fun p q _ => on32 (f32.addR .near) p q))

/-- `FSUB` (R146). -/
def execFsub (w : Nat) (a : VArith) (s : State) : Host.Outcome State Fault Refusal :=
  onDev s (fun d => d.vecOp w a ⟨2, true, .single, .single⟩ (fun p q _ => on32 (fun a b => f32.addR .near a (f32.negate b)) p q))

/-- `FMUL` (R146). -/
def execFmul (w : Nat) (a : VArith) (s : State) : Host.Outcome State Fault Refusal :=
  onDev s (fun d => d.vecOp w a ⟨2, true, .single, .single⟩ (fun p q _ => on32 (f32.mulR .near) p q))

/-- `FFMA` (R146). -/
def execFfma (w : Nat) (a : VArith) (s : State) : Host.Outcome State Fault Refusal :=
  onDev s (fun d => d.vecOp w a ⟨3, true, .single, .single⟩ (fun p q r => w32 (f32.fmaR .near p.toNat q.toNat r.toNat)))

/-- `FMIN` (R146). -/
def execFmin (w : Nat) (a : VArith) (s : State) : Host.Outcome State Fault Refusal :=
  onDev s (fun d => d.vecOp w a ⟨2, true, .single, .single⟩ (fun p q _ => on32 f32.minR p q))

/-- `FMAX` (R146). -/
def execFmax (w : Nat) (a : VArith) (s : State) : Host.Outcome State Fault Refusal :=
  onDev s (fun d => d.vecOp w a ⟨2, true, .single, .single⟩ (fun p q _ => on32 f32.maxR p q))

/-- `FRND` (R146). -/
def execFrnd (w : Nat) (a : VArith) (s : State) : Host.Outcome State Fault Refusal :=
  onDev s (fun d => d.vecOp w a ⟨1, true, .single, .single⟩ (fun p _ _ => w32 (f32.integral .near p.toNat)))

/-- `FFLR` (R146). -/
def execFflr (w : Nat) (a : VArith) (s : State) : Host.Outcome State Fault Refusal :=
  onDev s (fun d => d.vecOp w a ⟨1, true, .single, .single⟩ (fun p _ _ => w32 (f32.integral .down p.toNat)))

/-- `FCEIL` (R146). -/
def execFceil (w : Nat) (a : VArith) (s : State) : Host.Outcome State Fault Refusal :=
  onDev s (fun d => d.vecOp w a ⟨1, true, .single, .single⟩ (fun p _ _ => w32 (f32.integral .up p.toNat)))

/-- `FTRUNC` (R146). -/
def execFtrunc (w : Nat) (a : VArith) (s : State) : Host.Outcome State Fault Refusal :=
  onDev s (fun d => d.vecOp w a ⟨1, true, .single, .single⟩ (fun p _ _ => w32 (f32.integral .zero p.toNat)))

/-- `FFRACT` (R146). -/
def execFfract (w : Nat) (a : VArith) (s : State) : Host.Outcome State Fault Refusal :=
  onDev s (fun d => d.vecOp w a ⟨1, true, .single, .single⟩ (fun p _ _ => fFract p))

/-- `FCMP.EQ` (R146). -/
def execFcmpEq (w : Nat) (a : VArith) (s : State) : Host.Outcome State Fault Refusal :=
  onDev s (fun d => d.vecCmp w a ⟨2, true, .single, .int⟩ (fun p q => f32.eq p.toNat q.toNat))

/-- `FCMP.NE` (R146). -/
def execFcmpNe (w : Nat) (a : VArith) (s : State) : Host.Outcome State Fault Refusal :=
  onDev s (fun d => d.vecCmp w a ⟨2, true, .single, .int⟩ (fun p q => !f32.eq p.toNat q.toNat))

/-- `FCMP.LT` (R146). -/
def execFcmpLt (w : Nat) (a : VArith) (s : State) : Host.Outcome State Fault Refusal :=
  onDev s (fun d => d.vecCmp w a ⟨2, true, .single, .int⟩ (fun p q => f32.lt p.toNat q.toNat))

/-- `FCMP.LE` (R146). -/
def execFcmpLe (w : Nat) (a : VArith) (s : State) : Host.Outcome State Fault Refusal :=
  onDev s (fun d => d.vecCmp w a ⟨2, true, .single, .int⟩ (fun p q => f32.le p.toNat q.toNat))

/-- `FCMP.GT` (R146). -/
def execFcmpGt (w : Nat) (a : VArith) (s : State) : Host.Outcome State Fault Refusal :=
  onDev s (fun d => d.vecCmp w a ⟨2, true, .single, .int⟩ (fun p q => f32.lt q.toNat p.toNat))

/-- `FCMP.GE` (R146). -/
def execFcmpGe (w : Nat) (a : VArith) (s : State) : Host.Outcome State Fault Refusal :=
  onDev s (fun d => d.vecCmp w a ⟨2, true, .single, .int⟩ (fun p q => f32.le q.toNat p.toNat))

/-- `FCMP.ORD` (R146). -/
def execFcmpOrd (w : Nat) (a : VArith) (s : State) : Host.Outcome State Fault Refusal :=
  onDev s (fun d => d.vecCmp w a ⟨2, true, .single, .int⟩ (fun p q => !f32.isNan p.toNat && !f32.isNan q.toNat))

/-- `FCMP.UNORD` (R146). -/
def execFcmpUnord (w : Nat) (a : VArith) (s : State) : Host.Outcome State Fault Refusal :=
  onDev s (fun d => d.vecCmp w a ⟨2, true, .single, .int⟩ (fun p q => f32.isNan p.toNat || f32.isNan q.toNat))

/-- `FRCP` (R146). -/
def execFrcp (w : Nat) (a : VArith) (s : State) : Host.Outcome State Fault Refusal :=
  onDev s (fun d => d.vecOp w a ⟨1, true, .single, .single⟩ (fun p _ _ => fRcp p))

/-- `FRSQ` (R146). -/
def execFrsq (w : Nat) (a : VArith) (s : State) : Host.Outcome State Fault Refusal :=
  onDev s (fun d => d.vecOp w a ⟨1, true, .single, .single⟩ (fun p _ _ => fRsq p))

/-- `FSQRT` (R146). -/
def execFsqrt (w : Nat) (a : VArith) (s : State) : Host.Outcome State Fault Refusal :=
  onDev s (fun d => d.vecOp w a ⟨1, true, .single, .single⟩ (fun p _ _ => w32 (f32.sqrtR p.toNat)))

/-- `FEXP2` (R146). -/
def execFexp2 (w : Nat) (a : VArith) (s : State) : Host.Outcome State Fault Refusal :=
  onDev s (fun d => d.vecOp w a ⟨1, true, .single, .single⟩ (fun p _ _ => fExp2 p))

/-- `FLOG2` (R146). -/
def execFlog2 (w : Nat) (a : VArith) (s : State) : Host.Outcome State Fault Refusal :=
  onDev s (fun d => d.vecOp w a ⟨1, true, .single, .single⟩ (fun p _ _ => fLog2 p))

/-- `FSINR` (R146). -/
def execFsinr (w : Nat) (a : VArith) (s : State) : Host.Outcome State Fault Refusal :=
  onDev s (fun d => d.vecOp w a ⟨1, true, .single, .single⟩ (fun p _ _ => fTrig false p))

/-- `FCOSR` (R146). -/
def execFcosr (w : Nat) (a : VArith) (s : State) : Host.Outcome State Fault Refusal :=
  onDev s (fun d => d.vecOp w a ⟨1, true, .single, .single⟩ (fun p _ _ => fTrig true p))

/-- `F2I` (R146). -/
def execF2i (w : Nat) (a : VArith) (s : State) : Host.Outcome State Fault Refusal :=
  onDev s (fun d => d.vecOp w a ⟨1, true, .single, .int⟩ (fun p _ _ => w32 (wrapInt 32 (f32.toInt (-2 ^ 31) (2 ^ 31 - 1) p.toNat))))

/-- `F2U` (R146). -/
def execF2u (w : Nat) (a : VArith) (s : State) : Host.Outcome State Fault Refusal :=
  onDev s (fun d => d.vecOp w a ⟨1, true, .single, .int⟩ (fun p _ _ => w32 (f32.toInt 0 (2 ^ 32 - 1) p.toNat).toNat))

/-- `I2F` (R146). -/
def execI2f (w : Nat) (a : VArith) (s : State) : Host.Outcome State Fault Refusal :=
  onDev s (fun d => d.vecOp w a ⟨1, true, .int, .single⟩ (fun p _ _ => w32 (f32.roundInt .near p.toInt 0 false)))

/-- `U2F` (R146). -/
def execU2f (w : Nat) (a : VArith) (s : State) : Host.Outcome State Fault Refusal :=
  onDev s (fun d => d.vecOp w a ⟨1, true, .int, .single⟩ (fun p _ _ => w32 (f32.roundInt .near p.toNat 0 false)))

/-- `F2H` (R146). -/
def execF2h (w : Nat) (a : VArith) (s : State) : Host.Outcome State Fault Refusal :=
  onDev s (fun d => d.vecOp w a ⟨1, true, .single, .halves⟩ (fun p _ _ => w32 (f32.conv f16 p.toNat)))

/-- `H2F` (R146). -/
def execH2f (w : Nat) (a : VArith) (s : State) : Host.Outcome State Fault Refusal :=
  onDev s (fun d => d.vecOp w a ⟨1, true, .halves, .single⟩ (fun p _ _ => w32 (f16.conv f32 (wbits p 15 0))))

/-- `F2H2` (R146). -/
def execF2h2 (w : Nat) (a : VArith) (s : State) : Host.Outcome State Fault Refusal :=
  onDev s (fun d => d.vecOp w a ⟨2, true, .single, .halves⟩ (fun p q _ => w32 (f32.conv f16 p.toNat + f32.conv f16 q.toNat * 65536)))

/-- `HADD2` (R146). -/
def execHadd2 (w : Nat) (a : VArith) (s : State) : Host.Outcome State Fault Refusal :=
  onDev s (fun d => d.vecOp w a ⟨2, true, .halves, .halves⟩ (fun p q _ => onHalves2 (f16.addR .near) p q))

/-- `HMUL2` (R146). -/
def execHmul2 (w : Nat) (a : VArith) (s : State) : Host.Outcome State Fault Refusal :=
  onDev s (fun d => d.vecOp w a ⟨2, true, .halves, .halves⟩ (fun p q _ => onHalves2 (f16.mulR .near) p q))

/-- `HFMA2` (R146). -/
def execHfma2 (w : Nat) (a : VArith) (s : State) : Host.Outcome State Fault Refusal :=
  onDev s (fun d => d.vecOp w a ⟨3, true, .halves, .halves⟩ (fun p q r => hFma p q r))

/-- `HMIN2` (R146). -/
def execHmin2 (w : Nat) (a : VArith) (s : State) : Host.Outcome State Fault Refusal :=
  onDev s (fun d => d.vecOp w a ⟨2, true, .halves, .halves⟩ (fun p q _ => onHalves2 f16.minR p q))

/-- `HMAX2` (R146). -/
def execHmax2 (w : Nat) (a : VArith) (s : State) : Host.Outcome State Fault Refusal :=
  onDev s (fun d => d.vecOp w a ⟨2, true, .halves, .halves⟩ (fun p q _ => onHalves2 f16.maxR p q))

/-- `IADD` (R146). -/
def execIadd (w : Nat) (a : VArith) (s : State) : Host.Outcome State Fault Refusal :=
  onDev s (fun d => d.vecOp w a ⟨2, false, .int, .int⟩ (fun p q _ => p + q))

/-- `ISUB` (R146). -/
def execIsub (w : Nat) (a : VArith) (s : State) : Host.Outcome State Fault Refusal :=
  onDev s (fun d => d.vecOp w a ⟨2, false, .int, .int⟩ (fun p q _ => p - q))

/-- `IMUL` (R146). -/
def execImul (w : Nat) (a : VArith) (s : State) : Host.Outcome State Fault Refusal :=
  onDev s (fun d => d.vecOp w a ⟨2, false, .int, .int⟩ (fun p q _ => p * q))

/-- `IMULHU` (R146). -/
def execImulhu (w : Nat) (a : VArith) (s : State) : Host.Outcome State Fault Refusal :=
  onDev s (fun d => d.vecOp w a ⟨2, false, .int, .int⟩ (fun p q _ => mulHU p q))

/-- `IMULH` (R146). -/
def execImulh (w : Nat) (a : VArith) (s : State) : Host.Outcome State Fault Refusal :=
  onDev s (fun d => d.vecOp w a ⟨2, false, .int, .int⟩ (fun p q _ => mulHS p q))

/-- `IMAD` (R146). -/
def execImad (w : Nat) (a : VArith) (s : State) : Host.Outcome State Fault Refusal :=
  onDev s (fun d => d.vecOp w a ⟨3, false, .int, .int⟩ (fun p q r => p * q + r))

/-- `AND` (R146). -/
def execVecAnd (w : Nat) (a : VArith) (s : State) : Host.Outcome State Fault Refusal :=
  onDev s (fun d => d.vecOp w a ⟨2, false, .int, .int⟩ (fun p q _ => p &&& q))

/-- `OR` (R146). -/
def execVecOr (w : Nat) (a : VArith) (s : State) : Host.Outcome State Fault Refusal :=
  onDev s (fun d => d.vecOp w a ⟨2, false, .int, .int⟩ (fun p q _ => p ||| q))

/-- `XOR` (R146). -/
def execVecXor (w : Nat) (a : VArith) (s : State) : Host.Outcome State Fault Refusal :=
  onDev s (fun d => d.vecOp w a ⟨2, false, .int, .int⟩ (fun p q _ => p ^^^ q))

/-- `SHL` (R146). -/
def execVecShl (w : Nat) (a : VArith) (s : State) : Host.Outcome State Fault Refusal :=
  onDev s (fun d => d.vecOp w a ⟨2, false, .int, .int⟩ (fun p q _ => p <<< low5 q))

/-- `SHR` (R146). -/
def execVecShr (w : Nat) (a : VArith) (s : State) : Host.Outcome State Fault Refusal :=
  onDev s (fun d => d.vecOp w a ⟨2, false, .int, .int⟩ (fun p q _ => p >>> low5 q))

/-- `SRA` (R146). -/
def execVecSra (w : Nat) (a : VArith) (s : State) : Host.Outcome State Fault Refusal :=
  onDev s (fun d => d.vecOp w a ⟨2, false, .int, .int⟩ (fun p q _ => p.sshiftRight (low5 q)))

/-- `IMIN` (R146). -/
def execImin (w : Nat) (a : VArith) (s : State) : Host.Outcome State Fault Refusal :=
  onDev s (fun d => d.vecOp w a ⟨2, false, .int, .int⟩ (fun p q _ => sMin p q))

/-- `IMAX` (R146). -/
def execImax (w : Nat) (a : VArith) (s : State) : Host.Outcome State Fault Refusal :=
  onDev s (fun d => d.vecOp w a ⟨2, false, .int, .int⟩ (fun p q _ => sMax p q))

/-- `UMIN` (R146). -/
def execUmin (w : Nat) (a : VArith) (s : State) : Host.Outcome State Fault Refusal :=
  onDev s (fun d => d.vecOp w a ⟨2, false, .int, .int⟩ (fun p q _ => uMin p q))

/-- `UMAX` (R146). -/
def execUmax (w : Nat) (a : VArith) (s : State) : Host.Outcome State Fault Refusal :=
  onDev s (fun d => d.vecOp w a ⟨2, false, .int, .int⟩ (fun p q _ => uMax p q))

/-- `BFE` (R146). -/
def execBfe (w : Nat) (a : VArith) (s : State) : Host.Outcome State Fault Refusal :=
  onDev s (fun d => d.vecOp w a ⟨3, false, .int, .int⟩ (fun p q r => bitField p q r))

/-- `BFI` (R146). -/
def execBfi (w : Nat) (a : VArith) (s : State) : Host.Outcome State Fault Refusal :=
  onDev s (fun d => d.vecOp w a ⟨3, false, .int, .int⟩ (fun p q r => bitInsert p q r))

/-- `POPC` (R146). -/
def execPopc (w : Nat) (a : VArith) (s : State) : Host.Outcome State Fault Refusal :=
  onDev s (fun d => d.vecOp w a ⟨1, false, .int, .int⟩ (fun p _ _ => w32 (popCount p)))

/-- `FMSB` (R146). -/
def execFmsb (w : Nat) (a : VArith) (s : State) : Host.Outcome State Fault Refusal :=
  onDev s (fun d => d.vecOp w a ⟨1, false, .int, .int⟩ (fun p _ _ => highOne p))

/-- `ICMP.EQ` (R146). -/
def execIcmpEq (w : Nat) (a : VArith) (s : State) : Host.Outcome State Fault Refusal :=
  onDev s (fun d => d.vecCmp w a ⟨2, false, .int, .int⟩ (fun p q => p == q))

/-- `ICMP.NE` (R146). -/
def execIcmpNe (w : Nat) (a : VArith) (s : State) : Host.Outcome State Fault Refusal :=
  onDev s (fun d => d.vecCmp w a ⟨2, false, .int, .int⟩ (fun p q => p != q))

/-- `ICMP.LT` (R146). -/
def execIcmpLt (w : Nat) (a : VArith) (s : State) : Host.Outcome State Fault Refusal :=
  onDev s (fun d => d.vecCmp w a ⟨2, false, .int, .int⟩ (fun p q => p.slt q))

/-- `ICMP.LE` (R146). -/
def execIcmpLe (w : Nat) (a : VArith) (s : State) : Host.Outcome State Fault Refusal :=
  onDev s (fun d => d.vecCmp w a ⟨2, false, .int, .int⟩ (fun p q => p.sle q))

/-- `ICMP.GT` (R146). -/
def execIcmpGt (w : Nat) (a : VArith) (s : State) : Host.Outcome State Fault Refusal :=
  onDev s (fun d => d.vecCmp w a ⟨2, false, .int, .int⟩ (fun p q => q.slt p))

/-- `ICMP.GE` (R146). -/
def execIcmpGe (w : Nat) (a : VArith) (s : State) : Host.Outcome State Fault Refusal :=
  onDev s (fun d => d.vecCmp w a ⟨2, false, .int, .int⟩ (fun p q => q.sle p))

/-- `ICMP.LTU` (R146). -/
def execIcmpLtu (w : Nat) (a : VArith) (s : State) : Host.Outcome State Fault Refusal :=
  onDev s (fun d => d.vecCmp w a ⟨2, false, .int, .int⟩ (fun p q => p.ult q))

/-- `ICMP.GEU` (R146). -/
def execIcmpGeu (w : Nat) (a : VArith) (s : State) : Host.Outcome State Fault Refusal :=
  onDev s (fun d => d.vecCmp w a ⟨2, false, .int, .int⟩ (fun p q => q.ule p))

/-- `MOV` (R146). -/
def execMov (w : Nat) (a : VArith) (s : State) : Host.Outcome State Fault Refusal :=
  onDev s (fun d => d.vecOp w a ⟨1, false, .int, .int⟩ (fun p _ _ => p))

/-- `SEL` (R146). -/
def execSel (w : Nat) (a : VArith) (s : State) : Host.Outcome State Fault Refusal :=
  onDev s (fun d => d.vecLanes w a ⟨3, false, .int, .int⟩ (fun _ => decide (0x100 ≤ a.src2.toNat)) (fun _ l p q r => if r.toNat.testBit l then p else q))

/-- `LGET` (R146). -/
def execLget (w : Nat) (a : VArith) (s : State) : Host.Outcome State Fault Refusal :=
  onDev s (fun d => d.laneGet w a ⟨2, false, .int, .int⟩)

/-- `SHUF` (R146). -/
def execShuf (w : Nat) (a : VArith) (s : State) : Host.Outcome State Fault Refusal :=
  onDev s (fun d => d.vecLanes w a ⟨2, false, .int, .int⟩ (fun _ => true) (fun x _ _ q _ =>
    if x.amask.toNat.testBit (low5 q) then vaArg a x ⟨2, false, .int, .int⟩ (low5 q) 0 else 0#32))

/-- `VINTERP` (R146). -/
def execVinterp (w : Nat) (a : VArith) (s : State) : Host.Outcome State Fault Refusal :=
  onDev s (fun d => d.vecInterp w a ⟨3, true, .single, .single⟩)

/-- `DDX` (R146). -/
def execDdx (w : Nat) (a : VArith) (s : State) : Host.Outcome State Fault Refusal :=
  onDev s (fun d => d.vecDeriv w a ⟨1, true, .single, .single⟩ 1)

/-- `DDY` (R146). -/
def execDdy (w : Nat) (a : VArith) (s : State) : Host.Outcome State Fault Refusal :=
  onDev s (fun d => d.vecDeriv w a ⟨1, true, .single, .single⟩ 2)

/-! ### Scalar arithmetic of waves, classes 0x2 and 0x3 -/

/-- `SADD` (R146). -/
def execSadd (w : Nat) (a : VArith) (s : State) : Host.Outcome State Fault Refusal :=
  onDev s (fun d => d.scaOp w a 2 (fun _ p q => p + q) (fun _ p q => addCarry p q))

/-- `SSUB` (R146). -/
def execSsub (w : Nat) (a : VArith) (s : State) : Host.Outcome State Fault Refusal :=
  onDev s (fun d => d.scaOp w a 2 (fun _ p q => p - q) (fun _ p q => subBorrow p q))

/-- `SMUL` (R146). -/
def execSmul (w : Nat) (a : VArith) (s : State) : Host.Outcome State Fault Refusal :=
  onDev s (fun d => d.scaOp w a 2 (fun _ p q => p * q) keepQ)

/-- `SAND` (R146). -/
def execSand (w : Nat) (a : VArith) (s : State) : Host.Outcome State Fault Refusal :=
  onDev s (fun d => d.scaOp w a 2 (fun _ p q => p &&& q) (fun _ p q => (p &&& q) != 0#32))

/-- `SOR` (R146). -/
def execSor (w : Nat) (a : VArith) (s : State) : Host.Outcome State Fault Refusal :=
  onDev s (fun d => d.scaOp w a 2 (fun _ p q => p ||| q) (fun _ p q => (p ||| q) != 0#32))

/-- `SXOR` (R146). -/
def execSxor (w : Nat) (a : VArith) (s : State) : Host.Outcome State Fault Refusal :=
  onDev s (fun d => d.scaOp w a 2 (fun _ p q => p ^^^ q) (fun _ p q => (p ^^^ q) != 0#32))

/-- `SBIC` (R146). -/
def execSbic (w : Nat) (a : VArith) (s : State) : Host.Outcome State Fault Refusal :=
  onDev s (fun d => d.scaOp w a 2 (fun _ p q => p &&& ~~~q) (fun _ p q => (p &&& ~~~q) != 0#32))

/-- `SSHL` (R146). -/
def execSshl (w : Nat) (a : VArith) (s : State) : Host.Outcome State Fault Refusal :=
  onDev s (fun d => d.scaOp w a 2 (fun _ p q => p <<< low5 q) (fun _ p q => (p <<< low5 q) != 0#32))

/-- `SSHR` (R146). -/
def execSshr (w : Nat) (a : VArith) (s : State) : Host.Outcome State Fault Refusal :=
  onDev s (fun d => d.scaOp w a 2 (fun _ p q => p >>> low5 q) (fun _ p q => (p >>> low5 q) != 0#32))

/-- `SSRA` (R146). -/
def execSsra (w : Nat) (a : VArith) (s : State) : Host.Outcome State Fault Refusal :=
  onDev s (fun d => d.scaOp w a 2 (fun _ p q => p.sshiftRight (low5 q)) (fun _ p q => (p.sshiftRight (low5 q)) != 0#32))

/-- `SMOV` (R146). -/
def execSmov (w : Nat) (a : VArith) (s : State) : Host.Outcome State Fault Refusal :=
  onDev s (fun d => d.scaOp w a 1 (fun _ p _ => p) keepQ)

/-- `SPOPC` (R146). -/
def execSpopc (w : Nat) (a : VArith) (s : State) : Host.Outcome State Fault Refusal :=
  onDev s (fun d => d.scaOp w a 1 (fun _ p _ => w32 (popCount p)) (fun _ p _ => popCount p != 0))

/-- `SLSB` (R146). -/
def execSlsb (w : Nat) (a : VArith) (s : State) : Host.Outcome State Fault Refusal :=
  onDev s (fun d => d.scaOp w a 1 (fun _ p _ => lowOne p) keepQ)

/-- `SCMP.EQ` (R146). -/
def execScmpEq (w : Nat) (a : VArith) (s : State) : Host.Outcome State Fault Refusal :=
  onDev s (fun d => d.scaCmp w a (fun p q => p == q))

/-- `SCMP.NE` (R146). -/
def execScmpNe (w : Nat) (a : VArith) (s : State) : Host.Outcome State Fault Refusal :=
  onDev s (fun d => d.scaCmp w a (fun p q => p != q))

/-- `SCMP.LT` (R146). -/
def execScmpLt (w : Nat) (a : VArith) (s : State) : Host.Outcome State Fault Refusal :=
  onDev s (fun d => d.scaCmp w a (fun p q => p.slt q))

/-- `SCMP.LE` (R146). -/
def execScmpLe (w : Nat) (a : VArith) (s : State) : Host.Outcome State Fault Refusal :=
  onDev s (fun d => d.scaCmp w a (fun p q => p.sle q))

/-- `SCMP.GT` (R146). -/
def execScmpGt (w : Nat) (a : VArith) (s : State) : Host.Outcome State Fault Refusal :=
  onDev s (fun d => d.scaCmp w a (fun p q => q.slt p))

/-- `SCMP.GE` (R146). -/
def execScmpGe (w : Nat) (a : VArith) (s : State) : Host.Outcome State Fault Refusal :=
  onDev s (fun d => d.scaCmp w a (fun p q => q.sle p))

/-- `SCMP.LTU` (R146). -/
def execScmpLtu (w : Nat) (a : VArith) (s : State) : Host.Outcome State Fault Refusal :=
  onDev s (fun d => d.scaCmp w a (fun p q => p.ult q))

/-- `SCMP.GEU` (R146). -/
def execScmpGeu (w : Nat) (a : VArith) (s : State) : Host.Outcome State Fault Refusal :=
  onDev s (fun d => d.scaCmp w a (fun p q => q.ule p))

/-- `SSEL` (R146). -/
def execSsel (w : Nat) (a : VArith) (s : State) : Host.Outcome State Fault Refusal :=
  onDev s (fun d => d.scaOp w a 2 (fun c p q => if c then p else q) keepQ)

/-! ### Control, class 0x8 -/

/-- `BRA` (R146). -/
def execBra (w : Nat) (imm : Word) (s : State) : Host.Outcome State Fault Refusal :=
  onDev s (fun d => d.vecBranch w imm (fun _ => true))

/-- `BQ1` (R146). -/
def execBq1 (w : Nat) (imm : Word) (s : State) : Host.Outcome State Fault Refusal :=
  onDev s (fun d => d.vecBranch w imm (fun x => x.q))

/-- `BQ0` (R146). -/
def execBq0 (w : Nat) (imm : Word) (s : State) : Host.Outcome State Fault Refusal :=
  onDev s (fun d => d.vecBranch w imm (fun x => !x.q))

/-- `BAZ` (R146). -/
def execBaz (w : Nat) (imm : Word) (s : State) : Host.Outcome State Fault Refusal :=
  onDev s (fun d => d.vecBranch w imm (fun x => x.amask == 0#32))

/-- `BANZ` (R146). -/
def execBanz (w : Nat) (imm : Word) (s : State) : Host.Outcome State Fault Refusal :=
  onDev s (fun d => d.vecBranch w imm (fun x => x.amask != 0#32))

/-- `WGBAR` (R154). -/
def execWgbar (w : Nat) (s : State) : Host.Outcome State Fault Refusal :=
  onDev s (fun d => 
    match d.wave w with
    | some x => (d.runWave w (fun x => x.kind == 2) (fun x => { x with barrier := true })).passBarrier x.group
    | none => d)

/-- `MEMBAR` (R150). -/
def execMembar (w : Nat) (imm : Word) (s : State) : Host.Outcome State Fault Refusal :=
  onDev s (fun d => d.runVec w (fun _ => decide (imm.toNat ≤ 2)) (fun k x => do
    if imm.toNat = 2 then modify (fun d => d.l2CleanItem k.u) else pure ()
    pure x))

/-- `NOP` (R146). -/
def execVecNop (w : Nat) (s : State) : Host.Outcome State Fault Refusal :=
  onDev s (fun d => d.runWave w (fun _ => true) (fun x => x))

/-- `END` (R146). -/
def execVecEnd (w : Nat) (s : State) : Host.Outcome State Fault Refusal :=
  onDev s (fun d => d.waveEnd w)

end Sys2Proof.Machine
end

