-- ==== Sys2Proof/Machine/VecMem.lean ====
section
/-!
DEFINITION. Memory and export instructions of waves (R135, R147 to R149, R154): classes 0x4 and 0x7.
-/

namespace Sys2Proof.Machine

open Sys2Proof

/-! ### Addresses -/

/-- A buffer descriptor (R135). -/
structure BufDesc where
  addr : Nat
  size : Nat
  writable : Bool
  coherent : Bool
  system : Bool

/-- The buffer descriptor in four scalar registers. -/
def Wave.buf (x : Wave) (r : Nat) : BufDesc :=
  let f := (x.sr (r + 3)).toNat
  { addr := x.pair r, size := (x.sr (r + 2)).toNat, writable := bitOn f 0, coherent := bitOn f 1, system := bitOn f 2 }

/-- A 16-bit offset with its sign, added to a 32-bit value and cut to whole dwords (R147). -/
def dwordOff (v : Word) (off : BitVec 16) : Nat := (v + off.signExtend 32).toNat / 4 * 4

/-- Whether the fields of a buffer access of `n` registers are legal (R140, R147). -/
def memOk (a : VMem) (x : Wave) (n : Nat) : Bool :=
  decide (a.data.toNat + n ≤ x.vregs) && decide (a.vaddr.toNat < x.vregs) && a.desc.toNat % 4 == 0
    && decide (a.desc.toNat + 4 ≤ x.sregs) && !a.flags.toNat.testBit 1

/-- Whether the fields of an access to workgroup memory are legal (R140, R147). -/
def wgOk (a : VMem) (x : Wave) (n : Nat) : Bool :=
  x.kind == 2 && decide (a.data.toNat + n ≤ x.vregs) && decide (a.vaddr.toNat < x.vregs) && !a.flags.toNat.testBit 1

/-- The lanes that store, make atomics or export: active and not helpers (R132). -/
def Wave.doers (x : Wave) : List Nat := lanesOf (x.amask &&& x.live)

/-- A read through the L1 of the wave's cluster. -/
def rasReadL1 (c cl i a n detail : Nat) : RasM (List Byte) := fun d =>
  match d.l1Read c cl i a n with
  | (.ok bs, d) => (.ok bs, d)
  | (.error e, d) => (.error (.mem e detail a), d)

/-- A dword of a buffer (R148, R149): 0 out of range; through the L1 unless the descriptor is coherent. -/
def bufLoad (k : RasCtx) (x : Wave) (b : BufDesc) (o : Nat) : RasM Word :=
  if b.size < o + 4 then pure 0#32
  else do
    let bs ← if b.coherent then rasRead k.c k.i (b.addr + o) 4 1 else rasReadL1 k.c (x.cluster.getD 0) k.i (b.addr + o) 4 1
    pure (w32 (leNat bs))

/-- A dword stored to a buffer (R148): out of range, or through a descriptor that is not writable, it changes nothing. -/
def bufStore (k : RasCtx) (b : BufDesc) (o : Nat) (v : Word) : RasM Unit :=
  if b.size < o + 4 || !b.writable then pure () else rasWrite k.c k.i k.u (b.addr + o) (leBytes 4 v.toNat)

/-- A dword changed at the system cache (R149): the channel's L2 gives its line up first. -/
def sysAtomic (k : RasCtx) (a : Nat) (f : Word → Word) : RasM Word := fun d =>
  match d.target (.inst k.i) true a with
  | (none, d) => (.error (.mem .trans 2 a), d)
  | (some t, d) =>
    let d := d.l2Evict k.c t.key
    match d.readAt (4 + k.c) t 4 with
    | (.error e, d) => (.error (.mem e 2 a), d)
    | (.ok bs, d) =>
      let old := w32 (leNat bs)
      match d.write (.inst k.i) (4 + k.c) a (leBytes 4 (f old).toNat) with
      | (.error e, d) => (.error (.mem e 2 a), d)
      | (.ok (), d) => (.ok old, d)

/-- A 32-bit atomic on a buffer (R147 to R149): the old value; 0, with no change, out of range. -/
def bufAtomic (k : RasCtx) (b : BufDesc) (o : Nat) (f : Word → Word) : RasM Word :=
  if b.size < o + 4 || !b.writable then pure 0#32
  else if b.system then sysAtomic k (b.addr + o) f
  else do
    let bs ← rasRead k.c k.i (b.addr + o) 4 2
    let old := w32 (leNat bs)
    rasWrite k.c k.i k.u (b.addr + o) (leBytes 4 (f old).toNat)
    pure old

/-! ### Buffers -/

/-- `SLD` (R147). -/
def execSld (w : Nat) (a : VMem) (s : State) : Host.Outcome State Fault Refusal :=
  onDev s (fun d =>
    let n := 2 ^ a.count.toNat
    let addr := fun (x : Wave) => ((x.pair a.desc.toNat : Int) + a.offset.toInt) % ((2 ^ 64 : Nat) : Int)
    d.runVec w
      (fun x => decide (a.count.toNat ≤ 4) && decide (a.data.toNat + n ≤ x.sregs) && a.desc.toNat % 2 == 0
        && decide (a.desc.toNat + 2 ≤ x.sregs) && !a.flags.toNat.testBit 1 && addr x % 4 == 0)
      (fun k x => do
        let bs ← rasRead k.c k.i (addr x).toNat (4 * n) 1
        pure ((List.range n).foldl (fun y j => y.setSr (a.data.toNat + j) (w32 (leAt bs (4 * j) 4))) x)))

/-- `BLD` (R147 to R149). -/
def execBld (w : Nat) (a : VMem) (s : State) : Host.Outcome State Fault Refusal :=
  onDev s (fun d =>
    let n := a.count.toNat + 1
    d.runVec w (fun x => decide (n ≤ 4) && memOk a x n) (fun k x =>
      (lanesOf x.amask).foldlM (fun y l => (List.range n).foldlM (fun y j => do
        let v ← bufLoad k x (x.buf a.desc.toNat) (dwordOff (x.vr a.vaddr.toNat l) a.offset + 4 * j)
        pure (y.setVr (a.data.toNat + j) l v)) y) x))

/-- `BST` (R147 to R149). -/
def execBst (w : Nat) (a : VMem) (s : State) : Host.Outcome State Fault Refusal :=
  onDev s (fun d =>
    let n := a.count.toNat + 1
    d.runVec w (fun x => decide (n ≤ 4) && memOk a x n) (fun k x => do
      x.doers.forM (fun l => (List.range n).forM (fun j =>
        bufStore k (x.buf a.desc.toNat) (dwordOff (x.vr a.vaddr.toNat l) a.offset + 4 * j) (x.vr (a.data.toNat + j) l)))
      pure x))

/-- An atomic of a wave on a buffer, lane by lane: `n` registers of data, and `f` of the wave, the lane and the old value. -/
def Device.bufAtomics (d : Device) (w : Nat) (a : VMem) (n : Nat) (f : Wave → Nat → Word → Word) : Device :=
  d.runVec w (fun x => a.count == 0#3 && memOk a x n) (fun k x =>
    x.doers.foldlM (fun y l => do
      let old ← bufAtomic k (x.buf a.desc.toNat) (dwordOff (x.vr a.vaddr.toNat l) a.offset) (f x l)
      pure (if a.flags.toNat.testBit 0 then y.setVr a.data.toNat l old else y)) x)

/-- What a compare-exchange leaves (R147). -/
def cmpxchg (a : VMem) (x : Wave) (l : Nat) (old : Word) : Word :=
  if old = x.vr a.data.toNat l then x.vr (a.data.toNat + 1) l else old

/-- `BATOM.ADD` (R147). -/
def execBatomAdd (w : Nat) (a : VMem) (s : State) : Host.Outcome State Fault Refusal :=
  onDev s (fun d => d.bufAtomics w a 1 (fun x l p => let q := x.vr a.data.toNat l; p + q))

/-- `BATOM.SMIN` (R147). -/
def execBatomSmin (w : Nat) (a : VMem) (s : State) : Host.Outcome State Fault Refusal :=
  onDev s (fun d => d.bufAtomics w a 1 (fun x l p => let q := x.vr a.data.toNat l; if p.slt q then p else q))

/-- `BATOM.SMAX` (R147). -/
def execBatomSmax (w : Nat) (a : VMem) (s : State) : Host.Outcome State Fault Refusal :=
  onDev s (fun d => d.bufAtomics w a 1 (fun x l p => let q := x.vr a.data.toNat l; if p.slt q then q else p))

/-- `BATOM.UMIN` (R147). -/
def execBatomUmin (w : Nat) (a : VMem) (s : State) : Host.Outcome State Fault Refusal :=
  onDev s (fun d => d.bufAtomics w a 1 (fun x l p => let q := x.vr a.data.toNat l; if p.ult q then p else q))

/-- `BATOM.UMAX` (R147). -/
def execBatomUmax (w : Nat) (a : VMem) (s : State) : Host.Outcome State Fault Refusal :=
  onDev s (fun d => d.bufAtomics w a 1 (fun x l p => let q := x.vr a.data.toNat l; if p.ult q then q else p))

/-- `BATOM.AND` (R147). -/
def execBatomAnd (w : Nat) (a : VMem) (s : State) : Host.Outcome State Fault Refusal :=
  onDev s (fun d => d.bufAtomics w a 1 (fun x l p => let q := x.vr a.data.toNat l; p &&& q))

/-- `BATOM.OR` (R147). -/
def execBatomOr (w : Nat) (a : VMem) (s : State) : Host.Outcome State Fault Refusal :=
  onDev s (fun d => d.bufAtomics w a 1 (fun x l p => let q := x.vr a.data.toNat l; p ||| q))

/-- `BATOM.XOR` (R147). -/
def execBatomXor (w : Nat) (a : VMem) (s : State) : Host.Outcome State Fault Refusal :=
  onDev s (fun d => d.bufAtomics w a 1 (fun x l p => let q := x.vr a.data.toNat l; p ^^^ q))

/-- `BATOM.XCHG` (R147). -/
def execBatomXchg (w : Nat) (a : VMem) (s : State) : Host.Outcome State Fault Refusal :=
  onDev s (fun d => d.bufAtomics w a 1 (fun x l _ => let q := x.vr a.data.toNat l; q))

/-- `BATOM.CMPXCHG` (R147). -/
def execBatomCmpxchg (w : Nat) (a : VMem) (s : State) : Host.Outcome State Fault Refusal :=
  onDev s (fun d => d.bufAtomics w a 2 (fun x l p => cmpxchg a x l p))

/-! ### Workgroup memory -/

/-- The workgroup memory of a wave. -/
def Device.groupMem (d : Device) (g : Nat) : List (Nat × Byte) :=
  match d.ras.groups.find? (fun x => x.id == g) with | some x => x.mem | none => []

/-- A dword of workgroup memory; 0 out of range (R148). -/
def wgLoad (x : Wave) (o : Nat) : RasM Word := do
  let d ← get
  pure (if x.wgmem < o + 4 then 0#32 else w32 (leNat (rawRead (d.groupMem x.group) o 4)))

/-- A dword of workgroup memory stored; out of range it changes nothing (R148). -/
def wgStore (x : Wave) (o : Nat) (v : Word) : RasM Unit :=
  if x.wgmem < o + 4 then pure ()
  else modify (fun d => { d with ras := { d.ras with groups := d.ras.groups.map (fun g =>
    if g.id == x.group then { g with mem := rawWrite g.mem o (leBytes 4 v.toNat) } else g) } })

/-- `WLD` (R147, R148). -/
def execWld (w : Nat) (a : VMem) (s : State) : Host.Outcome State Fault Refusal :=
  onDev s (fun d =>
    let n := a.count.toNat + 1
    d.runVec w (fun x => decide (n ≤ 4) && wgOk a x n) (fun _ x =>
      (lanesOf x.amask).foldlM (fun y l => (List.range n).foldlM (fun y j => do
        let v ← wgLoad x (dwordOff (x.vr a.vaddr.toNat l) a.offset + 4 * j)
        pure (y.setVr (a.data.toNat + j) l v)) y) x))

/-- `WST` (R147, R148). -/
def execWst (w : Nat) (a : VMem) (s : State) : Host.Outcome State Fault Refusal :=
  onDev s (fun d =>
    let n := a.count.toNat + 1
    d.runVec w (fun x => decide (n ≤ 4) && wgOk a x n) (fun _ x => do
      x.doers.forM (fun l => (List.range n).forM (fun j =>
        wgStore x (dwordOff (x.vr a.vaddr.toNat l) a.offset + 4 * j) (x.vr (a.data.toNat + j) l)))
      pure x))

/-- An atomic of a wave on workgroup memory, lane by lane. -/
def Device.wgAtomics (d : Device) (w : Nat) (a : VMem) (n : Nat) (f : Wave → Nat → Word → Word) : Device :=
  d.runVec w (fun x => a.count == 0#3 && wgOk a x n) (fun _ x =>
    x.doers.foldlM (fun y l => do
      let o := dwordOff (x.vr a.vaddr.toNat l) a.offset
      let old ← wgLoad x o
      wgStore x o (f x l old)
      pure (if a.flags.toNat.testBit 0 then y.setVr a.data.toNat l old else y)) x)

/-- `WATOM.ADD` (R147). -/
def execWatomAdd (w : Nat) (a : VMem) (s : State) : Host.Outcome State Fault Refusal :=
  onDev s (fun d => d.wgAtomics w a 1 (fun x l p => let q := x.vr a.data.toNat l; p + q))

/-- `WATOM.SMIN` (R147). -/
def execWatomSmin (w : Nat) (a : VMem) (s : State) : Host.Outcome State Fault Refusal :=
  onDev s (fun d => d.wgAtomics w a 1 (fun x l p => let q := x.vr a.data.toNat l; if p.slt q then p else q))

/-- `WATOM.SMAX` (R147). -/
def execWatomSmax (w : Nat) (a : VMem) (s : State) : Host.Outcome State Fault Refusal :=
  onDev s (fun d => d.wgAtomics w a 1 (fun x l p => let q := x.vr a.data.toNat l; if p.slt q then q else p))

/-- `WATOM.UMIN` (R147). -/
def execWatomUmin (w : Nat) (a : VMem) (s : State) : Host.Outcome State Fault Refusal :=
  onDev s (fun d => d.wgAtomics w a 1 (fun x l p => let q := x.vr a.data.toNat l; if p.ult q then p else q))

/-- `WATOM.UMAX` (R147). -/
def execWatomUmax (w : Nat) (a : VMem) (s : State) : Host.Outcome State Fault Refusal :=
  onDev s (fun d => d.wgAtomics w a 1 (fun x l p => let q := x.vr a.data.toNat l; if p.ult q then q else p))

/-- `WATOM.AND` (R147). -/
def execWatomAnd (w : Nat) (a : VMem) (s : State) : Host.Outcome State Fault Refusal :=
  onDev s (fun d => d.wgAtomics w a 1 (fun x l p => let q := x.vr a.data.toNat l; p &&& q))

/-- `WATOM.OR` (R147). -/
def execWatomOr (w : Nat) (a : VMem) (s : State) : Host.Outcome State Fault Refusal :=
  onDev s (fun d => d.wgAtomics w a 1 (fun x l p => let q := x.vr a.data.toNat l; p ||| q))

/-- `WATOM.XOR` (R147). -/
def execWatomXor (w : Nat) (a : VMem) (s : State) : Host.Outcome State Fault Refusal :=
  onDev s (fun d => d.wgAtomics w a 1 (fun x l p => let q := x.vr a.data.toNat l; p ^^^ q))

/-- `WATOM.XCHG` (R147). -/
def execWatomXchg (w : Nat) (a : VMem) (s : State) : Host.Outcome State Fault Refusal :=
  onDev s (fun d => d.wgAtomics w a 1 (fun x l _ => let q := x.vr a.data.toNat l; q))

/-- `WATOM.CMPXCHG` (R147). -/
def execWatomCmpxchg (w : Nat) (a : VMem) (s : State) : Host.Outcome State Fault Refusal :=
  onDev s (fun d => d.wgAtomics w a 2 (fun x l p => cmpxchg a x l p))

/-! ### Exports -/

/-- The components of a mask, in the order r, g, b, a. -/
def maskComps (m : BitVec 4) : List Nat := onesBelow 4 m.toNat

/-- The exports of a wave's lanes under keys `key`, from the registers `v[src]` on, in place of what stands under the four
keys from `key` (R154). -/
def Wave.export4 (x : Wave) (src key : Nat) (m : BitVec 4) : Wave :=
  x.doers.foldl (fun y l =>
    let y := { y with outs := y.outs.filter (fun e => e.1 < 256 * l + key || 256 * l + key + 4 ≤ e.1) }
    ((maskComps m).zipIdx).foldl (fun y p => y.setOut (256 * l + key + p.1) (x.vr (src + p.2) l)) y) x

/-- `EXPC` (R154). -/
def execExpc (w : Nat) (a : VExp) (s : State) : Host.Outcome State Fault Refusal :=
  onDev s (fun d => d.runWave w
    (fun x => x.kind == 1 && decide (a.target.toNat ≤ 3) && decide (a.src.toNat + (maskComps a.mask).length ≤ x.vregs))
    (fun x => x.export4 a.src.toNat (4 * a.target.toNat) a.mask))

/-- `EXPZ` (R154). -/
def execExpz (w : Nat) (a : VExp) (s : State) : Host.Outcome State Fault Refusal :=
  onDev s (fun d => d.runWave w (fun x => x.kind == 1 && x.wdepth && decide (a.src.toNat < x.vregs))
    (fun x => x.doers.foldl (fun y l => y.setOut (256 * l + 16) (x.vr a.src.toNat l)) x))

/-- `EXPP` (R154). -/
def execExpp (w : Nat) (a : VExp) (s : State) : Host.Outcome State Fault Refusal :=
  onDev s (fun d => d.runWave w (fun x => x.kind == 0 && decide (a.src.toNat + 4 ≤ x.vregs))
    (fun x => x.export4 a.src.toNat 32 0xF#4))

/-- `EXPA` (R154). -/
def execExpa (w : Nat) (a : VExp) (s : State) : Host.Outcome State Fault Refusal :=
  onDev s (fun d => d.runWave w
    (fun x => x.kind == 0 && decide (a.target.toNat < x.slots)
      && decide (a.src.toNat + (maskComps a.mask).length ≤ x.vregs))
    (fun x => x.export4 a.src.toNat (64 + 4 * a.target.toNat) a.mask))

/-- `KILL` (R154). -/
def execKill (w : Nat) (s : State) : Host.Outcome State Fault Refusal :=
  onDev s (fun d => d.runWave w (fun x => x.kind == 1 && x.kills) (fun x => { x with live := x.live &&& ~~~x.amask }))

end Sys2Proof.Machine
end

