-- ==== Sys2Proof/Machine/Texture.lean ====
section
/-!
DEFINITION. Texture instructions of waves (R135, R136, R151, R152): class 0x5. Descriptors, levels, texel fetches through
the L1, and filtering in the fixed order of R152.
-/

namespace Sys2Proof.Machine

open Sys2Proof

/-! ### Descriptors -/

/-- A texture descriptor (R135). -/
structure TexDesc where
  addr : Nat
  width : Nat
  height : Nat
  fmt : Nat
  linear : Bool
  levels : Nat
  pitch : Nat

/-- The texture descriptor in eight scalar registers. -/
def Wave.tex (x : Wave) (r : Nat) : TexDesc :=
  let w2 := (x.sr (r + 2)).toNat
  let w3 := (x.sr (r + 3)).toNat
  { addr := x.pair r, width := bits w2 13 0 + 1, height := bits w2 29 16 + 1, fmt := bits w3 7 0, linear := bitOn w3 8,
    levels := bits w3 12 9 + 1, pitch := (x.sr (r + 4)).toNat }

/-- Bits per texel of a texture format; none when the format is not in the table (R136). -/
def texBits (f : Nat) : Option Nat :=
  match f with
  | 0x10 => some 16
  | 0x11 => some 32
  | 0x12 => some 32
  | 0x20 => some 32
  | 0x21 => some 32
  | 0x22 => some 16
  | 0x23 => some 8
  | 0x24 => some 64
  | _ => if f = 3 || 7 < f then none else some (pixBits f)

/-- Bits per texel of a descriptor. -/
def TexDesc.bpp (t : TexDesc) : Nat := (texBits t.fmt).getD 32

/-- Whether a descriptor is valid (R136). -/
def TexDesc.ok (t : TexDesc) : Bool :=
  (texBits t.fmt).isSome && (t.linear || t.bpp == 16 || t.bpp == 32)
    && decide (t.levels ≤ Nat.log2 (max t.width t.height) + 1)

/-- The size of a level along one axis (R135). -/
def levelDim (n l : Nat) : Nat := max 1 (n >>> l)

/-- The row pitch of a linear level (R135). -/
def TexDesc.pitchAt (t : TexDesc) (l : Nat) : Nat :=
  if l = 0 then t.pitch else ceilDiv (levelDim t.width l * (t.bpp / 8)) 64 * 64

/-- The bytes of a level. -/
def TexDesc.levelSize (t : TexDesc) (l : Nat) : Nat :=
  if t.linear then t.pitchAt l * levelDim t.height l else twillSize (levelDim t.width l) (levelDim t.height l) t.bpp

/-- The address of a level: each starts at the first 4 KiB boundary after the one before it ends (R135). -/
def TexDesc.levelAddr (t : TexDesc) : Nat → Nat
  | 0 => t.addr
  | l + 1 => ceilDiv (t.levelAddr l + t.levelSize l) 4096 * 4096

/-- The components r, g, b, a that a texel reads as (R136). A depth of D24S8 stands in bits [23:0]. -/
def texelToF (f v : Nat) : List Nat :=
  match f with
  | 0x10 => [unormToF 16 v, 0, 0, fOne]
  | 0x11 => [unormToF 24 (bits v 23 0), f32.roundInt .near (bits v 31 24) 0 false, 0, fOne]
  | 0x12 => [v, 0, 0, fOne]
  | 0x20 => [v, 0, 0, fOne]
  | 0x21 => [f16.conv f32 (bits v 15 0), f16.conv f32 (bits v 31 16), 0, fOne]
  | 0x22 => [f16.conv f32 v, 0, 0, fOne]
  | 0x23 => [unormToF 8 v, 0, 0, fOne]
  | 0x24 => [f16.conv f32 (bits v 15 0), f16.conv f32 (bits v 31 16), f16.conv f32 (bits v 47 32), f16.conv f32 (bits v 63 48)]
  | _ => pixToF f v

/-- Texel (x, y) of a level, read through the L1 of the wave's cluster. -/
def texelFetch (k : RasCtx) (cl : Nat) (t : TexDesc) (l x y : Nat) : RasM (List Nat) := do
  let o := if t.linear then y * t.pitchAt l + x * (t.bpp / 8) else twillOffset (levelDim t.width l) t.bpp x y
  let bs ← rasReadL1 k.c cl k.i (t.levelAddr l + o) (t.bpp / 8) 1
  pure (texelToF t.fmt (leNat bs))

/-! ### Samplers -/

/-- A sampler descriptor (R135). -/
structure SampDesc where
  mag : Bool
  min : Bool
  mip : Nat
  aniso : Nat
  modeU : Nat
  modeV : Nat
  border : Nat
  bias : Int
  lo : Nat
  hi : Nat

/-- The sampler descriptor in four scalar registers. -/
def Wave.samp (x : Wave) (r : Nat) : SampDesc :=
  let f := (x.sr r).toNat
  let m := (x.sr (r + 2)).toNat
  { mag := bitOn f 0, min := bitOn f 1, mip := bits f 3 2, aniso := bits f 6 4, modeU := bits f 8 7, modeV := bits f 10 9,
    border := bits f 12 11, bias := sextNat 16 (x.sr (r + 1)).toNat, lo := bits m 11 0, hi := bits m 27 16 }

/-- The border colour (R135). -/
def borderColour (b : Nat) : List Nat :=
  if b = 2 then [fOne, fOne, fOne, fOne] else if b = 1 then [0, 0, 0, fOne] else [0, 0, 0, 0]

/-- A texel index under an address mode: none is the border (R135). -/
def wrapIndex (mode n : Nat) (i : Int) : Option Nat :=
  match mode with
  | 0 => some (i % (n : Int)).toNat
  | 1 =>
    let j := (i % (2 * n : Nat)).toNat
    some (if j < n then j else 2 * n - 1 - j)
  | 2 => some (clampInt 0 ((n : Int) - 1) i).toNat
  | _ => if 0 ≤ i && decide (i < (n : Int)) then some i.toNat else none

/-- A free value drawn inside engine work. -/
def rasFree : RasM Nat := do
  let d ← get
  set d.free.2
  pure d.free.1

/-- A texel coordinate cut into its integer part and its fraction in 256ths, rounded to nearest even (R152). What a
coordinate that is not a number or not finite gives is left open, one result for one coordinate. -/
def splitCoord (u : Nat) : Int × Nat :=
  match f32.decode u with
  | .fin s m e =>
    let i := toIntR .down s m e
    (i, (toIntR .near s m (e + 8) - i * 256).toNat)
  | _ =>
    let n := Config.openOf 0 [u]
    ((n / 257 : Nat), n % 257)

/-- A weight in 256ths as binary32. -/
def weight (n : Nat) : Nat := f32.roundInt .near n (-8) false

/-- Weighted colours added in order, each step rounded (R152). -/
def mixTerms (ts : List (Nat × List Nat)) : List Nat :=
  match ts with
  | [] => [0, 0, 0, 0]
  | (w, c) :: r =>
    r.foldl (fun acc t => (acc.zip t.2).map (fun p => f32.addR .near p.1 (f32.mulR .near p.2 t.1)))
      (c.map (fun v => f32.mulR .near v w))

/-- A linear filter over the four texels around a coordinate less one half, in the order of R152. -/
def bilinear (get' : Int → Int → RasM (List Nat)) (u v : Nat) : RasM (List Nat) := do
  let half := 0xBF000000
  let (x, a) := splitCoord (f32.addR .near u half)
  let (y, b) := splitCoord (f32.addR .near v half)
  let c00 ← get' x y
  let c10 ← get' (x + 1) y
  let c01 ← get' x (y + 1)
  let c11 ← get' (x + 1) (y + 1)
  let w := fun p q => f32.mulR .near (weight p) (weight q)
  pure (mixTerms [(w (256 - a) (256 - b), c00), (w a (256 - b), c10), (w (256 - a) b, c01), (w a b, c11)])

/-- One filtered sample of a level at normalised (u, v), with texel offsets (R151, R152). -/
def sampleLevel (k : RasCtx) (cl : Nat) (t : TexDesc) (p : SampDesc) (linear : Bool) (l u v : Nat) (ou ov : Int) :
    RasM (List Nat) := do
  let w := levelDim t.width l
  let h := levelDim t.height l
  let scale := fun c n o => f32.addR .near (f32.mulR .near c (f32.roundInt .near (n : Nat) 0 false)) (f32.roundInt .near o 0 false)
  let x := scale u w ou
  let y := scale v h ov
  let fetch := fun (i j : Int) =>
    match wrapIndex p.modeU w i, wrapIndex p.modeV h j with
    | some i, some j => texelFetch k cl t l i j
    | _, _ => pure (borderColour p.border)
  if linear then bilinear fetch x y
  else do
    let (i, _) := splitCoord x
    let (j, _) := splitCoord y
    fetch i j

/-- One sample at a level of detail: the filter, and the levels that the sampler's mip mode combines (R135, R152). -/
def sampleLod (k : RasCtx) (cl : Nat) (t : TexDesc) (p : SampDesc) (lod u v : Nat) (ou ov : Int) : RasM (List Nat) := do
  let linear := if f32.le lod 0 then p.mag else p.min
  let top := t.levels - 1
  let (i, f) := splitCoord lod
  if p.mip = 0 then sampleLevel k cl t p linear 0 u v ou ov
  else if p.mip = 1 then
    let n := match f32.decode lod with | .fin s m e => toIntR .near s m e | _ => i
    sampleLevel k cl t p linear (clampInt 0 top n).toNat u v ou ov
  else do
    let a ← sampleLevel k cl t p linear (clampInt 0 top i).toNat u v ou ov
    let b ← sampleLevel k cl t p linear (clampInt 0 top (i + 1)).toNat u v ou ov
    pure (mixTerms [(weight (256 - f), a), (weight f, b)])

/-- The derivative vectors of a quad in texel space from its lanes 0, 1 and 2 (R146, R152): along x and along y. -/
def quadDerivs (x : Wave) (r : Nat) (t : TexDesc) (l : Nat) : (Nat × Nat) × (Nat × Nat) :=
  let q := l / 4 * 4
  let dif := fun m c n => f32.mulR .near
    (f32.addR .near (x.vr (r + c) (q + m)).toNat (f32.negate (x.vr (r + c) q).toNat)) (f32.roundInt .near (n : Nat) 0 false)
  ((dif 1 0 t.width, dif 1 1 t.height), (dif 2 0 t.width, dif 2 1 t.height))

/-- The length of a derivative vector. -/
def axisLength (a : Nat × Nat) : Nat :=
  f32.sqrtR (f32.addR .near (f32.mulR .near a.1 a.1) (f32.mulR .near a.2 a.2))

/-- A level of detail with the biases added, clamped to the sampler's limits (R152). -/
def finalLod (p : SampDesc) (lod : Nat) (bias : Option Nat) : Nat :=
  let l := f32.addR .near lod (f32.roundInt .near p.bias (-8) false)
  let l := match bias with | some b => f32.addR .near l b | none => l
  f32.minR (f32.maxR l (f32.roundInt .near (p.lo : Nat) (-8) false)) (f32.roundInt .near (p.hi : Nat) (-8) false)

/-- The number of anisotropic samples (R152). -/
def anisoCount (p : SampDesc) (major minor : Nat) : Nat :=
  let top := 2 ^ min p.aniso 4
  match f32.decode (f32.divR .near major minor) with
  | .nan => 1
  | .inf _ => top
  | .fin _ m e => max 1 (min top (toIntR .up false m e).toNat)

/-- A sample with an implicit level of detail and the anisotropic samples of a fragment quad (R152). Where the samples lie
along the major axis is left open. -/
def sampleImplicit (k : RasCtx) (x : Wave) (r : Nat) (t : TexDesc) (p : SampDesc) (bias : Option Nat) (l : Nat) (ou ov : Int) :
    RasM (List Nat) := do
  let cl := x.cluster.getD 0
  let u := (x.vr r l).toNat
  let v := (x.vr (r + 1) l).toNat
  if x.kind != 1 then sampleLod k cl t p (finalLod p 0 bias) u v ou ov
  else
    let (dx, dy) := quadDerivs x r t l
    let lx := axisLength dx
    let ly := axisLength dy
    let xMajor := f32.le ly lx
    let rho := if xMajor then lx else ly
    let lod := finalLod p (fLog2 (w32 rho)).toNat bias
    let n := anisoCount p rho (if xMajor then ly else lx)
    if n = 1 then sampleLod k cl t p lod u v ou ov
    else do
      let dirs := if xMajor then dx else dy
      let du := f32.divR .near dirs.1 (f32.roundInt .near (t.width : Nat) 0 false)
      let dv := f32.divR .near dirs.2 (f32.roundInt .near (t.height : Nat) 0 false)
      let cs ← (List.range n).mapM (fun i => do
        let pos := (Config.anisoPos n i).toNat
        sampleLod k cl t p lod (f32.addR .near u (f32.mulR .near du pos)) (f32.addR .near v (f32.mulR .near dv pos)) ou ov)
      let sum := mixTerms (cs.map (fun c => (fOne, c)))
      pure (sum.map (fun c => f32.divR .near c (f32.roundInt .near (n : Nat) 0 false)))

/-! ### Instructions -/

/-- The components of a mask written from `v[dst]` on in one lane (R151). -/
def Wave.putComps (y : Wave) (a : VTex) (l : Nat) (c : List Nat) : Wave :=
  ((maskComps a.mask).zipIdx).foldl (fun y p => y.setVr (a.dst.toNat + p.2) l (w32 (c.getD p.1 0))) y

/-- Whether the fields of a texture instruction with `n` coordinates are legal (R140, R151). -/
def texOk (a : VTex) (x : Wave) (n : Nat) (samp : Bool) : Bool :=
  a.mask != 0#4 && decide (a.dst.toNat + (maskComps a.mask).length ≤ x.vregs) && decide (a.coord.toNat + n ≤ x.vregs)
    && a.tdesc.toNat % 8 == 0 && decide (a.tdesc.toNat + 8 ≤ x.sregs)
    && (!samp || (a.sdesc.toNat % 4 == 0 && decide (a.sdesc.toNat + 4 ≤ x.sregs)))

/-- A texture instruction: `f` gives the components of a lane through a valid descriptor; an invalid one gives zeros. -/
def Device.texOp (d : Device) (w : Nat) (a : VTex) (n : Nat) (samp : Bool)
    (f : RasCtx → Wave → TexDesc → Nat → RasM (List Nat)) : Device :=
  d.runVec w (fun x => texOk a x n samp) (fun k x =>
    let t := x.tex a.tdesc.toNat
    (lanesOf x.amask).foldlM (fun y l => do
      let c ← if t.ok then f k x t l else pure [0, 0, 0, 0]
      pure (y.putComps a l c)) x)

/-- `SAMPLE` (R151, R152). -/
def execSample (w : Nat) (a : VTex) (s : State) : Host.Outcome State Fault Refusal :=
  onDev s (fun d => d.texOp w a 2 true (fun k x t l =>
    sampleImplicit k x a.coord.toNat t (x.samp a.sdesc.toNat) none l a.offu.toInt a.offv.toInt))

/-- `SAMPLE_L` (R151, R152). -/
def execSampleL (w : Nat) (a : VTex) (s : State) : Host.Outcome State Fault Refusal :=
  onDev s (fun d => d.texOp w a 3 true (fun k x t l =>
    let r := a.coord.toNat
    let p := x.samp a.sdesc.toNat
    sampleLod k (x.cluster.getD 0) t p (finalLod p (x.vr (r + 2) l).toNat none) (x.vr r l).toNat (x.vr (r + 1) l).toNat
      a.offu.toInt a.offv.toInt))

/-- `SAMPLE_B` (R151, R152). The operand bias is that of the quad's lane 0, as the level is. -/
def execSampleB (w : Nat) (a : VTex) (s : State) : Host.Outcome State Fault Refusal :=
  onDev s (fun d => d.texOp w a 3 true (fun k x t l =>
    let b := (x.vr (a.coord.toNat + 2) (if x.kind == 1 then l / 4 * 4 else l)).toNat
    sampleImplicit k x a.coord.toNat t (x.samp a.sdesc.toNat) (some b) l a.offu.toInt a.offv.toInt))

/-- `FETCH` (R151). -/
def execFetch (w : Nat) (a : VTex) (s : State) : Host.Outcome State Fault Refusal :=
  onDev s (fun d => d.texOp w a 3 false (fun k x t l =>
    let r := a.coord.toNat
    let i : Int := (x.vr r l).toNat + a.offu.toInt
    let j : Int := (x.vr (r + 1) l).toNat + a.offv.toInt
    let n := (x.vr (r + 2) l).toNat
    if t.levels ≤ n || i < 0 || j < 0 || (levelDim t.width n : Int) ≤ i || (levelDim t.height n : Int) ≤ j then
      pure [0, 0, 0, 0]
    else texelFetch k (x.cluster.getD 0) t n i.toNat j.toNat))

/-- `QUERY` (R151). -/
def execQuery (w : Nat) (a : VTex) (s : State) : Host.Outcome State Fault Refusal :=
  onDev s (fun d => d.texOp w a 1 false (fun _ x t l =>
    let n := (x.vr a.coord.toNat l).toNat
    pure [levelDim t.width n, levelDim t.height n, t.levels, 0]))

end Sys2Proof.Machine
end

