-- ==== Sys2Proof/Machine/Reproj.lean ====
section
/-!
DEFINITION. Late reprojection (R40, R122 to R126): the policy of a head, the lead point, the pass over its pixels, and the
commit of its target.
-/

namespace Sys2Proof.Machine

open Sys2Proof

/-- The nodes that the mosaic counts (R405); a device outside a mosaic counts as one (R40). -/
def Device.mosaicNodes (d : Device) : Nat :=
  if d.on Reg.WFT_STATUS_numbered then (d.rd Reg.WFT_MESH_size_x + 1) * (d.rd Reg.WFT_MESH_size_y + 1) else 1

/-- Whether the late-frame policy of head `h` resolves to REPROJECT (R40). -/
def Device.reprojects (d : Device) (h : Nat) : Bool :=
  let p := d.rdAct (Reg.BEAT_HEAD_LATEPOL_policy h)
  p == 2 || (p == 0 && decide (4 ≤ d.mosaicNodes))

/-- The lead of head `h` in lines. -/
def Device.leadLines (d : Device) (h : Nat) : Nat := d.rd (Reg.RAS_RPJ_CFG_lead (h / 2) (h % 2))

/-- The layer that head `h` re-projects. -/
def Device.rpjLayer (d : Device) (h : Nat) : Nat := d.rd (Reg.RAS_RPJ_CFG_layer (h / 2) (h % 2))

/-- The clock of the lead point of head `h` (R124). -/
def Device.leadAt (d : Device) (h : Nat) : Nat :=
  d.lineAt h (d.frameLines h (d.head h).extra - d.horizon h - d.leadLines h)

/-- Whether the lead point lies after the previous latch line (R125). -/
def Device.leadValid (d : Device) (h : Nat) : Bool :=
  decide (d.leadLines h + d.horizon h < (timingOf (d.activeTiming h)).vtotal)

/-- Whether head `h` has a lead point in its frame. -/
def Device.hasLead (d : Device) (h : Nat) : Bool :=
  decide (h < 8) && d.running h && !d.on (Reg.HEAD_STATUS_restarting h) && !(d.head h).cut && d.reprojects h

/-- The bytes of a view block that was read, when it is valid and no older than max_age. -/
def viewUsable (c m : Nat) (p : Except MemErr (List Byte) × Device) : Option (List Byte) × Device :=
  match p with
  | (.error _, d) => (none, d)
  | (.ok bs, d) =>
    let age := (d.beat.sbeat % 2 ^ 32 + 2 ^ 32 - leAt bs 0x40 4) % 2 ^ 32
    if bitOn (leAt bs 0x44 4) 0 && decide (age ≤ d.rd (Reg.RAS_RPJ_AGE_max_age c m)) then (some bs, d) else (none, d)

/-- The view block of head `h` (R122): its bytes when it is valid and no older than max_age. -/
def Device.viewBlock (d : Device) (h owner : Nat) : Option (List Byte) × Device :=
  let c := h / 2
  let m := h % 2
  viewUsable c m (d.read (.inst owner) (4 + c) (d.addr64 (Reg.RAS_RPJ_VIEW_LO c m) (Reg.RAS_RPJ_VIEW_HI c m)) 72)

/-- Whether a layer set can be a source: 32-bit texels in the twill layout (R122). -/
def rpjSource (ws : List Word) : Bool :=
  let l := layerOf ws
  l.enable && !l.solid && !l.linear && decide (4 ≤ l.fmt) && decide (l.fmt ≤ 7)

/-- The clusters that a pass of channel `c` runs on (R126): those of its mask that the context does not hold and that do not reset. -/
def Device.rpjOn (d : Device) (c : Nat) (r : RpjPass) : Nat :=
  without (if r.mask = 0 then 0xFFF else r.mask) (d.ctxHolds c ||| d.clustersOut c)

/-- A waiting pass of channel `c` starts when no other pass of the channel runs or comes first (R126): it preempts the picks
on its clusters that the context does not hold (R124, R29), and its clusters drop their L1 (R103). -/
def Device.rpjKick (d : Device) (c : Nat) : Device :=
  let passOf := fun (d : Device) h => (d.head h).rpj
  let runs := fun (d : Device) h => match passOf d h with | some r => r.start.isSome | none => false
  let even := 2 * c
  let soon := d.hasLead even && d.leadValid even && decide (d.beat.clock < d.leadAt even)
    && decide (d.leadAt even < d.beat.clock + (d.rd Reg.BEAT_PRED_ticks - d.beat.stick))
  let start := fun (d : Device) h => match passOf d h with
    | some r =>
      let mask := if r.mask = 0 then 0xFFF else r.mask
      let d := (d.settleUse c).l1DropMask c (d.rpjOn c r)
      let d := d.preemptAll (fun p => p.ch == c && (d.pickHolds p &&& mask) != 0) 3
      (d.modHead h (fun x => { x with rpj := some { r with start := some d.beat.clock } })).showRpj c
    | none => d
  if runs d even || runs d (even + 1) then d
  else if (passOf d even).isSome then start d even
  else if (passOf d (even + 1)).isSome && !soon then start d (even + 1)
  else d

/-- What the lead point of head `h` does (R124). -/
def Device.leadPoint (d : Device) (h : Nat) : Device :=
  let c := h / 2
  let m := h % 2
  let k := d.rpjLayer h
  let x := d.head h
  if x.coming.any (fun p => p.group == k + 1 && !p.rpj) || x.checks.any (fun y => y.groups.testBit (k + 1) && !y.rpj) then d
  else if d.rd (Reg.PWR_DOM_state (2 + c)) ≠ 2 then d.bump (Reg.RAS_RPJ_STAT_late c m)
  else
    match d.layerOwner h k, (x.srcs.find? (fun s => s.1 == k)).map (·.2) with
    | some owner, some ws =>
      if !rpjSource ws then d
      else
        match d.viewBlock h owner with
        | (none, d) => d.bump (Reg.RAS_RPJ_STAT_stale c m)
        | (some _, d) =>
          (d.modHead h (fun x => { x with
            rpj := some { mask := d.rd (Reg.RAS_RPJ_CFG_clusters c m), start := none, words := ws, owner := owner } })).rpjKick c
    | _, _ => d

/-- `RPJ_LEAD_POINT` (R124, R125, R371). -/
def execRpjLeadPoint (h : Nat) (s : State) : Host.Outcome State Fault Refusal :=
  onDev s (fun d =>
    d.when (d.hasLead h && (d.head h).rpj.isNone) (fun d =>
      if !d.leadValid h then d.wr (Reg.RAS_RPJ_STAT_cfg_err (h / 2) (h % 2)) 1
      else ((d.atClock (d.leadAt h)).leadPoint h).rpjKick (h / 2)))

/-! ### The pass -/

/-- A binary32 natural number. -/
def fNat (n : Nat) : Nat := f32.roundInt .near n 0 false

/-- A row of the matrix of a view block applied to a point (R123): products added in order, each step rounded. -/
def viewRow (m : List Byte) (row : Nat) (p : List Nat) : Nat :=
  let t := (List.range 4).map (fun j => f32.mulR .near (leAt m (16 * row + 4 * j) 4) (p.getD j 0))
  (t.drop 1).foldl (fun a b => f32.addR .near a b) (t.getD 0 0)

/-- The source coordinate of q on an axis of `n` pixels (R123). -/
def rpjCoord (q w n : Nat) : Nat :=
  let r := f32.addR .near (f32.divR .near q w) fOne
  f32.addR .near (f32.mulR .near r (f32.divR .near (fNat n) (fNat 2))) 0xBF000000

/-- Where a target pixel comes from: the source coordinates, the fill colour, or a value that the manual leaves open because a
coordinate is not a number. -/
inductive RpjFrom where
  | at (x y : Nat)
  | fill
  | open'

/-- Steps 1, 2 and 4 of R123 for pixel (x, y) of a w × h target. DEDUCED (log entry 59): "more than one pixel outside the source" is a
coordinate, from pixel centres, below -1 or above the source's width or height. -/
def rpjFrom (view : List Byte) (depth w h x y : Nat) : RpjFrom :=
  let ndc := fun i n => f32.addR .near (f32.divR .near (fNat (2 * i + 1)) (fNat n)) 0xBF800000
  let p := [ndc x w, ndc y h, depth, fOne]
  let q := fun r => viewRow view r p
  if f32.isNan (q 3) then .open'
  else if !f32.lt 0 (q 3) then .fill
  else
    let sx := rpjCoord (q 0) (q 3) w
    let sy := rpjCoord (q 1) (q 3) h
    if f32.isNan sx || f32.isNan sy then .open'
    else if f32.lt sx 0xBF800000 || f32.lt sy 0xBF800000 || f32.lt (fNat w) sx || f32.lt (fNat h) sy then .fill
    else .at sx sy

/-- A finite coordinate cut into its integer part and its fraction in 256ths. -/
def cutCoord (u : Nat) : Int × Nat :=
  match f32.decode u with
  | .fin s m e => (toIntR .down s m e, (toIntR .near s m (e + 8) - toIntR .down s m e * 256).toNat)
  | _ => (0, 0)

/-- What marks the lines of L2 that the pass of head `h` dirties: a number that no item reaches. -/
def passTag (h : Nat) : Nat := 2 ^ 64 + h

/-- A texel of the source, its coordinates clamped to the edge; clusters read through L2 (R102). -/
def Device.rpjTexel (d : Device) (i' : Nat) (c : Nat) (l : Layer) (x y : Int) : Except MemErr (List Nat) × Device :=
  let i := (clampInt 0 ((l.w : Int) - 1) x).toNat
  let j := (clampInt 0 ((l.h : Int) - 1) y).toNat
  match d.l2Read c i' (l.addr + l.offset (l.srcX + i) (l.srcY + j)) 4 with
  | (.ok bs, d) => (.ok (pixToF l.fmt (leNat bs)), d)
  | (.error e, d) => (.error e, d)

/-- The source sampled bilinearly (R123). -/
def Device.rpjSample (d : Device) (i : Nat) (c : Nat) (l : Layer) (sx sy : Nat) : Except MemErr Nat × Device :=
  let (x, a) := cutCoord sx
  let (y, b) := cutCoord sy
  let taps := [(256 - a, 256 - b, x, y), (a, 256 - b, x + 1, y), (256 - a, b, x, y + 1), (a, b, x + 1, y + 1)]
  let r := taps.foldl (fun (acc : Except MemErr (List (Nat × List Nat)) × Device) t =>
    match acc with
    | (.error e, d) => (.error e, d)
    | (.ok ts, d) =>
      match d.rpjTexel i c l t.2.2.1 t.2.2.2 with
      | (.ok v, d) => (.ok (ts ++ [(f32.mulR .near (weight t.1) (weight t.2.1), v)]), d)
      | (.error e, d) => (.error e, d)) (.ok [], d)
  match r with
  | (.ok ts, d) => (.ok (fToPix l.fmt 0 15 (mixTerms ts)), d)
  | (.error e, d) => (.error e, d)

/-- One target pixel (R123): computed and written, through L2 (R102). -/
def Device.rpjPixel (d : Device) (h i : Nat) (l : Layer) (view : List Byte) (target x y : Nat) :
    Except MemErr Unit × Device :=
  let c := h / 2
  let m := h % 2
  let (dep, d) : Except MemErr Nat × Device :=
    if d.on (Reg.RAS_RPJ_CFG_depth_en c m) then
      match d.l2Read c i (d.addr64 (Reg.RAS_RPJ_DEPTH_LO c m) (Reg.RAS_RPJ_DEPTH_HI c m)
          + twillOffset l.pitch 32 (l.srcX + x) (l.srcY + y)) 4 with
      | (.ok bs, d) => (.ok (leNat bs), d)
      | (.error e, d) => (.error e, d)
    else (.ok (d.rd (Reg.RAS_RPJ_AGE_plane c m) * 256), d)
  match dep with
  | .error e => (.error e, d)
  | .ok z =>
    let (v, d) : Except MemErr Nat × Device := match rpjFrom view z l.w l.h x y with
      | .at sx sy => d.rpjSample i c l sx sy
      | .fill => (.ok (fToPix l.fmt 0 15 (pixToF 4 (d.rd (Reg.RAS_RPJ_FILL_colour c m)))), d)
      | .open' =>
        let (n, d) := d.free
        (.ok n, d)
    match v with
    | .error e => (.error e, d)
    | .ok p => d.l2Write c i (passTag h) (target + l.offset (l.srcX + x) (l.srcY + y)) (leBytes 4 p)

/-- All pixels of a pass; an access that fails ends it. -/
def Device.rpjPixels (d : Device) (h i : Nat) (l : Layer) (view : List Byte) (target : Nat) :
    List (Nat × Nat) → Except MemErr Unit × Device
  | [] => (.ok (), d)
  | (x, y) :: r =>
    match d.rpjPixel h i l view target x y with
    | (.ok (), d) => d.rpjPixels h i l view target r
    | (.error e, d) => (.error e, d)

/-- The pass of head `h` with the view block that it read and its target: the target is drawn, reaches the system cache, from which
compositors read (R102), and is committed. -/
def rpjDraw (h k target : Nat) (r : RpjPass) (p : Except MemErr (List Byte) × Device) : Device :=
  let c := h / 2
  let m := h % 2
  let l := layerOf r.words
  match p with
  | (.error _, d) => d.raise { fault 0x0B 1 (chanBase c 1) c with sub := h, inst := some r.owner }
  | (.ok view, d) =>
    match d.rpjPixels h r.owner l view target ((List.range l.h).flatMap (fun y => (List.range l.w).map (fun x => (x, y)))) with
    | (.error _, d) => d.raise { fault 0x0B 1 (chanBase c 1) c with sub := h, inst := some r.owner }
    | (.ok (), d) =>
      let ws := r.words.zipIdx.map (fun (w, i) => if i = 4 then w32 target else if i = 5 then w32 (target / 2 ^ 32) else w)
      let d := d.l2CleanItem (passTag h)
      let d := (d.bump (Reg.RAS_RPJ_STAT_done c m)).modHead h (fun x => { x with rpjTarget := x.rpjTarget + 1 })
      d.takeCommit h c 0 (2 ^ (k + 1)) true [(k + 1, ws)] none d.beat.clock

/-- The pass of head `h` runs and its target is committed (R123, R124). -/
def Device.rpjFinish (d : Device) (h : Nat) (r : RpjPass) : Device :=
  let c := h / 2
  let m := h % 2
  let odd := (d.head h).rpjTarget % 2 = 1
  let target := if odd then d.addr64 (Reg.RAS_RPJ_TGT1_LO c m) (Reg.RAS_RPJ_TGT1_HI c m)
    else d.addr64 (Reg.RAS_RPJ_TGT0_LO c m) (Reg.RAS_RPJ_TGT0_HI c m)
  let d' := d.rpjFree h
  rpjDraw h (d.rpjLayer h) target r
    (d'.read (.inst r.owner) (4 + c) (d'.addr64 (Reg.RAS_RPJ_VIEW_LO c m) (Reg.RAS_RPJ_VIEW_HI c m)) 72)

/-- `RPJ_PASS_END` (R124 to R126): the pass of head `h` ends `after` ticks after its start, before the cut-off. It does not end while it
has no cluster to run on. -/
def execRpjPassEnd (h after : Nat) (s : State) : Host.Outcome State Fault Refusal :=
  onDev s (fun d =>
    match (d.head h).rpj with
    | none => d
    | some r =>
      match r.start with
      | none => d
      | some t =>
        let l := layerOf r.words
        let n := clusterCount (d.rpjOn (h / 2) r)
        d.when (decide (0 < n) && decide (2000 + ceilDiv (l.w * l.h) n ≤ after) && decide (t + after < d.cutoffAt h)) (fun d =>
          (((d.atClock (t + after)).rpjFinish h r).showRpj (h / 2)).rpjKick (h / 2)))

end Sys2Proof.Machine
end

