-- ==== Sys2Proof/Machine/Guests.lean ====
section
/-!
DEFINITION. Instances (R293 to R308): mediation calls, shares, freeze, save, restore and reset; enclaves and debug enables (R310,
R312); hand-over between worlds (R313 to R315); lock cells (R316 to R318).
-/

namespace Sys2Proof.Machine

open Sys2Proof

/-! ### Helpers -/

/-- The registers from `lo` to below `hi` at their reset values. -/
def Device.resetRange (d : Device) (lo hi : Nat) : Device :=
  { d with csr := d.csr.filter (fun e => !(decide (lo ≤ e.1) && decide (e.1 < hi)))
           act := d.act.filter (fun e => !(decide (lo ≤ e.1) && decide (e.1 < hi))) }

/-- The state of an instance that admits and runs: RUNNING, or PARKED at weight 0 (R299). -/
def Device.liveState (d : Device) (i : Nat) : Nat := if d.rd (Reg.INST_SHARE_weight i) = 0 then 2 else 1

/-- The state of an instance set. -/
def Device.setState (d : Device) (i st : Nat) : Device := d.wr (Reg.INST_STATE_state i) st

/-- A continuing call of an instance ends (R298). -/
def Device.opEnd (d : Device) (i code : Nat) : Device :=
  (((d.modInst i (fun x => { x with op := none })).wr (Reg.INST_STATE_op_done i) 1).wr (Reg.INST_STATE_op_result i) code).signal 0 2

/-- The token limit of an instance (R302): a burst below the rate counts as the rate. -/
def Device.tokenLimit (d : Device) (i : Nat) : Nat := max (d.rd (Reg.INST_SHARE_burst i)) (d.rd (Reg.INST_RATE_rate i))

/-- The picks of an instance are preempted (R29, R93, R304); a held pick has not started and ends at once. -/
def Device.stopPicks (d : Device) (i : Nat) : Device :=
  let held := d.q.picks.filter (fun p => p.inst == i && p.held)
  let d := held.foldl
    (fun d p => (d.modItem p.item (fun x => { x with stage := 0, slot := if x.started then x.slot else none })).endPick p 4) d
  d.preemptAll (fun p => p.inst == i) 4

/-- At a reset every pick of the instance ends with code 4, also one whose preemption had another cause (R93). -/
def Device.resetCodes (d : Device) (i : Nat) : Device :=
  { d with q := { d.q with picks := d.q.picks.map (fun x : Pick =>
      if x.inst == i then { x with preempt := x.preempt.map (fun t => (4, t.2)) } else x) } }

/-- The FLIP that a head took and no commit has bound returns to the head of its list (R304). -/
def Device.returnTakes (d : Device) (i : Nat) : Device :=
  (List.range 8).foldl
    (fun d h =>
      match (d.head h).taken with
      | some u =>
        if (d.item u).any (fun x => x.inst == i) then
          (d.modItem u (fun x => { x with stage := 0 })).modHead h (fun x => { x with taken := none })
        else d
      | none => d) d

/-- The instance in whose space a chain runs. -/
def Device.chainInst (d : Device) (c : Chain) : Option Nat :=
  match c.src with
  | .item u => (d.item u).map (·.inst)
  | _ =>
    match (d.chainRead c).1 with
    | .ok (_, .inst i, _) => some i
    | _ => none

/-- Whether a copy engine runs a chain of an instance. -/
def Device.copying (d : Device) (i : Nat) : Bool :=
  (List.range 4).any (fun n => match (d.copy n).run with | some c => d.chainInst c == some i | none => false)

/-! ### Shares -/

/-- Credit and tokens at steps 72 to 103 of an edge (R301, R302): pending SHARE calls apply first. -/
def Device.shareEdge (d : Device) : Device :=
  let d := (List.range 32).foldl
    (fun d i =>
      match (d.inst i).share with
      | none => d
      | some (w, r, b) =>
        let d := (((d.modInst i (fun x => { x with share := none })).wr (Reg.INST_SHARE_weight i) w).wr (Reg.INST_RATE_rate i) r).wr
          (Reg.INST_SHARE_burst i) b
        if d.instState i = 1 || d.instState i = 2 then d.setState i (d.liveState i) else d) d
  let d := (List.range 32).foldl
    (fun d i =>
      if d.rd (Reg.INST_RATE_rate i) = 0 then d
      else d.wr (Reg.INST_RATE_tokens i) (min (max (d.tokenLimit i) (d.rd (Reg.INST_RATE_tokens i)))
        (d.rd (Reg.INST_RATE_tokens i) + d.rd (Reg.INST_RATE_rate i)))) d
  let g : Int := 12 * ((d.rd Reg.BEAT_PRED_ticks : Int) - 32136)
  (List.range 4).foldl
    (fun d c =>
      let live := (List.range 32).filter (fun i => d.instState i == 1 && d.serves c i)
      let w := (live.map (fun i => d.rd (Reg.INST_SHARE_weight i))).sum
      (List.range 32).foldl
        (fun d i =>
          let f := Reg.INST_CREDIT_credit i c
          let more : Int := if live.contains i then (d.rd (Reg.INST_SHARE_weight i) : Int) * g / max 1 w else 0
          if more = 0 && d.rd f = 0 then d
          else d.wr f (wrapInt 32 (clampInt (-(4 * g)) (4 * g) (sextNat 32 (d.rd f) + more)))) d) d

/-! ### Freeze -/

/-- FREEZE (R304): admission stops and the picks of the instance are preempted. -/
def Device.freezeInst (d : Device) (i : Nat) : Device :=
  let d := (d.modInst i (fun x => { x with op := some 5 })).setState i 3
  (d.stopPicks i).returnTakes i

/-- Whether work of a freezing instance is still under way (R304). -/
def Device.draining (d : Device) (i : Nat) : Bool :=
  d.q.picks.any (fun p => p.inst == i) || d.copying i
    || (List.range 4).any (fun c => match d.ctx c with | some x => x.inst == i | none => false)
    || d.q.items.any (fun x => x.inst == i && (x.stage == 5 || x.stage == 3))

/-- The freeze ends (R111, R304): the decided records are written, the slots of the items are free, and the instance is FROZEN. -/
def Device.freezeDone (d : Device) (i : Nat) : Device :=
  let d := (d.flush i).setState i 4
  let d := { d with q := { d.q with items := d.q.items.map (fun x => if x.inst == i then { x with slot := none } else x) } }
  let d := (List.range 4).foldl Device.showSlots d
  (d.modInst i (fun x => { x with frozenAt := d.beatTime })).opEnd i resOk

/-- `FREEZE_DONE` (R304). -/
def execFreezeDone (i : Nat) (s : State) : Host.Outcome State Fault Refusal :=
  onDev s (fun d => d.when (d.instState i == 3 && !d.draining i) (fun d => d.freezeDone i))

/-! ### Reset -/

/-- The owner entries of an instance are no longer valid (R303): its layers show as disabled from the next latch line. -/
def Device.disown (d : Device) (i : Nat) : Device :=
  (List.range 32).foldl
    (fun d k =>
      let a := Reg.CMP_OWN (k / 4) (k % 4)
      d.setReg a ((List.range 4).foldl
        (fun (w : Word) j =>
          if wbits w (8 * j + 4) (8 * j) = i then w32 (putBits w.toNat (8 * j + 7) (8 * j + 7) 0) else w) (d.reg a))) d

/-- Writeback into the space of an instance, and its streams and captures, are off (R303). -/
def Device.detach (d : Device) (i : Nat) : Device :=
  let d := (List.range 8).foldl (fun d h => if d.rd (Reg.CMP_WB_CFG_inst h) = i then d.wbOff h else d) d
  (List.range 16).foldl
    (fun d n =>
      let d := if d.rd (Reg.AUD_MS_CFG_inst n) = i then d.wr (Reg.AUD_MS_CFG_enable n) 0 else d
      if d.rd (Reg.AUD_MC_CFG_inst n) = i then d.wr (Reg.AUD_MC_CFG_enable n) 0 else d) d

/-- The retire records due to an instance are discarded, and the buffers of it that are still shown make none (R303). -/
def Device.dropRetires (d : Device) (i : Nat) : Device :=
  let d := (List.range 8).foldl (fun d h => d.modHead h (fun x => { x with bufs := x.bufs.filter (fun b => b.2.2 != i) })) d
  (List.range 4).foldl
    (fun d c => (d.modCmp c (fun m => { m with recs := m.recs.filter (fun r => r.owner != i) })).showReserved c) d

/-- RESET of an instance (R303, R93): its picks are preempted; the rest follows their release. -/
def Device.resetInst (d : Device) (i : Nat) : Device :=
  if d.instState i = 0 then d
  else
    let d := (d.modInst i (fun x => { x with op := none })).setState i 5
    ((((d.stopPicks i).resetCodes i).disown i).detach i).dropRetires i

/-- The completion of an item of an instance under reset (R92, R303). -/
def Device.resetItem (d : Device) (x : Item) : Device :=
  if x.started then
    match d.ctxOf x.uid with
    | some _ => d.endItem x.uid stAbandoned 1 4
    | none => ((d.dropRun x.uid).l2CleanItem x.uid).complete x.uid stAbandoned 1
  else d.complete x.uid stCancelled 1

/-- What a head still holds of the FLIP items of an instance is forgotten. -/
def Device.dropTakes (d : Device) (i : Nat) : Device :=
  (List.range 8).foldl
    (fun d h => d.modHead h (fun x => { x with
      taken := match x.taken with | some u => if (d.item u).any (fun y => y.inst == i) then none else some u | none => none })) d

/-- The end of a reset (R93, R303): every record is written, then the queue page is cleared, and the instance is STOPPED. DEDUCED (log entry
121): records that a write fault holds are dropped with the ring that they were for. -/
def Device.resetDone (d : Device) (i : Nat) : Device :=
  let d := d.dropTakes i
  let d := (d.q.items.filter (fun x => x.inst == i)).foldl Device.resetItem d
  let d := d.flush i
  let d := { d with q := { d.q with
    held := d.q.held.filter (fun h => h.inst != i)
    prod := d.q.prod.filter (fun e => e.1 / 16 != i)
    turn := d.q.turn.filter (fun e => e.1 != i)
    unsig := d.q.unsig.filter (fun e => e.1 != i) } }
  let d := d.resetRange (Reg.INST_Q_BASE_LO i 0) (Reg.INST_Q_BASE_LO i 0 + 0x1000)
  let d := d.wr (Reg.INST_RATE_tokens i) (d.tokenLimit i)
  let d := (List.range 4).foldl (fun d c => (d.wr (Reg.INST_CREDIT_credit i c) 0).showSlots c) d
  (d.setState i 0).showEntries i

/-- `RESET_DRAIN_DONE` (R93): every cluster of the instance's picks is released and no chain of it runs. -/
def execResetDrainDone (i : Nat) (s : State) : Host.Outcome State Fault Refusal :=
  onDev s (fun d =>
    d.when (d.instState i == 5 && !d.q.picks.any (fun p => p.inst == i) && !d.copying i) (fun d => d.resetDone i))

/-! ### Images -/

/-- A word of the queue page of instance `i` as a read returns it. -/
def Device.pageWord (d : Device) (i k : Nat) : Nat := (d.reg (Reg.INST_Q_BASE_LO i 0 + 4 * k)).toNat

/-- The queue state of an image (R306). -/
def Device.imageQueues (d : Device) (i : Nat) : List Byte :=
  (List.range 264).flatMap (fun k => leBytes 4 (d.pageWord i k)) ++ (List.range 16).flatMap (fun n => leBytes 4 (d.prodOf i n))
    ++ List.replicate 32 0#8

/-- The admitted items of an instance, queue by queue in admission order. -/
def Device.imageItems (d : Device) (i : Nat) : List Item := (List.range 16).flatMap (fun n => d.queueItems i n)

/-- Whether an item has a save area: a started RENDER or COMPUTE item. -/
def Item.saved (x : Item) : Bool := x.started && x.renders

/-- The entry of an item in an image (R306): `area` is its save area number. -/
def imageItem (x : Item) (area : Nat) : List Byte :=
  x.desc.take 64 ++ leBytes 4 (x.queue + b2n x.started * 256 + b2n x.preempted * 512) ++ leBytes 4 x.picks ++ leBytes 4 x.ovf
    ++ leBytes 4 area ++ leBytes 8 x.time ++ List.replicate 40 0#8

/-- The entries of items in order, with the numbers of their save areas. -/
def imageEntries : List Item → Nat → List Byte
  | [], _ => []
  | x :: xs, k => if x.saved then imageItem x k ++ imageEntries xs (k + 1) else imageItem x 0xFFFFFFFF ++ imageEntries xs k

/-- The bytes of a save area as the last preemption wrote them (R109, R306); the raster engine remembers what it restores from them (log
entry 44). -/
def Device.areaBytes (d : Device) (x : Item) : List Byte × Device :=
  match d.run x.uid with
  | none => ([], d)
  | some r =>
    let bs := (List.range r.area).map (Config.poolByte (d.saveList x.uid r))
    (bs, { d with ras := { d.ras with areas := d.ras.areas ++
      [{ bytes := bs, run := r, waves := d.ras.waves.filter (fun w => w.uid == x.uid),
         groups := d.ras.groups.filter (fun g => g.uid == x.uid) }] } })

/-- The save areas appended to an image, each on a 4 KiB boundary, after the number of its item and its length (R306; log entry 79). -/
def Device.imageAreas (d : Device) (img : List Byte) : List (Item × Nat) → List Byte × Device
  | [] => (img, d)
  | (x, k) :: xs =>
    let (bs, d) := d.areaBytes x
    let pad := List.replicate ((4096 - img.length % 4096) % 4096) 0#8
    d.imageAreas (img ++ pad ++ leBytes 8 k ++ leBytes 8 bs.length ++ bs) xs

/-- The header of an image without its CRC (R306). -/
def Device.imageHeader (d : Device) (i size items held areas : Nat) : List Byte :=
  leBytes 4 0x4B494D47 ++ leBytes 4 1 ++ leBytes 8 size
    ++ leBytes 4 (i + d.rd (Reg.INST_STATE_channels i) * 256 + d.rd (Reg.INST_QUOTA_quota i) * 65536)
    ++ leBytes 4 (d.rd (Reg.INST_SHARE_weight i) + d.rd (Reg.INST_SHARE_burst i) * 65536)
    ++ leBytes 4 (d.rd (Reg.INST_RATE_rate i) + d.rd (Reg.INST_RATE_tokens i) * 65536) ++ leBytes 4 (items + held * 65536)
    ++ leBytes 4 areas ++ leBytes 4 (d.inst i).pasid ++ leBytes 8 (d.inst i).frozenAt ++ leBytes 8 (d.inst i).root ++ leBytes 4 0

/-- The instance image (R306). -/
def Device.image (d : Device) (i : Nat) : List Byte × Device :=
  let xs := d.imageItems i
  let held := (d.q.held.filter (fun h => h.inst == i)).map (·.bytes)
  let areas := xs.zipIdx.filter (·.1.saved)
  let body := d.imageQueues i ++ imageEntries xs 0 ++ held.flatten
  let (img, d) := d.imageAreas (List.replicate 64 0#8 ++ body) areas
  let h := d.imageHeader i img.length xs.length held.length areas.length
  let crc := crc32c (h ++ leBytes 4 0 ++ img.drop 64)
  (h ++ leBytes 4 crc ++ img.drop 64, d)

/-- SAVE ends (R306). -/
def Device.saveDone (d : Device) (i : Nat) : Device :=
  let (a, size) := (d.inst i).opArg
  let (img, d) := d.image i
  if size < img.length then d.opEnd i resInvalid
  else
    match d.write (.inst 0) 8 a img with
    | (.ok (), d) => d.opEnd i resOk
    | (.error _, d) => (d.raise { fault 0x0B 1 0x600000 i with inst := some 0, addr := a }).opEnd i resInvalid

/-- `SAVE_DONE` (R306). -/
def execSaveDone (i : Nat) (s : State) : Host.Outcome State Fault Refusal :=
  onDev s (fun d => d.when ((d.inst i).op == some 6 && d.instState i == 4) (fun d => d.saveDone i))

/-- Whether an image is one that RESTORE takes (R307). -/
def imageOk (img : List Byte) (quota : Nat) : Bool :=
  leAt img 0 4 == 0x4B494D47 && leAt img 4 4 == 1
    && leAt img 0x3C 4 == crc32c (img.take 0x3C ++ leBytes 4 0 ++ img.drop 0x40) && decide (leAt img 0x1C 2 ≤ quota)

/-- The save areas of an image, from offset `o` on: their bytes. -/
def areasOf (img : List Byte) : Nat → Nat → List (List Byte)
  | 0, _ => []
  | n + 1, o =>
    let p := (o + 4095) / 4096 * 4096
    let len := leAt img (p + 8) 8
    (img.drop (p + 16)).take len :: areasOf img n (p + 16 + len)

/-- A free work slot of the channels that serve an instance. -/
def Device.slotFor (d : Device) (i : Nat) : Option SlotRef :=
  (List.range 4).findSome? (fun c => if d.serves c i then (d.freeSlot c).map (fun k => ({ ch := c, slot := k } : SlotRef)) else none)

/-- The free work slots of the channels that serve an instance. -/
def Device.slotsFree (d : Device) (i : Nat) : Nat :=
  (((List.range 4).filter (fun c => d.serves c i)).map (fun c =>
    ((List.range (d.rd (Reg.RAS_SLOT_CFG_count c))).filter (fun k => !(d.slotsHeld c).contains k)).length)).sum

/-- The state that a save area stands for taken up by item `u` on channel `c`; an area of another D8 leaves the item at its
first packet, since the manual gives no layout of it. -/
def Device.restoreArea (d : Device) (u c : Nat) (bs : List Byte) : Device :=
  match d.ras.areas.find? (fun a => a.bytes == bs) with
  | none => { d with ras := { d.ras with runs := d.ras.runs ++ [Run.fresh u c] } }
  | some a =>
    let b := d.ras.nextWave
    let top := (a.waves.map (fun w => max w.id w.group) ++ a.groups.map (·.id)).foldl max 0
    { d with ras := { d.ras with
        nextWave := b + top + 1
        runs := d.ras.runs ++ [{ a.run with uid := u, ch := c }]
        waves := d.ras.waves ++ a.waves.map (fun w => { w with id := b + w.id, uid := u, ch := c, group := b + w.group, cluster := none })
        groups := d.ras.groups ++ a.groups.map (fun g => { g with id := b + g.id, uid := u }) } }

/-- One item of an image restored (R307): its deadline moves by `delta`. -/
def Device.restoreItem (d : Device) (i delta : Nat) (areas : List (List Byte)) (b : List Byte) : Device :=
  let desc := b.take 64
  let desc := if bitOn (leAt desc 1 1) 0 then
      desc.take 8 ++ leBytes 8 ((leAt desc 8 8 + delta) % 2 ^ 64) ++ desc.drop 16
    else desc
  let fl := leAt b 0x40 4
  let started := bitOn fl 8
  let area := leAt b 0x4C 4
  let slot := if area = 0xFFFFFFFF then none else d.slotFor i
  let (first, d) := if started then (let (v, d) := d.free; (some v, d)) else (none, d)
  let u := d.q.nextUid
  let x : Item :=
    { uid := u, inst := i, queue := fl % 16, desc := desc, time := leAt b 0x50 8, started := started, preempted := bitOn fl 9,
      picks := leAt b 0x44 4, ovf := leAt b 0x48 4, firstAt := first, slot := slot, stage := 0 }
  let d := { d with q := { d.q with items := d.q.items ++ [x], nextUid := u + 1 } }
  match slot with
  | some s =>
    let bs := areas.getD area []
    (((d.write .securePhys 8 (d.slotBase s) bs).2).restoreArea u s.ch bs).showSlots s.ch
  | none => d

/-- The offsets of the registers of a queue page that hold state. -/
def pageRegs : List Nat :=
  (List.range 16).flatMap (fun n => [n * 0x20, n * 0x20 + 4, n * 0x20 + 8, n * 0x20 + 0x10, n * 0x20 + 0x14])
    ++ [0x400, 0x404, 0x408, 0x40C, 0x410, 0x414, 0x418]

/-- An image restored into a STOPPED instance (R307). -/
def Device.restoreImage (d : Device) (i : Nat) (img : List Byte) : Device :=
  let n := leAt img 0x1C 2
  let m := leAt img 0x1E 2
  let k := leAt img 0x20 2
  let delta := (d.beatTime + 2 ^ 64 - leAt img 0x28 8) % 2 ^ 64
  let areas := areasOf img k (64 + 1152 + 128 * n + 32 * m)
  let d := (((d.wr (Reg.INST_SHARE_weight i) (leAt img 0x14 1)).wr (Reg.INST_SHARE_burst i) (leAt img 0x16 2)).wr
    (Reg.INST_RATE_rate i) (leAt img 0x18 2)).wr (Reg.INST_RATE_tokens i) (leAt img 0x1A 2)
  let d := pageRegs.foldl (fun d o => d.setReg (Reg.INST_Q_BASE_LO i 0 + o) (w32 (leAt img (64 + o) 4))) d
  let d := (List.range 16).foldl (fun d q => d.setProd i q (leAt img (64 + 0x420 + 4 * q) 4)) d
  let d := (List.range n).foldl (fun d j => d.restoreItem i delta areas ((img.drop (1216 + 128 * j)).take 128)) d
  let held := (List.range m).map (fun j => (⟨i, false, (img.drop (1216 + 128 * n + 32 * j)).take 32⟩ : Held))
  let d := { d with q := { d.q with held := d.q.held ++ held } }
  let d := (d.wr (Reg.INST_REBASE_LO_delta_lo i) delta).wr (Reg.INST_REBASE_HI_delta_hi i) (delta / 2 ^ 32)
  ((d.setState i (d.liveState i)).flush i).showEntries i

/-- RESTORE ends (R307). -/
def Device.restoreDone (d : Device) (i : Nat) : Device :=
  let a := (d.inst i).opArg.1
  let bad := fun (d : Device) => (d.raise { fault 0x0B 1 0x600000 i with inst := some 0, addr := a }).opEnd i resInvalid
  match d.read (.inst 0) 8 a 64 with
  | (.error _, d) => bad d
  | (.ok h, d) =>
    if leAt h 0 4 != 0x4B494D47 || leAt h 8 8 < 1216 then d.opEnd i resInvalid
    else
      match d.read (.inst 0) 8 a (leAt h 8 8) with
      | (.error _, d) => bad d
      | (.ok img, d) =>
        if !imageOk img (d.rd (Reg.INST_QUOTA_quota i)) then d.opEnd i resInvalid
        else if d.slotsFree i < leAt img 0x20 2 then d.opEnd i resBusy
        else (d.restoreImage i img).opEnd i resOk

/-- `RESTORE_DONE` (R307). -/
def execRestoreDone (i : Nat) (s : State) : Host.Outcome State Fault Refusal :=
  onDev s (fun d => d.when ((d.inst i).op == some 7 && d.instState i == 0) (fun d => d.restoreDone i))

/-! ### Mediation calls -/

/-- Argument `j` of a mediation call. -/
def Device.medArg (d : Device) (j : Nat) : Nat := d.rd (Reg.INST_MED_ARG_value j)

/-- The 64-bit argument in ARG_j and ARG_(j+1). -/
def Device.medArg64 (d : Device) (j : Nat) : Nat := d.medArg j + d.medArg (j + 1) * 2 ^ 32

/-- Whether the arguments of a call are in range (R299, check 2). -/
def Device.medArgsOk (d : Device) (code : Nat) : Bool :=
  let a0 := d.medArg 0
  let a1 := d.medArg 1
  match code with
  | 0x01 =>
    decide (a0 < 32) && bits a1 3 0 != 0 && bits a1 15 4 == 0 && bits a1 31 28 == 0 && bits a1 27 16 != 0
      && decide (bits a1 27 16 ≤ 2048) && d.medArg 2 % 4096 == 0 && decide (d.medArg 4 < 2 ^ 20)
  | 0x03 => decide (a0 < 32) && decide (a1 < 256)
  | 0x0A => decide (a0 < 32) && decide (a1 < 16)
  | 0x0B =>
    decide (a0 < 32) && bits (d.medArg 3) 30 5 == 0 && decide (6 ≤ bits (d.medArg 3) 4 0) && decide (bits (d.medArg 3) 4 0 ≤ 20)
  | 0x0C => decide (a0 < 8) && bits a1 30 5 == 0
  | _ => decide (a0 < 32)

/-- The instance that a call names. -/
def Device.medInst (d : Device) (code : Nat) : Nat := if code = 0x0C then bits (d.medArg 1) 4 0 else d.medArg 0

/-- Whether a call reaches for the legacy partition in LEGACY or MIXED mode (R427): SETUP that names CH0 or CH1, HEADVEC for H0 to
H3. -/
def Device.medLegacy (d : Device) (code : Nat) : Bool :=
  d.mode != .native && ((code == 0x01 && bits (d.medArg 1) 1 0 != 0) || (code == 0x0C && decide (d.medArg 0 < 4)))

/-- Whether the state of the instance and the mode allow a call (R299, check 4, and R427). -/
def Device.medStateOk (d : Device) (code i : Nat) : Bool :=
  let st := d.instState i
  let notManager := i != 0
  !d.medLegacy code &&
  match code with
  | 0x01 => st == 0
  | 0x02 => st == 0 && (d.inst i).setup
  | 0x03 => st == 1 || st == 2 || st == 4
  | 0x05 => notManager && (st == 1 || st == 2)
  | 0x06 => notManager && st == 4
  | 0x07 => notManager && st == 0 && (d.inst i).setup
  | 0x08 => notManager && st == 4
  | 0x09 => notManager
  | 0x0A => st == 1 || st == 2
  | _ => true

/-- Whether a translation is one of a range of an instance; 0 pages are all. -/
def TlbEntry.within (e : TlbEntry) (i a pages : Nat) : Bool :=
  e.inst == i && (pages == 0 || (decide (a / 4096 ≤ e.page) && decide (e.page < a / 4096 + pages)))

/-- Whether a line lies in the frame of a translation. -/
def TlbEntry.holds (e : TlbEntry) (key : Nat) : Bool := key / 64 == e.frame && (key % 2 == 1) == e.host

/-- The cached translations of a range of an instance removed, and every access through them ended: what L2 still holds for memory is
written back (R297). -/
def Device.inval (d : Device) (i a pages : Nat) : Device :=
  let old := d.mems.tlb.filter (fun e => e.within i a pages)
  let d := (List.range 4).foldl (fun d c => d.l2Clean c (fun l => old.any (fun e => e.holds l.key))) d
  { d with mems := { d.mems with tlb := d.mems.tlb.filter (fun e => !e.within i a pages) } }

/-- The sum of the item quotas of the instances other than `i`. -/
def Device.otherQuotas (d : Device) (i : Nat) : Nat :=
  (((List.range 32).filter (fun j => j != i)).map (fun j => d.rd (Reg.INST_QUOTA_quota j))).sum

/-- The settings of SETUP recorded (R299). -/
def Device.setupInst (d : Device) (i : Nat) : Device :=
  let a1 := d.medArg 1
  let d := d.modInst i (fun x => { x with setup := true, root := d.medArg64 2, pasid := d.medArg 4 })
  let d := (d.wr (Reg.INST_STATE_channels i) (bits a1 3 0)).wr (Reg.INST_QUOTA_quota i) (bits a1 27 16)
  (((d.wr (Reg.INST_SHARE_weight i) 0).wr (Reg.INST_SHARE_burst i) 0).wr (Reg.INST_RATE_rate i) 0).wr (Reg.INST_RATE_tokens i) 0

/-- The dirty log of an instance configured (R308). -/
def Device.dlogInst (d : Device) (i : Nat) : Device :=
  let a3 := d.medArg 3
  if bitOn a3 31 then
    ((d.modInst i (fun x => { x with dlogBase := d.medArg64 1, dlogLog2 := bits a3 4 0 })).wr (Reg.INST_DLOG_enable i) 1).wr
      (Reg.INST_DLOG_prod i) 0
  else d.wr (Reg.INST_DLOG_enable i) 0

/-- The events of a head routed to an instance, or to nobody (R299). -/
def Device.headvec (d : Device) (h : Nat) (fn : Option Nat) : Device :=
  { d with headVec := tset (fun _ => none) d.headVec h fn }

/-- The effect of a call that passed its checks, with its result (R299, check 5 on). -/
def Device.medDo (d : Device) (code i : Nat) : Nat × Device :=
  match code with
  | 0x01 => if 2048 < d.otherQuotas i + bits (d.medArg 1) 27 16 then (resInvalid, d) else (resOk, d.setupInst i)
  | 0x02 => (resOk, (d.setState i (d.liveState i)).showEntries i)
  | 0x03 =>
    (resOk, d.modInst i (fun x => { x with
      share := some (d.medArg 1, bits (d.medArg 2) 15 0, bits (d.medArg 2) 31 16) }))
  | 0x04 => (resOk, d.inval i (d.medArg64 1) (d.medArg 3))
  | 0x05 => (resOk, d.freezeInst i)
  | 0x06 => (resOk, d.modInst i (fun x => { x with op := some 6, opArg := (d.medArg64 1, d.medArg 3) }))
  | 0x07 => (resOk, d.modInst i (fun x => { x with op := some 7, opArg := (d.medArg64 1, 0) }))
  | 0x08 => (resOk, (d.setState i (d.liveState i)).showEntries i)
  | 0x09 => (resOk, d.resetInst i)
  | 0x0A => (resOk, (d.cancelQueue i (d.medArg 1) 3).showEntries i)
  | 0x0B => (resOk, d.dlogInst i)
  | _ => (resOk, d.headvec (d.medArg 0) (if bitOn (d.medArg 1) 31 then some i else none))

/-- A mediation call decided (R298, R299): the first check that applies gives the result. -/
def Device.medCall (d : Device) (code : Nat) : Device := d.when d.hostUp (fun d =>
  let i := d.medInst code
  let (r, d) :=
    if code = 0 || 0x0C < code then (resInvalid, d)
    else if !d.medArgsOk code then (resInvalid, d)
    else if (d.inst i).op.isSome then (resBusy, d)
    else if !d.medStateOk code i then (resDenied, d)
    else d.medDo code i
  (d.wr Reg.INST_MED_STAT_result r).wr Reg.INST_MED_STAT_busy 0)

/-- `MED_CALL` (R298): the manager writes a code with go. -/
def execMedCall (code : Nat) (s : State) : Host.Outcome State Fault Refusal := onDev s (fun d => d.medCall (code % 256))

/-- `SETUP` (R299). -/
def execSetup (s : State) : Host.Outcome State Fault Refusal := onDev s (fun d => d.medCall 0x01)

/-- `START` (R299). -/
def execStart (s : State) : Host.Outcome State Fault Refusal := onDev s (fun d => d.medCall 0x02)

/-- `SHARE` (R299, R302). -/
def execShare (s : State) : Host.Outcome State Fault Refusal := onDev s (fun d => d.medCall 0x03)

/-- `INVAL` (R297, R299). -/
def execInval (s : State) : Host.Outcome State Fault Refusal := onDev s (fun d => d.medCall 0x04)

/-- `FREEZE` (R299, R304). -/
def execFreeze (s : State) : Host.Outcome State Fault Refusal := onDev s (fun d => d.medCall 0x05)

/-- `SAVE` (R299, R306). -/
def execSave (s : State) : Host.Outcome State Fault Refusal := onDev s (fun d => d.medCall 0x06)

/-- `RESTORE` (R299, R307). -/
def execRestore (s : State) : Host.Outcome State Fault Refusal := onDev s (fun d => d.medCall 0x07)

/-- `THAW` (R299). -/
def execThaw (s : State) : Host.Outcome State Fault Refusal := onDev s (fun d => d.medCall 0x08)

/-- `RESET` of an instance (R299, R303). -/
def execReset (s : State) : Host.Outcome State Fault Refusal := onDev s (fun d => d.medCall 0x09)

/-- `CANCEL` (R299). -/
def execCancel (s : State) : Host.Outcome State Fault Refusal := onDev s (fun d => d.medCall 0x0A)

/-- `DLOG` (R299, R308). -/
def execDlog (s : State) : Host.Outcome State Fault Refusal := onDev s (fun d => d.medCall 0x0B)

/-- `HEADVEC` (R299). -/
def execHeadvec (s : State) : Host.Outcome State Fault Refusal := onDev s (fun d => d.medCall 0x0C)

/-- The function-level reset of PF0 (R299, R477). -/
def Device.resetHost (d : Device) : Device :=
  (((List.range 32).foldl (fun d i => d.resetInst i) d).abandonLocks 0x10).dropGuards .manager

/-- `FUNCTION_LEVEL_RESET` (R299): of a virtual function as RESET of its instance, of PF0 as RESET of every instance, with
the manager's lock cells released as abandoned. -/
def execFunctionLevelReset (fn : Nat) (s : State) : Host.Outcome State Fault Refusal :=
  onDev s (fun d => if fn = 0 then d.resetHost else d.when (fn < 32) (fun d => (d.resetInst fn).dropGuards (.guest fn)))

/-- `HOST_ATS_INVAL` (R296): a host invalidation of `pages` pages of a PASID from a page on. -/
def execHostAtsInval (fn pasid page pages : Nat) (s : State) : Host.Outcome State Fault Refusal :=
  onDev s (fun d => d.when d.hostUp (fun d =>
    { d with mems := { d.mems with ats := d.mems.ats.filter (fun e =>
        !(e.fn == fn && e.pasid == pasid && decide (page ≤ e.page) && decide (e.page < page + pages))) } }))

/-! ### Enclaves and debug enables -/

/-- Whether enclave `e` as written overlaps another enabled one or passes the capacity (R310). -/
def Device.encBad (d : Device) (e : Nat) : Bool :=
  decide (d.capacity < d.encBase e + d.encSize e)
    || (List.range 16).any (fun f =>
      f != e && d.on (Reg.WLD_ENC_CFG_valid f) && decide (d.encBase f < d.encBase e + d.encSize e)
        && decide (d.encBase e < d.encBase f + d.encSize f))

/-- A secure write of a register of enclave `e` (R310): word 0 is LO, 1 HI, 2 CFG. A locked enclave does not change. -/
def Device.encWrite (d : Device) (e word : Nat) (v : Word) : Device :=
  if d.on (Reg.WLD_ENC_CFG_lock e) then d
  else
    let d := match word with
      | 0 => d.setReg (Reg.WLD_ENC_LO e) (v &&& 0xFFE00000#32)
      | 1 => d.setReg (Reg.WLD_ENC_HI e) v
      | _ => d.setReg (Reg.WLD_ENC_CFG e) (v &&& 0xC000FFFF#32)
    if d.on (Reg.WLD_ENC_CFG_valid e) && d.encBad e then
      (d.wr (Reg.WLD_ENC_CFG_valid e) 0).wr Reg.WLD_STATUS_enc_cfg_err 1
    else d

/-- `ENCLAVE_CFG_WRITE` (R310, R320): a write of WLD_ENC_e_CFG; the normal world's is ignored. -/
def execEnclaveCfgWrite (ag : Agent) (e : Nat) (value : Word) (s : State) : Host.Outcome State Fault Refusal :=
  onDev s (fun d =>
    if agentSecure ag then d.when (e < 16) (fun d => d.encWrite e 2 value) else d)

/-- A write of WLD_DBG by the secure world (R312, R329): a cleared enable stops at once, a set one starts at the next reset. -/
def Device.dbgWrite (d : Device) (v : Word) : Device :=
  let d := d.wr Reg.WLD_DBG_in_effect (d.rd Reg.WLD_DBG_in_effect &&& wbits v 3 0)
  d.rwpRequest true Reg.WLD_DBG v.toNat

/-- `WLD_DBG_WRITE` (R312). -/
def execWldDbgWrite (ag : Agent) (value : Word) (s : State) : Host.Outcome State Fault Refusal :=
  onDev s (fun d => if agentSecure ag then d.dbgWrite value else d)

/-! ### Hand-over -/

/-- The owner field of a block that changes world (R313). -/
def hoField (kind unit : Nat) : Fld :=
  match kind with
  | 0 => Reg.TCH_CFG_sec unit
  | 1 => Reg.HAP_CFG_sec unit
  | 2 => Reg.AUD_GEN_CFG_sec unit
  | _ => Reg.WLD_LOCK_STAT_secure unit

/-- The units of each kind of block. -/
def hoUnits (kind : Nat) : Nat :=
  match kind with
  | 0 => 4
  | 1 => 8
  | 2 => 8
  | 3 => 64
  | _ => 0

/-- BUSY of the blocks follows the hand-overs that run. -/
def Device.showHandover (d : Device) : Device :=
  (d.wr Reg.WLD_HO_STAT_busy (b2n (!d.handovers.isEmpty))).showBusy

/-- The secure world writes an owner field (R314): a change starts a hand-over. -/
def Device.handoverStart (d : Device) (kind unit : Nat) (secure : Bool) : Device :=
  if hoUnits kind ≤ unit || d.on (hoField kind unit) == secure || d.handovers.any (fun h => h.kind == kind && h.unit == unit) then d
  else
    let d := if kind = 3 then
        d.wr ⟨Reg.WLD_LOCK_WORLD (unit / 32), unit % 32, unit % 32⟩ (b2n secure)
      else d
    { d with handovers := d.handovers ++ [({ kind := kind, unit := unit, secure := secure } : Handover)] }.showHandover

/-- `HANDOVER_START` (R314). -/
def execHandoverStart (ag : Agent) (kind unit : Nat) (secure : Bool) (s : State) : Host.Outcome State Fault Refusal :=
  onDev s (fun d => if agentSecure ag then d.handoverStart kind unit secure else d)

/-- The reset of a haptic channel and of the triggers that name it (R313): ΔT, calibration results and history stay. -/
def Device.hoHaptic (d : Device) (n : Nat) : Device :=
  let x := d.hap n
  let d := match x.splice with | some (f, _) => d.hapReport n f 5 | none => d
  let d := match x.queued with | some f => d.hapReport n f 5 | none => d
  let d := (d.modHap n (fun x => { x with queued := none, splice := none })).hapEnd n 2
  let keep := [Reg.HAP_RES n, Reg.HAP_RES2 n, Reg.HAP_CAL n].map (fun a => (a, d.reg a))
  let d := d.resetRange (Reg.HAP_CFG n) (Reg.HAP_CFG n + 0x40)
  let d := keep.foldl (fun d e => d.setReg e.1 e.2) d
  let d := d.modHap n (fun x => { Hap.reset with dt := x.dt })
  ((List.range 8).filter (fun t => d.rd (Reg.HAP_TRIG_CFG_channel t) == n)).foldl
    (fun d t => (d.resetRange (Reg.HAP_TRIG_CFG t) (Reg.HAP_TRIG_CFG t + 0x10)).modTrig t (fun _ => Trig.reset)) d

/-- Work in flight ends and the block resets (R313, R314). -/
def Device.hoReset (d : Device) (h : Handover) : Device :=
  match h.kind with
  | 0 => (d.resetRange (Reg.TCH_CFG h.unit) (Reg.TCH_CFG h.unit + 0x40)).modFront h.unit (fun _ => Front.reset) |>.gangUpper h.unit
  | 1 => d.hoHaptic h.unit
  | 2 =>
    let d := (d.setGen h.unit none).resetRange (Reg.AUD_GEN_CFG h.unit) (Reg.AUD_GEN_CFG h.unit + 0x10)
    { d with aud := { d.aud with reqs := tset (fun _ => []) d.aud.reqs h.unit [] } }
  | _ => (d.abandonLock h.unit).wr (Reg.WLD_LOCK_STAT_abandoned h.unit) 0

/-- The base of the block that a hand-over names. -/
def hoBlock (kind : Nat) : Nat :=
  match kind with
  | 0 => 0xC00000
  | 1 => 0xD00000
  | 2 => 0xB00000
  | _ => 0x500000

/-- A hand-over ends (R314): the new owner takes the block, and the manager is told. -/
def Device.handoverDone (d : Device) (kind unit : Nat) : Device :=
  match d.handovers.find? (fun h => h.kind == kind && h.unit == unit) with
  | none => d
  | some h =>
    let d := (d.hoReset h).wr (hoField kind unit) (b2n h.secure)
    let d := { d with handovers := d.handovers.filter (fun x => x != h) }
    ((d.count Reg.WLD_HO_STAT_count).showHandover).raise (fault 0x11 1 (hoBlock kind) unit)

/-! ### Lock cells -/

/-- A force release of cell `k` (R317): by the manager of a normal cell, by the secure world of any. -/
def Device.lockForce (d : Device) (ag : Agent) (k : Nat) : Nat × Device :=
  match d.handovers.find? (fun h => h.kind == 3 && h.unit == k) with
  | some h => (if agentSecure ag == h.secure then resBusy else resDenied, d)
  | none =>
    if d.on (Reg.WLD_LOCK_STAT_secure k) && !agentSecure ag then (resDenied, d) else (resOk, d.abandonLock k)

/-- A command written to WLD_LOCK_k_CMD by an agent (R316): 1 acquire, 2 release, 3 force release, 0 nothing. -/
def Device.lockCmd (d : Device) (ag : Agent) (k cmd : Nat) : Device :=
  if cmd = 0 || 63 < k then d
  else
    let (r, d) := if cmd = 1 then d.lockAcquire ag k else if cmd = 2 then d.lockRelease ag k else d.lockForce ag k
    d.wr (Reg.WLD_LOCK_CMD_result k) r

/-- Whether an agent commands lock cells through their registers (R316). -/
def mayLock (ag : Agent) : Bool := ag == .manager || ag == .seq 4

/-- `LOCK_ACQUIRE` (R316). -/
def execLockAcquire (ag : Agent) (k : Nat) (s : State) : Host.Outcome State Fault Refusal :=
  onDev s (fun d => if mayLock ag then d.lockCmd ag k 1 else d)

/-- `LOCK_RELEASE` (R316). -/
def execLockRelease (ag : Agent) (k : Nat) (s : State) : Host.Outcome State Fault Refusal :=
  onDev s (fun d => if mayLock ag then d.lockCmd ag k 2 else d)

/-- `LOCK_FORCE_RELEASE` (R317). -/
def execLockForceRelease (ag : Agent) (k : Nat) (s : State) : Host.Outcome State Fault Refusal :=
  onDev s (fun d => if mayLock ag then d.lockCmd ag k 3 else d)

end Sys2Proof.Machine
end

