-- ==== Sys2Proof/Machine/Ray.lean ====
section
/-!
DEFINITION. Ray traversal (R69, R115 to R121, R153): the BVH4 walk with exact box and triangle tests, queries of the
sequencers and of waves, and the pinned range of L2.
-/

namespace Sys2Proof.Machine

open Sys2Proof

/-! ### Exact numbers -/

/-- A fraction with a positive denominator. -/
structure Frac where
  n : Int
  d : Nat

def Frac.le (a b : Frac) : Bool := decide (a.n * b.d ≤ b.n * a.d)
def Frac.lt (a b : Frac) : Bool := decide (a.n * b.d < b.n * a.d)
def Frac.max (a b : Frac) : Frac := if a.le b then b else a
def Frac.min (a b : Frac) : Frac := if a.le b then a else b

/-- `a` over `b`, with `b` not zero. -/
def Frac.of (a b : Int) : Frac := if b < 0 then ⟨-a, b.natAbs⟩ else ⟨a, b.natAbs⟩

/-- A fraction rounded to binary32. -/
def Frac.toF (a : Frac) : Nat := f32.roundQ .near (decide (a.n < 0)) a.n.natAbs a.d 0

/-! ### Queries -/

/-- A query: its origin, direction and interval as binary32, its flags and its object mask. -/
structure RayIn where
  o : List Nat
  d : List Nat
  tmin : Nat
  tmax : Nat
  anyHit : Bool
  cull : Bool
  mask : Word

/-- A query whose numbers are finite, in units of 2^−149; `hi` is none when tmax is positive infinity. -/
structure RayFix where
  o : List Int
  d : List Int
  lo : Frac
  hi : Option Frac
  anyHit : Bool
  cull : Bool
  mask : Word

/-- The unit of the fixed numbers. -/
def fixUnit : Nat := 2 ^ 149

/-- A query in fixed numbers; none when it holds a number that is not finite. -/
def RayIn.fix (r : RayIn) : Option RayFix := do
  let o ← r.o.mapM fixed
  let d ← r.d.mapM fixed
  let lo ← fixed r.tmin
  let hi ← if r.tmax = f32.inf then some none else (fixed r.tmax).map (fun h => some (⟨h, fixUnit⟩ : Frac))
  pure { o := o, d := d, lo := ⟨lo, fixUnit⟩, hi := hi, anyHit := r.anyHit, cull := r.cull, mask := r.mask }

/-- A hit. -/
structure Hit where
  t : Frac
  obj : Word
  prim : Word

/-- How a query ends (R118): a miss, a hit, a translation fault at an address, a malformed node at an address, or the step
limit. -/
inductive RayEnd where
  | miss
  | hit (t obj prim : Word)
  | trans (addr : Nat)
  | malformed (addr : Nat)
  | limit

/-- The status of a result (R69). -/
def RayEnd.status : RayEnd → Nat
  | .miss => 0
  | .hit _ _ _ => 1
  | .trans _ => 2
  | .malformed _ => 3
  | .limit => 3

/-! ### Boxes and triangles -/

/-- A bound of a box on an axis (R116): origin + q × 2^e to binary32 in a direction; without a value when it rounds to an infinity, and none
when the origin is not finite. -/
def boxFix (r : Rnd) (origin q e : Nat) : Option (Option Int) :=
  match f32.decode origin with
  | .fin s m g =>
    let x := sextNat 8 e
    let low := min g x
    let sum := sgn s (m * 2 ^ (g - low).toNat) + (q * 2 ^ (x - low).toNat : Nat)
    some (fixed (f32.roundInt r sum low false))
  | _ => none

/-- Where a ray enters and leaves one slab, without a value where a bound of the slab is infinite or the ray runs along it; none when it
misses. -/
def slab (o d : Int) (lo hi : Option Int) : Option (Option Frac × Option Frac) :=
  let at' := fun (b : Option Int) => b.map (fun v => Frac.of (v - o) d)
  if d = 0 then
    (if (match lo with | some v => decide (v ≤ o) | none => true) && (match hi with | some v => decide (o ≤ v) | none => true) then
      some (none, none) else none)
  else if 0 < d then some (at' lo, at' hi)
  else some (at' hi, at' lo)

/-- Where a ray enters a box within its interval (R116, R117); none when it does not. Inside the box already, it enters at tmin
(DEDUCED, log entry 42). -/
def boxEntry (r : RayFix) (lo hi : List (Option Int)) : Option Frac :=
  ((r.o.zip r.d).zip (lo.zip hi)).foldl
    (fun (acc : Option (Frac × Option Frac)) p =>
      match acc, slab p.1.1 p.1.2 p.2.1 p.2.2 with
      | none, _ => none
      | _, none => none
      | some (x, y), some (m, n) =>
        some ((match m with | some m => x.max m | none => x),
          match y, n with | some y, some n => some (y.min n) | some y, none => some y | none, n => n))
    (some (r.lo, r.hi))
  |>.bind (fun (x, y) => match y with | some y => if x.le y then some x else none | none => some x)

def cross (a b : List Int) : List Int :=
  let f := fun i j => a.getD i 0 * b.getD j 0 - a.getD j 0 * b.getD i 0
  [f 1 2, f 2 0, f 0 1]

def dot (a b : List Int) : Int := ((a.zip b).map (fun p => p.1 * p.2)).sum

def vsub (a b : List Int) : List Int := (a.zip b).map (fun p => p.1 - p.2)

/-- Where a ray hits a triangle within its interval, edges and vertices included (R116); none when it does not. -/
def triHit (r : RayFix) (twoSided : Bool) (v0 v1 v2 : List Int) : Option Frac :=
  let e1 := vsub v1 v0
  let e2 := vsub v2 v0
  let s := vsub r.o v0
  let det := dot e1 (cross r.d e2)
  if det = 0 then none
  else
    let k : Int := if det < 0 then -1 else 1
    let u := k * dot s (cross r.d e2)
    let v := k * dot r.d (cross s e1)
    let t := Frac.of (dot e2 (cross s e1)) det
    let face := !r.cull || twoSided || decide (dot (cross e1 e2) r.d < 0)
    if 0 ≤ u && 0 ≤ v && decide (u + v ≤ k * det) && r.lo.le t && (match r.hi with | some h => t.le h | none => true) && face then
      some t
    else none

/-! ### The walk -/

/-- What the unit still has to visit: a node, or `n` triangle records, with where the ray enters its box. -/
structure Todo where
  entry : Option Frac
  leaf : Option Nat
  addr : Nat

/-- Whether a child is skipped: it is entered beyond the best hit (R117). -/
def Todo.skip (best : Option Hit) (t : Todo) : Bool :=
  match best, t.entry with
  | some b, some e => b.t.lt e
  | _, _ => false

/-- A child placed among its siblings: nearest first, lower index first at equal entry (R117). -/
def placeTodo (t : Todo) : List Todo → List Todo
  | [] => [t]
  | x :: xs =>
    match t.entry, x.entry with
    | some a, some b => if a.lt b then t :: x :: xs else x :: placeTodo t xs
    | _, _ => x :: placeTodo t xs

/-- Three numbers of 32 bits from offset `o`. -/
def vec3 (b : List Byte) (o : Nat) : List Nat := [leAt b o 4, leAt b (o + 4) 4, leAt b (o + 8) 4]

/-- Whether a valid mask leaves a child without a box: a zero stands between two ones (R118). -/
def validHole (m : Nat) : Bool := [5, 9, 10, 11, 13].contains m

/-- A ray as a list of numbers. -/
def RayFix.key (r : RayFix) : List Nat :=
  intKey (r.o ++ r.d ++ [r.lo.n] ++ (match r.hi with | some h => [h.n] | none => []))

/-- The children of a node that a ray enters, nearest first; none when the node is malformed (R115 to R118). Whether it enters a box whose
origin is not finite is left open, the same for one ray and one node. -/
def nodeKids (r : RayFix) (b : List Byte) : Option (List Todo) :=
  let valid := bits (leAt b 0x0F 1) 3 0
  let kids := onesBelow 4 valid
  let word := fun i => leAt b (0x18 + 4 * i) 4
  if validHole valid || kids.any (fun i => 2 ≤ word i % 4) then none
  else
    some (kids.foldl (fun (acc : List Todo) i =>
      let q := fun a hi => leAt b (0x28 + 6 * i + (if hi then 3 else 0) + a) 1
      let at' := fun (rd : Rnd) hi a => boxFix rd (leAt b (4 * a) 4) (q a hi + b2n hi) (leAt b (0x0C + a) 1)
      let entry := match [0, 1, 2].mapM (at' .down false), [0, 1, 2].mapM (at' .up true) with
        | some lo, some hi => boxEntry r lo hi
        | _, _ => if Config.openOf 1 (i :: leNat b :: r.key) % 2 = 0 then none else some r.lo
      match entry with
      | none => acc
      | some e =>
        let w := word i
        let t : Todo :=
          { entry := some e, leaf := if w % 4 = 1 then some (bits w 5 2 + 1) else none,
            addr := leAt b 0x10 8 / 64 * 64 + w / 64 * 64 }
        placeTodo t acc) [])

/-- The hit that a triangle record gives (R115, R116). What a triangle with a vertex that is not finite gives is left
open, the same for one ray and one record. -/
def recordHit (r : RayFix) (b : List Byte) : Option Hit :=
  let obj := w32 (leAt b 0x24 4)
  let prim := w32 (leAt b 0x28 4)
  if (w32 (leAt b 0x2C 4) &&& r.mask) = 0#32 then none
  else
    match (vec3 b 0).mapM fixed, (vec3 b 12).mapM fixed, (vec3 b 24).mapM fixed with
    | some v0, some v1, some v2 => (triHit r (bitOn (leAt b 0x30 4) 0) v0 v1 v2).map (fun t => ⟨t, obj, prim⟩)
    | _, _, _ =>
      let n := Config.openOf 2 (leNat b :: r.key)
      if n % 2 = 0 then none else some ⟨⟨n / 2, fixUnit⟩, obj, prim⟩

/-- How a query with a best hit ends. -/
def rayDone (best : Option Hit) : RayEnd :=
  match best with
  | some h => .hit (w32 h.t.toF) h.obj h.prim
  | none => .miss

/-- A read of the traversal unit. -/
def rayRead (c i a : Nat) : RasM (Except MemErr (List Byte)) := fun d =>
  match d.l2Read c i a 64 with
  | (r, d) => (.ok r, d)

/-- The walk (R117 to R119): `fuel` steps are left, `best` is the nearest hit so far, `todo` what is to visit. -/
def walkRay (c i : Nat) (r : RayFix) : Nat → Option Hit → List Todo → RasM RayEnd
  | fuel, best, todo =>
    match todo.dropWhile (Todo.skip best) with
    | [] => pure (rayDone best)
    | t :: rest =>
      match fuel with
      | 0 => pure .limit
      | fuel + 1 => do
        let b ← rayRead c i t.addr
        match b with
        | .error .trans => pure (.trans t.addr)
        | .error (.ecc _) => pure (.malformed t.addr)
        | .ok b =>
          match t.leaf with
          | none =>
            match nodeKids r b with
            | none => pure (.malformed t.addr)
            | some ks =>
              if 73 < (ks ++ rest).length then pure (.malformed t.addr) else walkRay c i r fuel best (ks ++ rest)
          | some n =>
            let best := match best, recordHit r b with
              | none, h => h
              | some x, none => some x
              | some x, some h => if h.t.lt x.t then some h else some x
            if r.anyHit && best.isSome then pure (rayDone best)
            else
              let rest := if n ≤ 1 then rest else { entry := none, leaf := some (n - 1), addr := t.addr + 64 : Todo } :: rest
              walkRay c i r fuel best rest

/-- A query run against the tree at `root` in the space of instance `i`, through L2 of channel `c`. What a query with a
number that is not finite finds is left open, the same for one query against one root. -/
def castRay (c i limit root : Nat) (r : RayIn) : RasM RayEnd :=
  match r.fix with
  | some f => walkRay c i f (max 1 limit) none [{ entry := none, leaf := none, addr := root }]
  | none =>
    let open' := fun k => Config.openOf (3 + k) ([root, b2n r.anyHit, b2n r.cull, r.tmin, r.tmax] ++ r.o ++ r.d)
    pure (if open' 0 % 2 = 0 then .miss else .hit (w32 (open' 1)) (w32 (open' 2)) (w32 (open' 3)))

/-- RAS_TRAV_STAT counts a result, and a malformed node is recorded (R118). -/
def Device.noteRay (d : Device) (c i : Nat) (e : RayEnd) : Device :=
  match e with
  | .limit => d.bump (Reg.RAS_TRAV_STAT_limit_hits c)
  | .malformed a =>
    (d.bump (Reg.RAS_TRAV_STAT_malformed c)).raise { fault 0x0A 6 (chanBase c 1) c with inst := some i, addr := a }
  | _ => d

/-- The four result words; those that the status gives no value are left open. -/
def rayWords (e : RayEnd) : RasM (List Word) :=
  match e with
  | .hit t o p => pure [1#32, o, p, t]
  | _ => do
    let o ← rasFree
    let p ← rasFree
    let t ← rasFree
    pure [w32 e.status, w32 o, w32 p, w32 t]

/-! ### Queries of waves -/

/-- The query of a lane (R153). -/
def Wave.ray (x : Wave) (a : VRay) (l : Nat) : RayIn :=
  let f := fun n => (x.vr (a.ray.toNat + n) l).toNat
  { o := [f 0, f 1, f 2], tmin := f 3, d := [f 4, f 5, f 6], tmax := f 7, anyHit := a.flags.toNat.testBit 0,
    cull := a.flags.toNat.testBit 1, mask := x.sr a.omask.toNat }

/-- The query of one lane run; a translation fault stops the item (R153). -/
def traceLane (k : RasCtx) (x : Wave) (a : VRay) (l : Nat) (y : Wave) : RasM Wave := do
  let d ← get
  let e ← castRay k.c k.i (d.rd (Reg.RAS_TRAV_LIMIT_wave_steps k.c)) (x.pair a.root.toNat / 64 * 64) (x.ray a l)
  match e with
  | .trans p => throw (.mem .trans 1 p)
  | e => do
    modify (fun d => d.noteRay k.c k.i e)
    let ws ← rayWords e
    pure ((ws.zipIdx).foldl (fun y p => y.setVr (a.dst.toNat + p.2) l p.1) y)

/-- The ray query in a slot of a sequencer. -/
def Seq.rayq (x : Seq) (slot : Nat) : Option RayQuery := tget (fun _ => none) x.rays slot

/-- The queries of all sequencers that channel `c` serves: who asked, and when each arrived. -/
def Device.raysOn (d : Device) (c : Nat) : List (Nat × Nat) :=
  (List.range 5).flatMap (fun q => (List.range 4).filterMap (fun k =>
    match (d.seq q).rayq k with
    | some r => if r.ch = c then some (r.arrival, q) else none
    | none => none))

/-- Whether a traversal unit serves the waves of channel `c` now (R120): unit 1 when unit 0 is reserved; else a unit that the sequencers'
queries, which go first, leave. -/
def Device.unitFree (d : Device) (c : Nat) : Bool := d.on (Reg.RAS_CTL_reserve0 c) || decide ((d.raysOn c).length ≤ 1)

/-- `TRACE` (R120, R153): the wave waits while the sequencers' queries have both units. -/
def execTrace (w : Nat) (a : VRay) (s : State) : Host.Outcome State Fault Refusal :=
  onDev s (fun d => d.when ((d.wave w).all (fun x => d.unitFree x.ch)) (fun d => d.runVec w
    (fun x => decide (a.dst.toNat + 4 ≤ x.vregs) && decide (a.ray.toNat + 8 ≤ x.vregs) && a.root.toNat % 2 == 0
      && decide (a.root.toNat + 2 ≤ x.sregs) && decide (a.omask.toNat < x.sregs))
    (fun k x => (lanesOf x.amask).foldlM (fun y l => traceLane k x a l y) x)))

/-! ### Queries of sequencers -/

/-- The query that the words of a ray block spell (R69): with flags.pixel the direction is formed step by step in
binary32. -/
def blockRay (ws : List Word) : RayIn :=
  let f := fun n => (ws.getD n 0#32).toNat
  let px := f32.roundInt .near (bits (f 11) 15 0 : Nat) 0 false
  let py := f32.roundInt .near (bits (f 11) 31 16 : Nat) 0 false
  let axis := fun k =>
    if bitOn (f 15) 2 then
      f32.addR .near (f32.addR .near (f (4 + k)) (f32.mulR .near px (f (8 + k)))) (f32.mulR .near py (f (12 + k)))
    else f (4 + k)
  { o := [f 0, f 1, f 2], tmin := f 3, d := [axis 0, axis 1, axis 2], tmax := f 7, anyHit := bitOn (f 15) 0,
    cull := bitOn (f 15) 1, mask := ws.getD 18 0#32 }

/-- The root address of a ray block. -/
def blockRoot (ws : List Word) : Nat := (ws.getD 16 0#32).toNat + (ws.getD 17 0#32).toNat * 2 ^ 32

/-- What `RAYQ` answers to a block (R59, R69, R371), and the channel that serves it. -/
def Device.rayqCode (d : Device) (q : Nat) (ws : List Word) : Nat × Nat :=
  let fl := (ws.getD 15 0#32).toNat
  let c := if q = 4 then bits fl 7 4 else q
  if fl ≠ bits fl 2 0 + bits fl 7 4 * 16 + bits fl 12 8 * 256 || (q < 4 && bits fl 7 4 != 0) || 4 ≤ c
      || blockRoot ws % 64 != 0 || 2 ^ 48 ≤ blockRoot ws then (resInvalid, 0)
  else if d.rd (Reg.PWR_DOM_state (2 + c)) ≠ 2 then (resDenied, 0)
  else (resOk, c)

/-- `RAYQ` (R69). -/
def execRayq (sq rd ra : Nat) (s : State) : Host.Outcome State Fault Refusal :=
  onDev s (fun d => d.runInstr sq 10 [ra] (fun d x =>
    let a := (x.gr ra).toNat
    if dmemSize sq < a + 128 then .trap trapDmemRange (x.gr ra)
    else if a % 64 != 0 then .trap trapDmemAlign (x.gr ra)
    else
      let n := (x.raySerial + 1) % 65536
      let d := d.modSeq sq (fun x => { x with raySerial := n })
      let done := fun (d : Device) (code slot : Nat) => Ran.next (d.modSeq sq (fun x => x.result rd code slot n))
      match (List.range 4).find? (fun k => (x.rayq k).isNone) with
      | none => done d resBusy 0
      | some k =>
        let ws := (List.range 20).map (fun j => x.dword (a / 4 + j))
        let (code, c) := d.rayqCode sq ws
        if code = resOk then
          let r : RayQuery :=
            { block := a, ch := c, inst := wbits (ws.getD 15 0#32) 12 8, arrival := d.beat.clock, words := ws, stale := false }
          done (d.modSeq sq (fun x => { x with rays := tset (fun _ => none) x.rays k (some r) })) resOk k
        else done d code 0))

/-- Whether a query may end now (R120): queries start in order of arrival, one at a time in unit 0 when it is reserved for them, and one in
each of the two units when it is not. -/
def Device.rayTurn (d : Device) (q : Nat) (r : RayQuery) : Bool :=
  decide (((d.raysOn r.ch).filter (fun e => decide (e.1 < r.arrival) || (e.1 == r.arrival && decide (e.2 < q)))).length
    < 2 - d.rd (Reg.RAS_CTL_reserve0 r.ch))

/-- `RAY_QUERY_END` (R69, R78, R118): the query in slot `k` of a sequencer ends; its words are written and its event set. -/
def execRayQueryEnd (sq k : Nat) (s : State) : Host.Outcome State Fault Refusal :=
  onDev s (fun d =>
    match (d.seq sq).rayq k with
    | none => d
    | some r =>
      d.when (d.rayTurn sq r) (fun d =>
        let m : RasM (List Word) := do
          let e ← castRay r.ch r.inst (d.rd (Reg.RAS_TRAV_LIMIT_seq_steps r.ch)) (blockRoot r.words) (blockRay r.words)
          modify (fun d => d.noteRay r.ch r.inst e)
          rayWords e
        match m.run d with
        | (.error _, d) => d
        | (.ok ws, d) =>
          let d := d.modSeq sq (fun x => { x with rays := tset (fun _ => none) x.rays k none })
          if r.stale then d
          else (d.modSeq sq (fun x => x.setDwords (r.block / 4 + 20) ws)).event sq (evRay + k)))

/-! ### The pinned range -/

/-- Lines read anew and held. -/
def pinLines (c : Nat) (p : List Nat × Device) : Device :=
  let d := p.2.l2Clean c (fun l => p.1.contains l.key)
  let d := d.setL2 c ((d.l2 c).filter (fun l => !p.1.contains l.key))
  let d := p.1.foldl (fun d k => (d.l2Line c k).2) d
  d.setL2 c ((d.l2 c).map (fun l => if p.1.contains l.key then { l with pinned := true } else l))

/-- A write of RAS_PIN_SIZE (R104, R121, R127): pinned lines leave L2, dirty ones written back, and the lines of the new
range that translate are loaded and held. -/
def Device.pinLoad (d : Device) (c : Nat) (value : Word) : Device :=
  let d := (d.wr (Reg.RAS_PIN_SIZE_inst c) (wbits value 12 8)).wr (Reg.RAS_PIN_SIZE_size c) (wbits value 3 0)
  let d := d.l2Clean c (fun l => l.pinned)
  let d := d.setL2 c ((d.l2 c).filter (fun l => !l.pinned))
  pinLines c (d.rangeKeys (wbits value 12 8) (d.addr64 (Reg.RAS_PIN_LO c) (Reg.RAS_PIN_HI c)) (min 8 (wbits value 3 0) * 65536))

/-- `RAS_PIN_LOAD` (R121): the manager writes RAS_PIN_SIZE of channel `c`. -/
def execRasPinLoad (c : Nat) (value : Word) (s : State) : Host.Outcome State Fault Refusal :=
  onDev s (fun d => d.pinLoad c value)

end Sys2Proof.Machine
end

