-- ==== Sys2Proof/Machine/Reset.lean ====
section
/-!
DEFINITION. The reset of the device (R425, R456, R477) and what lets its start-up path begin (R452, R475).
-/

namespace Sys2Proof.Machine

open Sys2Proof

/-- The phase of start-up (R475, R479). -/
def Device.phase (d : Device) : Nat := d.rd Reg.GLB_BOOT_phase

/-- The grade code of GLB_ID (R425). -/
def gradeCode : Grade → Nat
  | .c16 => 1
  | .c13 => 2
  | .l13 => 3
  | .a16 => 4

/-- The frequency of point 0 of the grade, at which PWR_DVFS_n.req_n resets (R374, R382). -/
def gradePoint : Grade → Nat
  | .c16 => 1600
  | .a16 => 1600
  | .c13 => 1300
  | .l13 => 1300

/-- The accepted register writes complete and an uncommitted record write is abandoned (R456): how much of the record reached
the MRAM is open. -/
def Device.settleSeed (d : Device) : Device :=
  let d := d.seed.queue.foldl (fun d w => d.seedPerform w .good) d
  match d.seed.records with
  | j :: _ => let (n, d) := d.free; d.recordStop j n
  | [] => d

/-- Every register and every block at reset: what outlives a reset is the MRAM with its damage, the memories outside the D8,
the supplies, the clocks, the temperature, the pins as they were sampled, and what holds the device in reset. -/
def Device.blank (d : Device) : Device :=
  let r := Device.reset
  let x : Device := { r with
    grade := d.grade
    mems := { r.mems with host := d.mems.host, flash := d.mems.flash, mram := d.mems.mram }
    seed := { r.seed with bad := d.seed.bad }
    glass := { r.glass with vhap := d.glass.vhap }
    pwr := { r.pwr with supply := d.pwr.supply, tjHigh := d.pwr.tjHigh }
    boot := { d.boot with keys := [], halts := [], steps := [] }
    beat := { r.beat with clockGood := d.beat.clockGood }
    draws := d.draws
    out := d.out }
  (List.range 4).foldl (fun x n => x.wr (Reg.PWR_DVFS_req_n n) (gradePoint d.grade))
    ((x.wr Reg.GLB_ID_grade (gradeCode d.grade)).wr Reg.GLB_MODE_pins (d.rd Reg.GLB_MODE_pins))

/-- The device reset: the seed store settles, then everything returns to reset and the start-up path is abandoned (R425,
R456, R477). -/
def Device.resetDevice (d : Device) : Device := (if d.seed.parked then d else d.settleSeed).blank

/-- VHOLD falls below what the MRAM needs (R332): the always-on domain loses its power, and with it all but the MRAM. -/
def Device.vholdLost (d : Device) : Device :=
  let d := d.blank
  { d with boot := { d.boot with vhold := false } }

/-- A fault of level 6 or 7 stops the device, which stays in reset until RESET_N restarts it (R345, R458; log entry 114). -/
def Device.stopDevice (d : Device) : Device :=
  let d := d.resetDevice
  { d with boot := { d.boot with stopped := true } }

/-- Whether nothing holds the device in reset (R345, R452, R455, R458, R468). -/
def Device.released (d : Device) : Bool :=
  !d.boot.low && d.boot.vhold && !d.boot.brown && !d.boot.hot && d.boot.refclk && !d.boot.stopped

/-- The start-up path begins (R475): phase SEED, with the always-on domain and the core on, and in holdover until AMCLK
runs (R452). -/
def Device.startUp (d : Device) : Device :=
  d.when (d.released && d.phase == 0)
    (fun d => (((d.wr Reg.GLB_BOOT_phase 1).wr (Reg.PWR_DOM_state 0) 2).wr (Reg.PWR_DOM_state 1) 2).setHoldover
      (!d.beat.clockGood))

end Sys2Proof.Machine
end

