-- ==== Sys2Proof/Machine/Integrity.lean ====
section
/-!
DEFINITION. Fault records and their rings (R362 to R365), the configuration CRC (R349 to R352, R423), the SSQ pair (R360), the
bridge and the dies (R361), and the resets of an engine and of a channel (R345, R92, R425).
-/

namespace Sys2Proof.Machine

open Sys2Proof

/-! ### Fault records -/

/-- The 48 bytes of a fault record (R362). -/
def FaultRec.encode (r : FaultRec) (logged : Bool) (serial : Nat) : List Byte :=
  leBytes 4 (r.cls + r.cause * 2 ^ 8 + faultLevel r.cls r.cause * 2 ^ 16 + b2n r.secure * 2 ^ 19 + b2n logged * 2 ^ 20
      + b2n r.corrected * 2 ^ 21 + r.block % 1024 * 2 ^ 22)
    ++ leBytes 4 (r.unit % 256 + r.sub % 256 * 2 ^ 8
      + (match r.inst with | some i => i % 32 * 2 ^ 16 + 2 ^ 23 | none => 0))
    ++ leBytes 8 r.time ++ leBytes 8 r.addr ++ leBytes 4 r.infoA ++ leBytes 4 r.infoB ++ leBytes 4 r.merged
    ++ leBytes 4 serial ++ leBytes 8 0

/-- The space of fault ring `i` (R364). -/
def fltSpace (i : Nat) : Space := if i = 32 then .securePhys else .inst i

/-- The level that GLB_INTPIN gives the interrupt pin when ring `i` receives a record (R425): 0 and 3 the manager ring, 1 the
secure ring, 2 both. -/
def Device.intPin (d : Device) (i : Nat) : Device :=
  let src := d.rd Reg.GLB_INTPIN_source
  let sel := if i = 0 then src != 1 else i == 32 && (src == 1 || src == 2)
  if d.on Reg.GLB_INTPIN_enable && sel then d.emit (.pin "INTR" 0 (d.rd Reg.GLB_INTPIN_high)) else d

/-- A record that ring `i` does not take (R364). -/
def Device.dropRecord (d : Device) (i : Nat) : Device := d.bump (Reg.FLT_RING_PROD_dropped i)

/-- The 48 bytes of a record written to ring `i` (R364). An access that fails raises nothing and leaves the record out. -/
def Device.ringRecord (d : Device) (i : Nat) (b : List Byte) : Device :=
  let k := ringK 12 (d.rd (Reg.FLT_RING_CFG_log2_size i))
  let base := d.addr64 (Reg.FLT_RING_LO i) (Reg.FLT_RING_HI i)
  let p := d.rd (Reg.FLT_RING_PROD_prod i)
  if !d.on (Reg.FLT_RING_CFG_enable i) then d.dropRecord i
  else
    match d.ringCons (fltSpace i) 8 base k 64 with
    | (none, _) => d.dropRecord i
    | (some c, d1) =>
      if 2 ^ k ≤ (p + 2 ^ (k + 1) - c) % 2 ^ (k + 1) then d.dropRecord i
      else
        let e := b ++ leBytes 4 (if p < 2 ^ k then 2 ^ 31 else 0) ++ leBytes 12 0
        match d1.write (fltSpace i) 8 (base + p % 2 ^ k * 64) e with
        | (.error _, _) => d.dropRecord i
        | (.ok (), d) =>
          let d := d.wr (Reg.FLT_RING_PROD_prod i) ((p + 1) % 2 ^ (k + 1))
          (if i < 32 then d.signal i 3 else d).intPin i

/-- The rings that a record goes to (R363). -/
def FaultRec.rings (r : FaultRec) : List Nat :=
  [32] ++ (if r.secure then [] else
    [0] ++ (match r.inst with | some i => if 1 ≤ i && decide (i ≤ 31) then [i] else [] | none => []))

/-- A record of the beat written (R365): it takes the next serial, goes to its rings, and to the fault log when its class is
selected. -/
def Device.writeFault (d : Device) (r : FaultRec) : Device :=
  let n := (d.flt.serial + 1) % 2 ^ 32
  let log := (d.reg Reg.FLT_LOG_MASK).toNat.testBit r.cls
  let b := r.encode log n
  let d := { d with flt := { d.flt with serial := n } }
  let d := r.rings.foldl (fun d i => d.ringRecord i b) d
  if log then d.logRecord b else d

/-- A record of the beat written to the fault log alone, by the mixed-signal die without the compute die (R361). -/
def Device.logEdge (d : Device) (r : FaultRec) : Device :=
  let n := (d.flt.serial + 1) % 2 ^ 32
  { d with flt := { d.flt with serial := n } }.logRecord (r.encode true n)

/-- The records of the old beat written at an edge (R365). -/
def Device.writeFaults (d : Device) : Device :=
  let rs := d.flt.raised
  rs.foldl (fun d r => d.writeFault r) { d with flt := { d.flt with raised := [] } }

/-! ### Configuration CRC -/

/-- Whether FLT_CFGCRC_MASK selects the block of a register (R366). -/
def Device.crcBlock (d : Device) (a : Nat) : Bool :=
  let m := d.reg Reg.FLT_CFGCRC_MASK
  if a < 0xF00000 then m.toNat.testBit (a / 0x100000)
  else if 0x1000000 ≤ a && a < 0x2000000 then m.toNat.testBit (16 + (a - 0x1000000) / 0x100000)
  else 0x2000000 ≤ a && decide (a < 0x2100000) && m.toNat.testBit 15

/-- The covered bits of the registers of a row (R349, R423). -/
def RegRow.covered (r : RegRow) : Nat :=
  let m := r.rw ||| r.rws ||| r.rwg
  if r.base = Reg.GLB_RST then 0
  else if r.base = Reg.FLT_CFGCRC_CTL then m &&& 0x7FFFFFFF
  else if r.base = Reg.CMP_WB_CFG 0 then m - (m &&& (2 ^ (Reg.CMP_WB_CFG_mode 0).hi * 2 - 2 ^ (Reg.CMP_WB_CFG_mode 0).lo))
  else m

/-- The offsets of the elements of an array from `o` on. -/
def dimOffsets : List (Nat × Nat) → Nat → List Nat
  | [], o => [o]
  | (s, c) :: ds, o => (List.range c).flatMap (fun i => dimOffsets ds (o + i * s))

/-- The covered registers of a row with their covered bits. -/
def RegRow.coveredRegs (r : RegRow) : List (Nat × Nat) :=
  if r.covered = 0 then [] else (dimOffsets r.dims r.base).map (fun a => (a, r.covered))

/-- Every covered register of the blocks that the mask names, in ascending order of address (R349). -/
def Device.covered (d : Device) : List (Nat × Nat) :=
  let rows := (List.range 15).flatMap (fun b => rowsOfBlock (b * 0x100000))
    ++ (List.range 4).flatMap (fun k => rowsOfBlock (0x1000000 + k * 0x100000))
  let ssq := (rowsOfBlock 0x1000000).flatMap (fun r =>
    if r.covered = 0 then [] else
      (dimOffsets (r.dims.drop 1) (r.base + 0x1000000)).map (fun a => (a, r.covered)))
  ((rows.flatMap RegRow.coveredRegs ++ ssq).filter (fun e => d.crcBlock e.1)).mergeSort (fun a b => decide (a.1 ≤ b.1))

/-- The result of a pass (R349). -/
def Device.cfgCrc (d : Device) : Nat :=
  crc32c (d.covered.flatMap (fun e => leBytes 4 ((d.reg e.1).toNat &&& e.2)))

/-- The RWG registers of the native map. -/
def guardRegs : List Nat := [Reg.GLB_RST]

/-- A pass starts (R349, R351): a committed reference becomes active, and clears hold. -/
def Device.cfgStart (d : Device) : Device :=
  let d := if d.flt.commit then
      ({ d with flt := { d.flt with commit := false, cfgRef := d.rd Reg.FLT_CFGCRC_REF_ref } }.wr Reg.FLT_CFGCRC_CTL_hold 0).wr
        Reg.FLT_CFGCRC_STAT_held 0
    else d
  { d with flt := { d.flt with passOn := true } }

/-- A pass ends (R350, R352). -/
def Device.cfgEnd (d : Device) : Device :=
  let r := d.cfgCrc
  let d := { d with flt := { d.flt with passOn := false } }.wr Reg.FLT_CFGCRC_CUR_value r
  let d := if d.on Reg.FLT_CFGCRC_CTL_hold || r == d.flt.cfgRef then d
    else (d.bump Reg.FLT_CFGCRC_STAT_mismatches).raise
      { fault 0x04 1 0x300000 0 with infoA := r, infoB := d.flt.cfgRef }
  guardRegs.foldl (fun d a =>
    if d.guards.any (fun g => g.addr == a) || d.reg (a + 4) == ~~~ d.reg a then d
    else d.raise { fault 0x04 3 0x300000 0 with addr := a }) d

/-- `CFGCRC_PASS_END` (R349, R350, R352). -/
def execCfgcrcPassEnd (s : State) : Host.Outcome State Fault Refusal :=
  onDev s (fun d => d.when d.flt.passOn (fun d => d.cfgEnd))

/-- `CFGCRC_HOLD_EXPIRE` (R351): hold has stayed set for 64 beat edges. -/
def execCfgcrcHoldExpire (s : State) : Host.Outcome State Fault Refusal :=
  onDev s (fun d =>
    d.when (d.on Reg.FLT_CFGCRC_CTL_hold && decide (64 ≤ d.rd Reg.FLT_CFGCRC_STAT_held)) (fun d =>
      ((d.wr Reg.FLT_CFGCRC_CTL_hold 0).wr Reg.FLT_CFGCRC_STAT_held 0).raise (fault 0x04 2 0x300000 0)))

/-- Whether an agent may write the FLT_CFGCRC registers (R351, R366). -/
def Device.mayCfgcrc (d : Device) (ag : Agent) : Bool :=
  agentSecure ag || (ag == .manager && !d.on Reg.FLT_CFGCRC_CTL_slock)

/-- `CFGCRC_COMMIT` (R351): a write of 1 to FLT_CFGCRC_COMMIT.go by an agent. -/
def execCfgcrcCommit (ag : Agent) (s : State) : Host.Outcome State Fault Refusal :=
  onDev s (fun d => d.when (d.mayCfgcrc ag) (fun d => { d with flt := { d.flt with commit := true } }))

/-! ### The SSQ pair -/

/-- `LOCKSTEP_MISMATCH` (R360): both cores stop; the image is loaded again for the next edge, or, at the third mismatch within
1,000 beats, the SSQ stays halted. -/
def execLockstepMismatch (s : State) : Host.Outcome State Fault Refusal :=
  onDev s (fun d =>
    let old := d.flt.ssqFaults.filter (fun b => decide (d.beat.sbeat < b + 1000))
    let d := { d with flt := { d.flt with ssqFaults := old ++ [d.beat.sbeat] } }.bump Reg.FLT_SSQ_count
    let d := (d.raise { fault 0x05 1 (csqBase 4) 4 with secure := true }).stopPass 4
    let d := (d.abandonLocks 5).dropGuards (.seq 4)
    let d := d.modSeq 4 (fun x => { x with next := match x.next with | some i => some i | none => x.cur })
    if 2 ≤ old.length then
      ((d.modSeq 4 (fun x => { x with halted := true })).wr Reg.FLT_SSQ_halted 1).raise
        { fault 0x05 2 (csqBase 4) 4 with secure := true }
    else d)

/-! ### The bridge and the dies -/

/-- `BRIDGE_REPLAY` (R361): a flit is replayed; with `spared`, its lane failed four replays and a spare takes its place.
`up` is the direction towards the mixed-signal die. -/
def execBridgeReplay (up spared : Bool) (s : State) : Host.Outcome State Fault Refusal :=
  onDev s (fun d =>
    let f := if up then Reg.FLT_BRIDGE_spare_up else Reg.FLT_BRIDGE_spare_down
    d.when (spared && decide (d.rd f < 8)) (fun d =>
      (d.wr f (d.rd f + 1)).raise { fault 0x03 3 0x300000 0 with corrected := true, sub := b2n up }))

/-- A record that cannot wait for a beat edge (R361; log entry 114): counted, and written at once to the fault log. -/
def Device.logNow (d : Device) (r : FaultRec) : Device :=
  let n := (d.flt.serial + 1) % 2 ^ 32
  ({ d with flt := { d.flt with serial := n } }.logRecord ({ r with time := d.beatTime }.encode true n)).bump
    (Reg.FLT_COUNT_count (r.cls - 1))

/-- What the loss of the mixed-signal die takes out: touch, haptics, audio and the seed store, with the writes that wait there (R13,
R361). -/
def Device.loseMixed (d : Device) : Device :=
  let d := { d with flt := { d.flt with lostMixed := true }, posted := []
                    glass := { d.glass with fronts := [], relax := [], haps := [], trigs := [] } }.audioOff
  [8, 9, 10].foldl (fun d k => d.wr (Reg.PWR_DOM_state k) 0) (d.wr Reg.SEED_STATUS_ready 0)

/-- What the loss of the compute die takes out (R13, R361): its sequencers, heads and ports, the raster engines, queues and copy engines,
the memory and host complexes and the Weft links. What the always-on and mixed-signal blocks hold stays. -/
def Device.loseCompute (d : Device) : Device :=
  let d := (List.range 5).foldl (fun d q => d.stopPass q) d
  let d := (List.range 8).foldl (fun d h => d.stopHead h) d
  let d := (List.range 8).foldl (fun d p => d.wr (Reg.DP_STATUS_trained p) 0) d
  let d := (List.range 4).foldl (fun d n => d.wr (Reg.WFT_LINK_STAT_up n) 0) d
  let r := Device.reset
  { d with
    flt := { d.flt with lostCompute := true, commit := false, passOn := false }
    q := { r.q with nextUid := d.q.nextUid }
    mems := { d.mems with tlb := [], ats := [] }
    seqs := [], copies := [], guards := [], insts := [], mem := r.mem, ras := r.ras, disp := r.disp, udc := r.udc, weft := r.weft }

/-- `DIE_HEARTBEAT_LOST` (R14, R361, R458): the surviving die declares the other lost; without the compute die the records go directly to
the fault log. A fault of the carrier stops the device. -/
def execDieHeartbeatLost (lost : DieLoss) (s : State) : Host.Outcome State Fault Refusal :=
  onDev s (fun d =>
    match lost with
    | .compute => d.when (!d.flt.lostCompute) (fun d => d.loseCompute.logNow (fault 0x12 1 0x200000 0))
    | .mixed => d.when (!d.flt.lostMixed) (fun d => d.loseMixed.raise (fault 0x12 1 0x300000 0))
    | .carrier => d.when (d.phase != 0) (fun d => (d.logNow (fault 0x12 2 0x300000 0)).stopDevice))

/-! ### Engine reset -/

/-- The oldest ray query that channel `c` serves: its arrival, its sequencer and its slot. -/
def Device.oldestRay (d : Device) (c : Nat) : Option (Nat × Nat × Nat) :=
  ((List.range 5).flatMap (fun q => (List.range 4).filterMap (fun k =>
    match (d.seq q).rayq k with
    | some r => if r.ch = c then some (r.arrival, q, k) else none
    | none => none))).foldl
    (fun b e => match b with | none => some e | some x => if e.1 < x.1 then some e else b) none

/-- A ray query that its traversal unit lost: it ends with status 3 (R118), and the other result words are open. -/
def Device.failRay (d : Device) (c : Nat) : Device :=
  match d.oldestRay c with
  | none => d
  | some (_, q, k) =>
    match (d.seq q).rayq k with
    | none => d
    | some r =>
      let d := d.modSeq q (fun x => { x with rays := tset (fun _ => none) x.rays k none })
      if r.stale then d
      else
        let (o, d) := d.free
        let (p, d) := d.free
        let (t, d) := d.free
        (d.modSeq q (fun x => x.setDwords (r.block / 4 + 20) [3#32, w32 o, w32 p, w32 t])).event q (evRay + k)

/-- An engine resets, and its current work fails (R345). A compositor goes on with G alone (R358). -/
def Device.engineReset (d : Device) (e : Engine) : Device :=
  match e with
  | .cluster c k =>
    let work := match d.q.picks.find? (fun p => p.ch == c && !p.held && (d.pickHolds p).testBit k) with
      | some p => some p.item
      | none =>
        match d.ctx c with
        | some x => if x.taken.testBit k then some x.item else none
        | none => none
    let d := (d.raise { fault 0x06 4 (chanBase c 1) c with sub := k }).stopCluster c k
    match work with
    | some u => d.stopItem u stFault 0x06
    | none => d
  | .traversal c t => (d.raise { fault 0x06 4 (chanBase c 1) c with sub := t }).failRay c
  | .compositor c =>
    ([2 * c, 2 * c + 1].foldl (fun d h => d.modHead h (fun x => { x with gOnly := true })) d).raise (fault 0x06 4 (chanBase c 2) c)
  | .front n =>
    let d := d.raise { fault 0x06 4 0xC00000 n with secure := d.on (Reg.TCH_CFG_sec n) }
    (d.touchStop n).touchEnable n
  | .bridge n =>
    let d := d.raise { fault 0x06 4 0xD00000 n with secure := d.on (Reg.HAP_CFG_sec n) }
    let x := d.hap n
    let d := match x.splice with | some (f, _) => d.hapReport n f 5 | none => d
    let d := match x.queued with | some f => d.hapReport n f 5 | none => d
    (d.modHap n (fun x => { x with queued := none, splice := none })).hapEnd n 2
  | .controller b => (d.raise (fault 0x06 4 0x800000 b)).modCtl b (fun x => { x with queue := [], rows := [] })

/-- `ENGINE_RESET` (R345): an engine contains a fault of its control state. -/
def execEngineReset (e : Engine) (s : State) : Host.Outcome State Fault Refusal := onDev s (fun d => d.engineReset e)

/-! ### Channel reset -/

/-- Whether channel `c` carries a secure head or G (R425). -/
def Device.secureChannel (d : Device) (c : Nat) : Bool :=
  [2 * c, 2 * c + 1].any (fun h => d.on (Reg.HEAD_SEC_secure h) || d.on (Reg.CMP_GOWN_valid h))

/-- An item that the reset of channel `c` abandons (R92): its dirty lines are cleaned (R104), and pick or context, saved state and place
in the list end. -/
def Device.abandonItem (d : Device) (c u : Nat) : Device :=
  match d.item u with
  | none => d
  | some _ =>
    let d := (d.dropRun u).l2CleanItem u
    let d := match d.pickOf u with
      | some p => d.endPick p 7
      | none => match d.ctxOf u with | some c => d.endCtx c stAbandoned | none => d
    d.completeBy c u stAbandoned 2

/-- The picks of channel `c` that wait for a grant end with code 7; an unstarted item returns to its list (R92). -/
def Device.dropHeld (d : Device) (c : Nat) : Device :=
  (d.q.picks.filter (fun p => p.ch == c && p.held)).foldl (fun d p =>
    match d.item p.item with
    | some x =>
      if x.started then d.abandonItem c p.item
      else (d.modItem p.item (fun y => { y with stage := 0, slot := none })).endPick p 7
    | none => d.endPick p 7) d

/-- Head `h` of a reset channel stops, and restarts at its next latch line (R345): what was pending is lost. -/
def Device.resetHead (d : Device) (h : Nat) : Device :=
  if !d.running h then d.modHead h (fun x => { x with checks := [], coming := [], after := [], flips := [], taken := none, rpj := none, starting := false })
  else
    let t := d.latchAt h
    (d.stopHead h).modHead h (fun x => { x with
      checks := [], coming := [], after := [], flips := [], taken := none, rpj := none, starting := true, checkEnd := t })

/-- Channel `c` resets (R92, R345, R425). A FLIP that was taken and that no `COMMIT` has acted on has not started: it stays queued. -/
def Device.channelReset (d : Device) (c : Nat) : Device :=
  let d := d.dropHeld c
  let gone := d.q.items.filter (fun x =>
    d.q.picks.any (fun p => p.ch == c && p.item == x.uid) || (match d.ctx c with | some y => y.item == x.uid | none => false)
      || (x.started && (match x.slot with | some sl => sl.ch == c | none => false))
      || (x.stage == 5 && x.pay 0x20 4 / 2 == c))
  let d := { d with q := { d.q with items := d.q.items.map (fun x : Item =>
    if x.stage == 4 && x.pay 0x20 4 / 2 == c then { x with stage := 0 } else x) } }
  let d := gone.foldl (fun d x => d.abandonItem c x.uid) d
  let d := d.setL2 c []
  let d := d.takeOut c 1600000
  let d := (List.range 12).foldl (fun d k => d.l1Drop c k) d
  let d := (List.range 5).foldl (fun d q => d.modSeq q (fun x => { x with
    rays := x.rays.filter (fun e => match e.2 with | some r => r.ch != c | none => true) })) d
  let d := (d.stopPass c).dropGuards (.seq c)
  let d := [2 * c, 2 * c + 1].foldl (fun d h => d.resetHead h) d
  ((d.modCmp c (fun m => { m with receipts := [] })).showRpj c).showSlots c

/-- A committed bit of GLB_RST.channel (R425). -/
def Device.channelCommit (d : Device) (secure : Bool) (c : Nat) : Device :=
  if !secure && d.secureChannel c then d.wr Reg.GLB_STATUS_refused 1 else d.channelReset c

/-- `CHANNEL_RESET` (R92, R345, R425): by the agent that committed GLB_RST.channel, or by a fault contained in the channel. -/
def execChannelReset (c : Nat) (by' : Option Agent) (s : State) : Host.Outcome State Fault Refusal :=
  onDev s (fun d =>
    d.when (c < 4) (fun d =>
      match by' with
      | some ag => d.when (ag == .manager || agentSecure ag) (fun d => d.channelCommit (agentSecure ag) c)
      | none => d.channelReset c))

end Sys2Proof.Machine
end

