-- ==== Sys2Proof/Machine/LegacyAudio.lean ====
section
/-!
DEFINITION. The mixer of the UDC-4 map and the swaps of the LEGACY and MIXED modes (R440): what the legacy front end writes into
the idle bank, what the compatibility draft asks for, and the copy that follows every swap.
-/

namespace Sys2Proof.Machine

open Sys2Proof

/-- Whether the compatibility draft runs on sequencer `q` (R429, R478). -/
def Device.draftUp (d : Device) (q : Nat) : Bool := d.mode != .native && (d.seq q).imageValid && !(d.seq q).halted

/-- The native sources of the eight UDC-4 inputs. -/
def legacySources : List Nat := [0, 1, 16, 17, 112, 113, 114, 115]

/-- The native sinks of the four UDC-4 outputs. -/
def legacySinks : List Nat := [0, 1, 16, 17]

/-- The gains of the register file written to the 32 nodes of the idle bank (R440). -/
def Device.mixWrite (d : Device) : Device :=
  (List.range 4).foldl (fun d o =>
    (List.range 8).foldl (fun d i =>
      d.setReg (Reg.AUD_NODE (1 - d.bank) (128 * legacySinks.getD o 0 + legacySources.getD i 0)) (w32 (d.rd (Reg.UDC_MIX_gain o i) * 0x100))) d) d

/-- An apply starts when the idle bank may be written: the gains go in, and the draft asks for a swap at the next edge; else it
waits (R440). -/
def Device.mixStart (d : Device) : Device :=
  let wait : Device := { d with udc := { d.udc with again := true } }
  if d.aud.swap.isSome || d.aud.copying.isSome || d.udc.copyDue || !d.draftUp 0 then wait
  else
    let d1 := d.mixWrite
    let (code, d) := d1.swapDecide 0 48 (some 0)
    if code = resOk then { d with udc := { d.udc with mixing := true, again := false } } else wait

/-- A write of 1 to UDC_MIX_CTL.apply lands (R440). -/
def Device.mixApply (d : Device) : Device := (d.wr Reg.UDC_MIX_CTL_pending 1).mixStart

/-- A swap that the native side asks for with a ramp, at the first edge that the draft can meet (R440). -/
def Device.nativeSwap (d : Device) (ramp : Nat) : Device :=
  let wait : Device := { d with udc := { d.udc with native := some ramp } }
  if d.aud.swap.isSome || d.aud.copying.isSome || d.udc.copyDue || !d.draftUp 0 then wait
  else
    let (code, d) := d.swapDecide 0 ramp (some 0)
    if code = resOk || code = resInvalid then { d with udc := { d.udc with native := none } } else wait

/-- Whether a word that an agent mails to CH0 asks the draft for a swap (R440): the manager does, in MIXED mode. -/
def Device.swapMail (d : Device) (ag : Agent) (v : Word) : Bool := d.mode == .mixed && ag == .manager && wbits v 31 16 == 0x4153

/-- What the front end and the draft do about swaps at a beat edge (R440): `swapped` tells whether the banks have changed roles
at it. -/
def Device.mixEdge (d : Device) (swapped : Bool) : Device :=
  if d.mode == .native then d
  else
    let d := if swapped then
        let d := if d.udc.mixing && !d.udc.again then d.wr Reg.UDC_MIX_CTL_pending 0 else d
        { d with udc := { d.udc with mixing := false, copyDue := true } }
      else d
    let d := if d.udc.copyDue && d.aud.swap.isNone && d.aud.copying.isNone && d.draftUp 0 then
        { d with udc := { d.udc with copyDue := false } }.audCopy
      else d
    let d := match d.udc.native with
      | some r => d.nativeSwap r
      | none => d
    if d.udc.again then d.mixStart else d

end Sys2Proof.Machine
end

