-- ==== Sys2Proof/Machine/Crypto.lean ====
section
/-!
DEFINITION. SHA-384 of FIPS 180-4 and the verification of ECDSA P-384 signatures of FIPS 186-5, which R76 and R471 name.
PRESUMED: both come from the standards, not from the manual (log entry 15).
-/

namespace Sys2Proof.Machine

open Sys2Proof

/-! ### SHA-384 -/

/-- The largest `r` below 2^n with r^k ≤ x, bit by bit. -/
def rootBelow (k x : Nat) : Nat → Nat → Nat
  | 0, r => r
  | n + 1, r => rootBelow k x n (if (r + 2 ^ n) ^ k ≤ x then r + 2 ^ n else r)

/-- The first 64 bits of the fraction of the `k`-th root of `p`. -/
def rootFrac (k p : Nat) : Nat := rootBelow k (p * 2 ^ (64 * k)) 72 0 % 2 ^ 64

/-- The primes below 410, of which there are eighty. -/
def primes80 : List Nat := (List.range 410).filter (fun n => 2 ≤ n && (List.range 21).all (fun k => k < 2 || n == k || n % k != 0))

/-- The eighty round constants. -/
def shaK : List Nat := primes80.map (rootFrac 3)

/-- The initial value of SHA-384. -/
def sha384Init : List Nat := ((primes80.drop 8).take 8).map (rootFrac 2)

/-- A 64-bit word rotated right. -/
def ror64 (n x : Nat) : Nat := (x >>> n ||| x <<< (64 - n)) % 2 ^ 64

/-- The next word of the message schedule, which is kept newest first. -/
def shaNext (w : List Nat) : Nat :=
  let a := w.getD 14 0
  let b := w.getD 1 0
  let s0 := ror64 1 a ^^^ ror64 8 a ^^^ (a >>> 7)
  let s1 := ror64 19 b ^^^ ror64 61 b ^^^ (b >>> 6)
  (w.getD 15 0 + s0 + w.getD 6 0 + s1) % 2 ^ 64

/-- The message schedule extended by `n` words. -/
def shaExtend : Nat → List Nat → List Nat
  | 0, w => w
  | n + 1, w => shaExtend n (shaNext w :: w)

/-- One round. -/
def shaRound (v : List Nat) (kw : Nat × Nat) : List Nat :=
  match v with
  | [a, b, c, d, e, f, g, h] =>
    let s1 := ror64 14 e ^^^ ror64 18 e ^^^ ror64 41 e
    let ch := (e &&& f) ^^^ ((2 ^ 64 - 1 - e) &&& g)
    let t1 := h + s1 + ch + kw.1 + kw.2
    let s0 := ror64 28 a ^^^ ror64 34 a ^^^ ror64 39 a
    let maj := (a &&& b) ^^^ (a &&& c) ^^^ (b &&& c)
    [(t1 + s0 + maj) % 2 ^ 64, a, b, c, (d + t1) % 2 ^ 64, e, f, g]
  | _ => v

/-- One block of 128 bytes. -/
def shaBlock (ks v : List Nat) (b : List Byte) : List Nat :=
  let w := (List.range 16).map (fun i => beNat ((b.drop (8 * i)).take 8))
  let w := (shaExtend 64 w.reverse).reverse
  (v.zip ((ks.zip w).foldl shaRound v)).map (fun (x, y) => (x + y) % 2 ^ 64)

/-- The message with its padding. -/
def shaPad (m : List Byte) : List Byte :=
  m ++ [0x80#8] ++ List.replicate ((128 - (m.length + 17) % 128) % 128) 0#8 ++ beBytes 16 (m.length * 8)

/-- `n` blocks of a padded message. -/
def shaBlocks (ks : List Nat) : Nat → List Nat → List Byte → List Nat
  | 0, v, _ => v
  | n + 1, v, m => shaBlocks ks n (shaBlock ks v (m.take 128)) (m.drop 128)

/-- The SHA-384 digest of a message, as a number. -/
def sha384 (m : List Byte) : Nat :=
  let p := shaPad m
  let v := shaBlocks shaK (p.length / 128) sha384Init p
  (v.take 6).foldl (fun a w => a * 2 ^ 64 + w) 0

/-! ### P-384 -/

def p384 : Nat := 2 ^ 384 - 2 ^ 128 - 2 ^ 96 + 2 ^ 32 - 1

def n384 : Nat := 0xffffffffffffffffffffffffffffffffffffffffffffffffc7634d81f4372ddf581a0db248b0a77aecec196accc52973

def b384 : Nat := 0xb3312fa7e23ee7e4988e056be3f82d19181d9c6efe8141120314088f5013875ac656398d8a2ed19d2a85c8edd3ec2aef

def g384 : Nat × Nat :=
  (0xaa87ca22be8b05378eb1c71ef320ad746e1d3b628ba79b9859f741e082542a385502f25dbf55296c3a545e3872760ab7,
   0x3617de4a96262c6f5d9e98bf9292dc29f8f41dbd289a147ce9da3113b5f0b8c00a60b1ce1d7e819d7a431d7c90ea0e5f)

/-- b^e modulo m, by the low `n` bits of e. -/
def powMod (m : Nat) : Nat → Nat → Nat → Nat → Nat
  | 0, _, _, acc => acc
  | n + 1, b, e, acc => powMod m n (b * b % m) (e / 2) (if e % 2 = 1 then acc * b % m else acc)

/-- The inverse modulo a prime of 384 bits. -/
def invMod (m a : Nat) : Nat := powMod m 384 (a % m) (m - 2) 1

/-- The sum of two points of the curve; none is the point at infinity. -/
def ecAdd (a b : Option (Nat × Nat)) : Option (Nat × Nat) :=
  match a, b with
  | none, b => b
  | a, none => a
  | some (x1, y1), some (x2, y2) =>
    if x1 = x2 && (y1 + y2) % p384 == 0 then none
    else
      let l := if x1 = x2 then (3 * x1 * x1 + (p384 - 3)) * invMod p384 (2 * y1) % p384
        else (y2 + p384 - y1) * invMod p384 (x2 + p384 - x1) % p384
      let x3 := (l * l + 2 * p384 - x1 - x2) % p384
      some (x3, (l * (x1 + p384 - x3) + p384 - y1) % p384)

/-- A multiple of a point, by the low `n` bits of k. -/
def ecMul : Nat → Nat → Option (Nat × Nat) → Option (Nat × Nat) → Option (Nat × Nat)
  | 0, _, _, acc => acc
  | n + 1, k, q, acc => ecMul n (k / 2) (ecAdd q q) (if k % 2 = 1 then ecAdd acc q else acc)

/-- Whether a point lies on the curve. -/
def onCurve (q : Nat × Nat) : Bool :=
  decide (q.1 < p384) && decide (q.2 < p384) && q.2 * q.2 % p384 == (q.1 ^ 3 + (p384 - 3) * q.1 + b384) % p384

/-- Whether (r, s) is a signature of the digest `z` under the public key `q`. -/
def ecdsaOk (q : Nat × Nat) (z r s : Nat) : Bool :=
  if onCurve q && decide (0 < r) && decide (r < n384) && decide (0 < s) && decide (s < n384) then
    let w := invMod n384 s
    match ecAdd (ecMul 384 (z * w % n384) (some g384) none) (ecMul 384 (r * w % n384) (some q) none) with
    | some (x, _) => x % n384 == r
    | none => false
  else false

/-- Whether a 104-byte signature block (R76) signs `m` under a public key of 96 bytes, x then y. -/
def signedBy (key m blk : List Byte) : Bool :=
  ecdsaOk (beNat (key.take 48), beNat ((key.drop 48).take 48)) (sha384 m) (beNat ((blk.drop 8).take 48))
    (beNat ((blk.drop 56).take 48))

end Sys2Proof.Machine
end

