-- ==== Sys2Proof/Machine/Loads.lean ====
section
/-!
DEFINITION. Draft images (R75 to R78), the start of passes (R48), and the register commands of a sequencer's block (R79, R383).
-/

namespace Sys2Proof.Machine

open Sys2Proof

/-! ### Images -/

/-- The effective budget of a sequencer (R36, R45): budgets below 1,000 count as 1,000. -/
def Device.effBudget (d : Device) (q : Nat) : Nat :=
  min (max 1000 (d.rdAct (Reg.BEAT_SQ_BUDGET_cycles q))) (d.rd Reg.BEAT_PRED_ticks - 136)

/-- The bit of R75's modes word that the mode in effect needs. -/
def modeBit : Mode → Nat
  | .native => 0
  | .legacy => 1
  | .mixed => 2

/-- The bytes of text and data that an image header names. -/
def imageSize (b : List Byte) : Nat := leAt b 0x10 4 + leAt b 0x14 4

/-- Whether a header is well formed and its sizes fit the banks of sequencer `q` (R75, R77). -/
def headerOk (b : List Byte) (q : Nat) : Bool :=
  leAt b 0 4 == 0x4B445246 && leAt b 4 4 == 0x00800001 && decide (leAt b 8 4 < 32) && decide (leAt b 0xC 4 < 8)
    && leAt b 0x10 4 % 4 == 0 && decide (leAt b 0x10 4 ≤ 65536) && leAt b 0x14 4 % 4 == 0
    && decide (leAt b 0x14 4 + leAt b 0x18 4 ≤ dmemSize q) && leAt b 0x34 76 == 0

/-- Whether a signature block is well formed (R76). -/
def sigOk (s : List Byte) : Bool := decide (leAt s 0 4 < 4) && leAt s 4 4 == 0

/-- Whether a signature block verifies over `m` under a usable key of its index (R76, R471). -/
def Device.verified (d : Device) (m s : List Byte) : Bool :=
  d.boot.keys.any (fun k => k.1 == leAt s 0 4 && signedBy k.2 m s)

/-- The image that a header and its bytes describe. DESIGN CHOICE (log entry 28): no rule refuses an entry address that is unaligned
or at or above 0x1_0000, so it is taken as given, and the first fetch finds what stands there. -/
def imageOf (b : List Byte) : Image :=
  let t := leAt b 0x10 4 / 4
  let n := leAt b 0x14 4 / 4
  { passEntry := leAt b 0x1C 4, initEntry := leAt b 0x20 4, trapVector := leAt b 0x24 4, bss := leAt b 0x18 4
    text := (List.range t).map (fun i => w32 (leAt b (0x80 + 4 * i) 4))
    data := (List.range n).map (fun i => w32 (leAt b (0x80 + 4 * t + 4 * i) 4)) }

/-- What the loader decides on the bytes of an image, signature block included (R77): the result of the first condition that
holds, in the order of the table. `boot` loads are those of R474, which also serve CSQ0 and CSQ1 in every mode. -/
def Device.imageResult (d : Device) (q : Nat) (b : List Byte) (boot : Bool) : Nat :=
  let m := b.take (0x80 + imageSize b)
  let s := (b.drop (0x80 + imageSize b)).take 104
  if !headerOk b q || b.length < 0x80 + imageSize b + 104 || !sigOk s || !(leAt b 8 4).testBit q
      || !(leAt b 0xC 4).testBit (modeBit d.mode) || d.effBudget q < leAt b 0x28 4 then resInvalid
  else if !d.verified m s then resBadsig
  else if d.mode != .native && decide (q ≤ 1) && !boot then resDenied
  else resOk

/-- The bytes of the image at an LP5X address; none when they cannot be read. -/
def Device.readImage (d : Device) (a q : Nat) : Option (List Byte) × Device :=
  match d.read .phys 8 a 0x80 with
  | (.error _, d) => (none, d)
  | (.ok h, d) =>
    if !headerOk h q then (some h, d)
    else
      match d.read .phys 8 a (0x80 + imageSize h + 104) with
      | (.error _, d) => (none, d)
      | (.ok b, d) => (some b, d)

/-- A load ends with a result code; an accepted image waits to become current (R77, R78). -/
def Device.loadEnd (d : Device) (q code : Nat) (img : Option Image) : Device :=
  let d := (d.wr (Reg.CSQ_LOAD_result q) code).wr (Reg.CSQ_LOAD_pending q) (b2n img.isSome)
  d.modSeq q (fun x => { x with loading := false, next := img })

/-- Words spread over a bank from word `i` on; an unlisted word of the bank holds `z`. -/
def putWords (z : Word) (m : List (Nat × Word)) (i : Nat) : List Word → List (Nat × Word)
  | [] => m
  | w :: ws => putWords z (tset (fun _ => z) m i w) (i + 1) ws

/-- An image becomes current (R48, R78). DESIGN CHOICE (log entry 27): a bss_size that 4 does not divide zeroes up to the end of its
last word. Its steps: registers and sevent clear, the idle banks swap in with the image's data and its
zeroed range, outcomes of old posts and queries are discarded, and the old image's lock cells are released. -/
def Device.imageCurrent (d : Device) (q : Nat) : Device :=
  let x := d.seq q
  match x.next with
  | none => d
  | some img =>
    if x.running then d
    else
      let d := (d.abandonLocks (q + 1)).dropGuards (.seq q)
      let bank := putWords 0#32 (putWords 0#32 x.idle 0 img.data) img.data.length
        (List.replicate ((img.bss + 3) / 4) 0#32)
      let y := { x with
        g := [], sevent := 0, imem := putWords 0xFFFFFFFF#32 [] 0 img.text, dmem := bank, idle := x.dmem,
        entries := (img.passEntry, img.initEntry), stvec := w32 img.trapVector, next := none, cur := some img,
        imageValid := true, fresh := true, inTrap := false, halted := x.halted && q == 4 && d.on Reg.FLT_SSQ_halted,
        posts := x.posts.map (fun e => (e.1, e.2.map (fun p => { p with stale := true })))
        rays := x.rays.map (fun e => (e.1, e.2.map (fun r => { r with stale := true }))) }
      (d.setSeq q y).wr (Reg.CSQ_LOAD_pending q) 0

/-- Whether a sequencer starts a pass at an edge (R48, R72, R77, R79, R377). -/
def Device.passReady (d : Device) (q : Nat) : Bool :=
  let x := d.seq q
  x.imageValid && !x.halted && !x.running && d.on (Reg.CSQ_CTL_run q) && d.awake
    && !d.boot.halts.contains q && !d.flt.lostCompute && (q == 4 || d.chanUp q)

/-- A pass starts at tick 136 (R25, R36, R48). -/
def Device.passStart (d : Device) (q : Nat) : Device :=
  if !d.passReady q then d
  else
    let d := if d.rd Reg.BEAT_PRED_ticks - 136 < max 1000 (d.rdAct (Reg.BEAT_SQ_BUDGET_cycles q)) then
        d.wr Reg.BEAT_STATUS_budget_clamped 1
      else d
    d.modSeq q (fun x =>
      { x with
        pc := if x.fresh && x.entries.2 != 0 then x.entries.2 else x.entries.1
        z := false, n := false, c := false, v := false, inTrap := false, fresh := false, running := true, wait := .running
        spass := 0, sbudget := d.effBudget q, overrun := none, ovr := .none, now := max 136 d.beat.stick, loadRd := 0 })

/-! ### Register commands of a sequencer block -/

/-- Whether an agent may write the block of sequencer `q` (R58, R79, R426). -/
def Device.maySeq (d : Device) (ag : Agent) (q : Nat) : Bool :=
  decide (q ≤ 4) && (agentSecure ag || (decide (q < 4)
    && (ag == .seq q || ((ag == .manager || ag == .debug false) && (d.mode == .native || decide (2 ≤ q))))))

/-- A write of 1 to CSQ_LOAD.go (R77): the load takes the address that CSQ_IMG holds now. -/
def Device.loadGo (d : Device) (q : Nat) : Device :=
  if d.on (Reg.CSQ_LOAD_pending q) then d.wr (Reg.CSQ_LOAD_result q) resBusy
  else
    let a := d.addr64 (Reg.CSQ_IMG_LO q) (Reg.CSQ_IMG_HI q)
    (d.wr (Reg.CSQ_LOAD_pending q) 1).modSeq q (fun x => { x with loading := true, loadAt := a })

/-- `CSQ_LOAD_GO` (R77). A load by the manager of CSQ0 or CSQ1 of the legacy partition starts, and is denied as it ends. -/
def execCsqLoadGo (ag : Agent) (q : Nat) (s : State) : Host.Outcome State Fault Refusal :=
  onDev s (fun d => d.when (d.maySeq ag q || (ag == .manager && decide (q < 4))) (fun d => d.loadGo q))

/-- The loader's copy of an image's data in the idle DMEM bank (R77): it stands there even when the image is then refused. The idle
IMEM bank is filled whole by the load whose image becomes current, so nothing ever shows what an earlier load left in it. -/
def Device.copyIdle (d : Device) (q : Nat) (img : Image) : Device :=
  d.modSeq q (fun x => { x with idle := putWords 0#32 x.idle 0 img.data })

/-- `IMAGE_VERIFY_DONE` (R77): the loader has copied the image and decides on it. -/
def execImageVerifyDone (q : Nat) (s : State) : Host.Outcome State Fault Refusal :=
  onDev s (fun d =>
    d.when (decide (q ≤ 4) && (d.seq q).loading) (fun d =>
      match d.readImage (d.seq q).loadAt q with
      | (none, d) => d.loadEnd q resInvalid none
      | (some b, d) =>
        let r := d.imageResult q b false
        let d := if headerOk b q then d.copyIdle q (imageOf b) else d
        d.loadEnd q r (if r = resOk then some (imageOf b) else none)))

/-- A write of 1 to CSQ_CTL.restart (R72, R79, R360). -/
def Device.restartSeq (d : Device) (q : Nat) : Device :=
  if !(d.seq q).halted || (q == 4 && d.on Reg.FLT_SSQ_halted) then d
  else d.modSeq q (fun x => { x with halted := false, fresh := true, inTrap := false })

/-- `CSQ_RESTART` (R79). -/
def execCsqRestart (ag : Agent) (q : Nat) (s : State) : Host.Outcome State Fault Refusal :=
  onDev s (fun d => d.when (d.maySeq ag q) (fun d => d.restartSeq q))

/-- `CSQ_RUN` (R79): passes start at beat edges, or no new pass starts. -/
def execCsqRun (ag : Agent) (q : Nat) (run : Bool) (s : State) : Host.Outcome State Fault Refusal :=
  onDev s (fun d => d.when (d.maySeq ag q) (fun d => d.wr (Reg.CSQ_CTL_run q) (b2n run)))

/-- A write of CSQ_MAIL (R60, R79). -/
def Device.mail (d : Device) (q : Nat) (v : Word) : Device := (d.setReg (Reg.CSQ_MAIL q) v).event q evMail

/-- `CSQ_MAIL` (R79). -/
def execCsqMail (ag : Agent) (q : Nat) (value : Word) (s : State) : Host.Outcome State Fault Refusal :=
  onDev s (fun d => d.when (d.maySeq ag q) (fun d => d.mail q value))

/-- A write of CSQ_VOTE (R383): the value is copied to the vote word of the sequencer at once. -/
def Device.csqVote (d : Device) (c : Nat) (v : Word) : Device :=
  (d.setReg (Reg.CSQ_VOTE c) (v &&& 0x7FC#32)).setReg (Reg.PWR_VOTE (c + 1)) (v &&& 0x7FC#32)

/-- `CSQ_VOTE` (R369, R383). -/
def execCsqVote (ag : Agent) (c : Nat) (value : Word) (s : State) : Host.Outcome State Fault Refusal :=
  onDev s (fun d => d.when (decide (c < 4) && d.maySeq ag c) (fun d => d.csqVote c value))

end Sys2Proof.Machine
end

