-- ==== Sys2Proof/Machine/Weft.lean ====
section
/-!
DEFINITION. Weft links (R384 to R406): training and failure of a link, flits and their replay, the fault map and routes, the
control blocks of the beat, of the frame lock and of the wake, numbering, and the scene broadcast.
-/

namespace Sys2Proof.Machine

open Sys2Proof

/-! ### Links and nodes -/

/-- A link beyond its registers. -/
def Device.link (d : Device) (n : Nat) : WLink := tget (fun _ => WLink.reset) d.weft.links n

/-- A link changed by `f`. -/
def Device.modLink (d : Device) (n : Nat) (f : WLink → WLink) : Device :=
  { d with weft := { d.weft with links := tset (fun _ => WLink.reset) d.weft.links n (f (d.link n)) } }

/-- Whether this node is node 0 (R390). -/
def Device.isRoot (d : Device) : Bool := d.on Reg.WFT_MESH_root

/-- The number of this node (R390). -/
def Device.self (d : Device) : Nat := if d.isRoot then 0 else d.rd Reg.WFT_MESH_node

/-- Whether a link is up; outside NATIVE mode none is (R384). -/
def Device.linkUp (d : Device) (n : Nat) : Bool := decide (n < 4) && d.mode == .native && d.on (Reg.WFT_LINK_STAT_up n)

/-- The links that are up but for `n`. -/
def Device.otherLinks (d : Device) (n : Nat) : List Nat := (List.range 4).filter (fun k => k != n && d.linkUp k)

/-- The index in the fault map of link `n` of a node (R390): W0 leads to x + 1, W1 to y + 1, W2 to x − 1 and W3 to y − 1. -/
def linkIndex (node n : Nat) : Nat :=
  let x := node % 8
  let y := node / 8
  match n with
  | 0 => 7 * y + x
  | 1 => 56 + 8 * y + x
  | 2 => 7 * y + x - 1
  | _ => 56 + 8 * (y - 1) + x

/-- The node at the other end of link `n` (R385). -/
def stepNode (node n : Nat) : Nat :=
  match n with
  | 0 => node + 1
  | 1 => node + 8
  | 2 => node - 1
  | _ => node - 8

/-- Whether a link of the mesh is in the fault map. -/
def Device.mapped (d : Device) (i : Nat) : Bool := (d.reg (Reg.WFT_FMAP (i / 32))).toNat.testBit (i % 32)

/-- A link of the mesh put into the fault map, or taken out. -/
def Device.setMapped (d : Device) (i : Nat) (bad : Bool) : Device := d.wr ⟨Reg.WFT_FMAP (i / 32), i % 32, i % 32⟩ (b2n bad)

/-! ### Routes (R390) -/

/-- The link that a flit of a class takes at node `at'` to `dst`, and whether its detour is then taken; none at the
destination. -/
def nextLink (sx sy at' dst cls : Nat) (detour : Bool) : Option (Nat × Bool) :=
  let row : Option Nat := if at' % 8 < dst % 8 then some 0 else if dst % 8 < at' % 8 then some 2 else none
  let col : Option Nat := if at' / 8 < dst / 8 then some 1 else if dst / 8 < at' / 8 then some 3 else none
  let first := fun (a b : Option Nat) => (match a with | some n => some n | none => b).map (fun n => (n, detour))
  if at' = dst then none
  else
    match cls with
    | 0 => first row col
    | 1 => first col row
    | 2 => if detour then first row col else some (if at' / 8 = sy then 3 else 1, true)
    | _ => if detour then first col row else some (if at' % 8 = sx then 2 else 0, true)

/-- The nodes on the path of a class from `at'` to `dst`, the destination last, when no link on it is in the fault map. -/
def Device.path (d : Device) (at' dst cls : Nat) : Bool → Nat → Option (List Nat)
  | _, 0 => none
  | detour, fuel + 1 =>
    match nextLink (d.rd Reg.WFT_MESH_size_x) (d.rd Reg.WFT_MESH_size_y) at' dst cls detour with
    | none => some []
    | some (n, det) =>
      if d.mapped (linkIndex at' n) then none
      else (d.path (stepNode at' n) dst cls det fuel).map (fun l => stepNode at' n :: l)

/-- Whether a node belongs to the wall. -/
def Device.inWall (d : Device) (v : Nat) : Bool :=
  decide (v < 64) && decide (v % 8 ≤ d.rd Reg.WFT_MESH_size_x) && decide (v / 8 ≤ d.rd Reg.WFT_MESH_size_y)

/-- The route class from one node to another with its path; none when the destination is unreachable. -/
def Device.route (d : Device) (src dst : Nat) : Option (Nat × List Nat) :=
  if !d.inWall dst || !d.inWall src then none
  else
    [0, 1, 2, 3].findSome? (fun c =>
      if (c == 2 && (src / 8 != dst / 8 || d.rd Reg.WFT_MESH_size_y == 0))
          || (c == 3 && (src % 8 != dst % 8 || d.rd Reg.WFT_MESH_size_x == 0)) then none
      else (d.path src dst c false 20).map (fun p => (c, p)))

/-- WFT_STATUS follows the links and the map. -/
def Device.showWeft (d : Device) : Device :=
  let n := if d.isRoot || d.on Reg.WFT_STATUS_numbered then
      ((List.range 64).filter (fun v => (d.route d.self v).isSome)).length
    else 0
  (d.wr Reg.WFT_STATUS_up (maskOf ((List.range 4).filter d.linkUp))).wr Reg.WFT_STATUS_reachable n

/-! ### Flits (R386, R387, R391) -/

/-- The first 80 bytes of a flit. -/
def flitBody (type cls dst src e2e tag addr : Nat) (payload : List Byte) : List Byte :=
  leBytes 4 (type + cls * 2 ^ 4 + dst * 2 ^ 8 + src * 2 ^ 16 + (payload.length / 4) * 2 ^ 24) ++ leBytes 4 (e2e + tag * 2 ^ 16)
    ++ leBytes 8 addr ++ (payload ++ List.replicate (64 - payload.length) 0#8)

/-- The last 8 bytes of a flit, after its first 80. -/
def flitTail (body : List Byte) (w : Nat) : List Byte :=
  let b := body ++ leBytes 4 w
  leBytes 4 w ++ leBytes 4 (crc32c b)

/-- An IDLE flit with an acknowledgement or a nak, and a returned credit (log entry 45). -/
def Device.sendIdle (d : Device) (n ack : Nat) (nak : Bool) (vc credits : Nat) : Device :=
  let body := List.replicate 80 0#8
  d.emit (.flit n (body ++ flitTail body (ack % 4096 * 2 ^ 12 + 2 ^ 24 + b2n nak * 2 ^ 25 + vc * 2 ^ 26 + credits * 2 ^ 28)))

/-- A flit put on link `n` on a virtual channel: sent with a credit and room in the replay buffer, else it waits. -/
def Device.sendOn (d : Device) (n vc : Nat) (body : List Byte) : Device :=
  let x := d.link n
  if d.linkUp n && decide (0 < x.credits.getD vc 0) && decide (x.replay.length < 128) then
    (d.modLink n (fun x => { x with
      tx := (x.tx + 1) % 4096, credits := modAt x.credits vc (· - 1), replay := x.replay ++ [(x.tx, body)] })).emit
        (.flit n (body ++ flitTail body x.tx))
  else d.modLink n (fun x => { x with wait := x.wait ++ [(vc, body)] })

/-- The flits that wait on link `n` are sent as far as credits reach. -/
def Device.drainLink (d : Device) (n : Nat) : Device :=
  ((d.link n).wait).foldl (fun d f => d.sendOn n f.1 f.2) (d.modLink n (fun x => { x with wait := [] }))

/-- The destination of a flit. -/
def flitDst (body : List Byte) : Nat := bits (leAt body 0 4) 13 8

/-- The virtual channel of a flit of a class before and after its detour (R390). -/
def flitVc (cls : Nat) (detour : Bool) : Nat := if cls ≤ 1 then cls else if detour then cls else 1

/-- A flit forwarded by its class. -/
def Device.forward (d : Device) (body : List Byte) : Device :=
  let w := leAt body 0 4
  let cls := bits w 5 4
  let det := bitOn w 6
  match nextLink (d.rd Reg.WFT_MESH_size_x) (d.rd Reg.WFT_MESH_size_y) d.self (flitDst body) cls det with
  | none => d
  | some (n, det') => d.sendOn n (flitVc cls det) (leBytes 4 (putBits w 6 6 (b2n det')) ++ body.drop 4)

/-- A flit routed afresh from this node (R392); to an unreachable destination it is discarded. -/
def Device.reroute (d : Device) (body : List Byte) : Device :=
  match d.route d.self (flitDst body) with
  | none => d
  | some (c, _) => d.forward (leBytes 4 (putBits (leAt body 0 4) 6 4 c) ++ body.drop 4)

/-- A flit that this node creates (R390, R391), with its class and its end-to-end sequence; none when the destination is
unreachable. -/
def Device.create (d : Device) (type dst tag addr : Nat) (payload : List Byte) : Option (List Byte × Device) :=
  (d.route d.self dst).map (fun r =>
    let e := tget (fun _ => 0) d.weft.next dst
    (flitBody type r.1 dst d.self e tag addr payload,
      { d with weft := { d.weft with next := tset (fun _ => 0) d.weft.next dst ((e + 1) % 65536) } }))

/-- A CTRL flit to the neighbour on link `n`. The manual gives its content no layout. -/
def Device.sendCtrl (d : Device) (n : Nat) : Device :=
  let (v, d) := d.free
  d.sendOn n 0 (flitBody 9 0 (v % 64) d.self (v / 64 % 65536) (v / 2 ^ 22 % 65536) (v / 2 ^ 38 % 2 ^ 64) (leBytes 64 (v / 2 ^ 102)))

/-- A CTRL flit on every other link that is up. -/
def Device.flood (d : Device) (n : Nat) : Device := (d.otherLinks n).foldl (fun d k => d.sendCtrl k) d

/-! ### Links that come up and fail -/

/-- A link goes down without a failure: its enable is cleared, or WEFT loses its power. -/
def Device.linkOff (d : Device) (n : Nat) : Device :=
  ((d.modLink n (fun x => { WLink.reset with retrain := x.retrain })).wr (Reg.WFT_LINK_STAT_up n) 0).showWeft

/-- The flits that wait anywhere are routed under the map as it is now (R392). -/
def Device.rerouteAll (d : Device) : Device :=
  let fs := (List.range 4).flatMap (fun n => ((d.link n).wait).map (·.2))
  fs.foldl (fun d b => d.reroute b) ((List.range 4).foldl (fun d n => d.modLink n (fun x => { x with wait := [] })) d)

/-- A link fails (R388, R392): it enters the map, LINK_DOWN goes out, and what its peer has not acknowledged goes another way. -/
def Device.linkFail (d : Device) (n : Nat) : Device :=
  let x := d.link n
  let d := ((d.wr (Reg.WFT_LINK_STAT_up n) 0).wr (Reg.WFT_LINK_STAT_failed n) 1).modLink n (fun _ => WLink.reset)
  let d := ((d.setMapped (linkIndex d.self n) true).raise (fault 0x03 4 0xE00000 n)).flood n
  let lost := x.replay.map (·.2) ++ x.wait.map (·.2)
  (lost.foldl (fun d b => d.reroute b) d.rerouteAll).showWeft

/-- `WFT_LINK_TRAIN` (R385, R388): an enabled link trains with a peer, `right` unless the peer reports the wrong direction. -/
def execWftLinkTrain (n latency : Nat) (right : Bool) (s : State) : Host.Outcome State Fault Refusal :=
  onDev s (fun d =>
    let was := d.on (Reg.WFT_LINK_STAT_failed n)
    d.when (decide (n < 4) && d.mode == .native && d.on (Reg.WFT_LINK_CTL_enable n) && !d.linkUp n
        && (!was || (d.link n).retrain) && d.rd (Reg.PWR_DOM_state 7) == 2 && d.weftUp) (fun d =>
      if !right then d.wr (Reg.WFT_LINK_STAT_miswired n) 1
      else
        let d := (((d.wr (Reg.WFT_LINK_STAT_up n) 1).wr (Reg.WFT_LINK_STAT_failed n) 0).wr (Reg.WFT_LINK_STAT_degraded n) 0).wr
          (Reg.WFT_LINK_STAT_latency n) latency
        let d := d.modLink n (fun _ => WLink.reset)
        (if was then (d.setMapped (linkIndex d.self n) false).flood n else d).showWeft))

/-- `WFT_LANE_FAIL` (R385): a lane fails; `pair` tells whether a pair of lanes passes. -/
def execWftLaneFail (n : Nat) (pair : Bool) (s : State) : Host.Outcome State Fault Refusal :=
  onDev s (fun d =>
    d.when (d.linkUp n) (fun d =>
      if pair && d.on (Reg.WFT_LINK_CTL_x2_ok n) && !d.on (Reg.WFT_LINK_STAT_degraded n) then
        d.wr (Reg.WFT_LINK_STAT_degraded n) 1
      else d.linkFail n))

/-- `WFT_LINK_FAIL` (R388, R392). -/
def execWftLinkFail (n : Nat) (s : State) : Host.Outcome State Fault Refusal :=
  onDev s (fun d => d.when (d.linkUp n) (fun d => d.linkFail n))

/-- `LINK_DOWN` (R388, R392): a CTRL flit that came on link `n` marks link `i` of the mesh failed, or good again. -/
def execLinkDown (n i : Nat) (bad : Bool) (s : State) : Host.Outcome State Fault Refusal :=
  onDev s (fun d =>
    d.when (d.linkUp n && decide (i < 112) && d.mapped i != bad) (fun d =>
      (((d.setMapped i bad).flood n).rerouteAll).showWeft))

/-- Whether an agent may write the WFT block (R384), while it is in service. -/
def Device.mayWft (d : Device) (ag : Agent) : Bool := d.weftUp && d.mode == .native && (ag == .manager || agentSecure ag)

/-- A write of 1 to WFT_LINK_n_CTL.retrain (R388). -/
def Device.linkRetrain (d : Device) (n : Nat) : Device :=
  if d.on (Reg.WFT_LINK_STAT_failed n) then d.modLink n (fun x => { x with retrain := true }) else d

/-- `WFT_RETRAIN` (R388). -/
def execWftRetrain (ag : Agent) (n : Nat) (s : State) : Host.Outcome State Fault Refusal :=
  onDev s (fun d => d.when (d.mayWft ag && decide (n < 4)) (fun d => d.linkRetrain n))

/-- `NUMBERING` (R390): node 0 numbers the wall, or a node takes its number and the wall's size from the first flit that
arrives on link `n`. -/
def execNumbering (n node sizeX sizeY : Nat) (s : State) : Host.Outcome State Fault Refusal :=
  onDev s (fun d =>
    d.when (d.weftUp && d.mode == .native && !d.on Reg.WFT_STATUS_numbered) (fun d =>
      if d.isRoot then (((d.wr Reg.WFT_MESH_node 0).wr Reg.WFT_STATUS_numbered 1).flood 4).showWeft
      else
        d.when (d.linkUp n && decide (node < 64) && decide (sizeX < 8) && decide (sizeY < 8)) (fun d =>
          (((((d.wr Reg.WFT_MESH_node node).wr Reg.WFT_MESH_size_x sizeX).wr Reg.WFT_MESH_size_y sizeY).wr
            Reg.WFT_STATUS_numbered 1).flood n).showWeft)))

/-! ### Beat lock (R394 to R398) -/

/-- Whether the beat follows the Weft links (R20, R394). -/
def Device.followsWeft (d : Device) : Bool :=
  d.mode == .native && !d.isRoot && d.rdAct Reg.BEAT_CTL_source == 1 && !d.flt.lostCompute

/-- A delay D, limited to 1,000 to 16,000 ns. -/
def clampDelay (v : Nat) : Nat := max 1000 (min 16000 v)

/-- The FCLK ticks of a time in units of 1/16 ns. -/
def ticksOf (u : Int) : Int := u / 20

/-- A control block sent on every other link that is up (R389). -/
def Device.sendBlock (d : Device) (n : Nat) (name : String) (fields : List Nat) : Device :=
  (d.otherLinks n).foldl (fun d k => d.emit (.block k name fields)) d

/-- A block places the coming edge of a node that follows the links (R394, R396). -/
def Device.placeEdge (d : Device) (number samples hops acc : Nat) : Device :=
  let own := d.beat.sbeat + 1
  if d.on Reg.WFT_BEAT_STAT_behind then d
  else if number < own then (if d.on Reg.WFT_BEAT_STAT_locked then d else d.wr Reg.WFT_BEAT_STAT_behind 1)
  else
    let d := (d.wr Reg.WFT_BEAT_STAT_locked 1).wr Reg.BEAT_STATUS_weft_locked 1
    let d := ((d.wr Reg.WFT_BEAT_STAT_holdover 0).wr Reg.WFT_BEAT_STAT_hops hops).wr Reg.WFT_BEAT_STAT_accum acc
    let u : Int := (d.weft.delay : Int) * 16 - acc
    let late := decide (u < 1600)
    let t := d.beat.clock + (if late then 80 else (ticksOf u).toNat)
    let d := if late then d.wr Reg.WFT_BEAT_STAT_late 1 else d
    { d with
      weft := { d.weft with edge := some (number, t), irregular := d.weft.irregular || decide (0 < d.weft.missed), missed := 0 }
      beat := { d.beat with nextSamples := some samples } }

/-- `BEAT_BLOCK` (R389, R394, R396): a BEAT block with its five fields arrives on link `n` at a tick of the beat. -/
def execBeatBlock (n number samples delay hops accum tick : Nat) (s : State) : Host.Outcome State Fault Refusal :=
  onDev s (fun d =>
    d.when (d.linkUp n && !d.isRoot && d.weft.lastBeat != some number) (fun d =>
      let d := d.atTick tick
      let acc := accum + d.rd (Reg.WFT_LINK_STAT_latency n)
      let d := d.sendBlock n "BEAT" [number, samples, delay, hops + 1, acc + 400]
      let d := { d with weft := { d.weft with lastBeat := some number, delay := clampDelay delay } }
      d.when (d.followsWeft && decide (12 ≤ samples) && decide (samples ≤ 192)) (fun d =>
        d.placeEdge number samples (hops + 1) acc)))

/-- `BEAT_BLOCK_MISSING` (R397): no block has come by the edge that a locked node predicts. -/
def execBeatBlockMissing (s : State) : Host.Outcome State Fault Refusal :=
  onDev s (fun d =>
    d.when (d.followsWeft && d.on Reg.WFT_BEAT_STAT_locked && d.weft.edge.isNone) (fun d =>
      let m := d.weft.missed + 1
      let d := (d.atTick (d.rd Reg.BEAT_PRED_ticks)).bump Reg.WFT_BEAT_SLIP_missing
      let d := { d with weft := { d.weft with missed := m, edge := some (d.beat.sbeat + 1, d.beat.clock) } }
      if m = 4 then (d.wr Reg.WFT_BEAT_STAT_holdover 1).raise (fault 0x03 4 0xE00000 0) else d))

/-! ### Frame lock (R399) -/

/-- A wall frame's reference: the frame number, and the clock of E + D. -/
def Device.frameRef (d : Device) (frame : Nat) (at' : Int) : Device :=
  { (d.setReg Reg.WFT_FLOCK_FRAME (w32 frame)) with
    disp := { d.disp with weftRef := some at'.toNat }
    weft := { d.weft with lastFrame := some frame } }

/-- `FRAME_TIMER` (R399): the frame timer of node 0 fires. -/
def execFrameTimer (s : State) : Host.Outcome State Fault Refusal :=
  onDev s (fun d =>
    d.when (d.weftUp && d.mode == .native && d.isRoot && d.on Reg.WFT_FLOCK_CFG_enable) (fun d =>
      let t := d.weft.timer.getD (d.beat.clock * 64)
      let d := d.atClock ((t + 63) / 64)
      let d := { d with weft := { d.weft with timer := some (t + (d.reg Reg.WFT_FLOCK_PERIOD).toNat) } }
      let frame := (d.rd Reg.WFT_FLOCK_FRAME_frame + 1) % 2 ^ 32
      let d := d.sendBlock 4 "FRAME" [frame, 0, 0]
      d.frameRef frame (d.beat.clock + ticksOf (clampDelay (d.rd Reg.WFT_BEAT_CFG_delay) * 16 : Nat))))

/-- `FRAME_BLOCK` (R389, R399). -/
def execFrameBlock (n frame hops accum tick : Nat) (s : State) : Host.Outcome State Fault Refusal :=
  onDev s (fun d =>
    d.when (d.linkUp n && !d.isRoot && d.weft.lastFrame != some frame) (fun d =>
      let d := d.atTick tick
      let acc := accum + d.rd (Reg.WFT_LINK_STAT_latency n)
      let d := d.sendBlock n "FRAME" [frame, hops + 1, acc + 400]
      d.frameRef frame (d.beat.clock + ticksOf ((d.weft.delay : Int) * 16 - acc))))

/-! ### Wake -/

/-- The WAKE block on every enabled link but `n`: the wake detectors work while the data paths of WEFT have no power. -/
def Device.sendWake (d : Device) (n : Nat) : Device :=
  (List.range 4).foldl (fun d k =>
    if k != n && d.mode == .native && d.on (Reg.WFT_LINK_CTL_enable k) then d.emit (.block k "WAKE" []) else d) d

/-- `WAKE_BLOCK` (R406): the detectors of a node in D-DIM see the pattern on link `n`. -/
def execWakeBlock (n : Nat) (s : State) : Host.Outcome State Fault Refusal :=
  onDev s (fun d =>
    d.when (decide (n < 4) && d.weftUp && d.mode == .native && d.on (Reg.WFT_LINK_CTL_enable n)
        && d.pwr.target.getD (d.rd Reg.PWR_STATE_state) == 1) (fun d =>
      (d.sendWake n).wakeSource (18 + n)))

/-! ### Scene broadcast (R404) -/

/-- The links on which node `v` forwards a broadcast: those to a neighbour whose route from node 0 comes through `v`. -/
def Device.bcastLinks (d : Device) (v : Nat) : List Nat :=
  (List.range 4).filter (fun n =>
    let u := stepNode v n
    let edge := match n with | 0 => decide (v % 8 < 7) | 1 => decide (v / 8 < 7) | 2 => decide (0 < v % 8) | _ => decide (0 < v / 8)
    edge && (match d.route 0 u with | some (_, p) => ((0 :: p).dropLast.getLast?) == some v | none => false))

/-- One BCAST_WR flit forwarded from this node. -/
def Device.bcastSend (d : Device) (addr : Nat) (bs : List Byte) : Device :=
  (d.bcastLinks d.self).foldl (fun d n =>
    match d.create 7 (stepNode d.self n) 0 addr bs with
    | some (b, d) => d.sendOn n 0 b
    | none => d) d

/-- The nodes of WFT_BC_MASK. -/
def Device.bcastNodes (d : Device) : List Nat := onesBelow 64 (d.addr64 Reg.WFT_BC_MASK_LO Reg.WFT_BC_MASK_HI)

/-- The end of a broadcast with the nodes that failed it. -/
def Device.bcastDone (d : Device) (status : Nat) (bad : List Nat) : Device :=
  let m := maskOf bad
  let d := ((d.wr Reg.WFT_BC_CMD_busy 0).wr Reg.WFT_BC_CMD_done 1).wr Reg.WFT_BC_CMD_status status
  let d := (d.setReg Reg.WFT_BC_FAIL_LO (w32 m)).setReg Reg.WFT_BC_FAIL_HI (w32 (m / 2 ^ 32))
  { d with weft := { d.weft with bcast := none, bcFail := [] } }

/-- The payloads of a broadcast. -/
def chunks64 : Nat → List Byte → List (List Byte)
  | 0, _ => []
  | n + 1, bs => bs.take 64 :: chunks64 n (bs.drop 64)

/-- The data of a broadcast sent from this node, and written to its own memory when the mask names it: whether a write was
discarded. -/
def Device.bcastData (d : Device) (own : Bool) : Nat → Bool → List (List Byte) → Bool × Device
  | _, bad, [] => (bad, d)
  | a, bad, b :: r =>
    let (ok, d) := if own then (match d.writeRaw .phys 9 a b with | (.ok (), d) => (true, d) | (.error _, d) => (false, d)) else (true, d)
    (d.bcastSend a b).bcastData own (a + 64) (bad || !ok) r

/-- A write of 1 to WFT_BC_CMD.go (R404). -/
def Device.bcastStart (d : Device) : Device :=
  if !d.isRoot || d.on Reg.WFT_BC_CMD_busy then d
  else
    let d := d.wr Reg.WFT_BC_CMD_done 0
    let n := d.rd Reg.WFT_BC_LEN_bytes / 64
    if n = 0 then d.bcastDone 0 []
    else
      match d.read (.inst (d.rd Reg.WFT_BC_CMD_inst)) 9 (d.addr64 Reg.WFT_BC_SRC_LO Reg.WFT_BC_SRC_HI) (n * 64) with
      | (.error .trans, d) => d.bcastDone 0x11 []
      | (.error (.ecc _), d) => d.bcastDone 0x10 d.bcastNodes
      | (.ok bs, d) =>
        let nodes := d.bcastNodes
        let (bad, d) := d.bcastData (nodes.contains 0) (d.addr64 Reg.WFT_BC_DST_LO Reg.WFT_BC_DST_HI) false (chunks64 n bs)
        let far := nodes.filter (· != 0)
        { d.wr Reg.WFT_BC_CMD_busy 1 with weft := { d.weft with
            bcast := some (far.filter (fun v => (d.route 0 v).isSome))
            bcFail := (if bad then [0] else []) ++ far.filter (fun v => (d.route 0 v).isNone) } }

/-- `BCAST_GO` (R404). -/
def execBcastGo (ag : Agent) (s : State) : Host.Outcome State Fault Refusal :=
  onDev s (fun d => d.when (d.mayWft ag) (fun d => d.bcastStart))

/-- `BCAST_END` (R404): every node has acknowledged, or 1 ms has passed since the last flit; `acked` and `discarded` tell what
the nodes reported. -/
def execBcastEnd (acked discarded : List Nat) (s : State) : Host.Outcome State Fault Refusal :=
  onDev s (fun d =>
    match d.weft.bcast with
    | none => d
    | some nodes =>
      let bad := d.weft.bcFail ++ nodes.filter (fun v => !acked.contains v || discarded.contains v)
      d.bcastDone (if bad.isEmpty then 0 else 0x10) bad)

/-! ### Events of remote instances -/

/-- `EVENT` (R403): a remote node's vector of an instance is signalled by node 0. -/
def execEvent (n inst vec : Nat) (s : State) : Host.Outcome State Fault Refusal :=
  onDev s (fun d => d.when (d.linkUp n && d.isRoot && decide (inst < 32)) (fun d => d.signal inst vec))

end Sys2Proof.Machine
end

