-- ==== Sys2Proof/Machine/Power.lean ====
section
/-!
DEFINITION. Power (R368 to R381): votes and domains, POWER items, lost supplies, the shader clock points, the device states and
their entry, the wake sources, and the I3C ports.
-/

namespace Sys2Proof.Machine

open Sys2Proof

/-! ### Votes (R369, R370) -/

/-- The state of domain `k`: 0 OFF, 1 UP, 2 ON, 3 DOWN. -/
def Device.dom (d : Device) (k : Nat) : Nat := d.rd (Reg.PWR_DOM_state k)

/-- Whether port `p` carries a head of the secure world. -/
def Device.securePort (d : Device) (p : Nat) : Bool :=
  (d.port p).streams.any (fun s => match s with
    | some h => d.on (Reg.HEAD_SEC_secure h) || d.on (Reg.CMP_GOWN_valid h)
    | none => false)

/-- Whether SHD of channel `c` holds a usage vote of a world. -/
def Device.shaderUse (d : Device) (secure : Bool) (c : Nat) : Bool :=
  let ctx := match d.ctx c with | some x => (x.sq == 4) == secure | none => false
  ctx || (!secure && (d.q.picks.any (fun p => p.ch == c && !p.held) || d.on (Reg.RAS_STATUS_rpj_running c)
    || (d.l2 c).any (fun l => l.dirty != 0)))

/-- The usage votes of a world (R369), with bit k for domain k. -/
def Device.usage (d : Device) (secure : Bool) : Nat :=
  let guard := (List.range 32).any (fun j => d.on (Reg.AUD_GUARD_enable j))
  let ports := (List.range 8).any (fun p => d.on (Reg.DP_CTL_enable p) && d.securePort p == secure)
  let weft := !secure && (List.range 4).any (fun n => d.on (Reg.WFT_LINK_CTL_enable n))
  let audio := if secure then guard else d.on Reg.AUD_CTL_run && !guard
  let touch := (List.range 4).any (fun n => d.on (Reg.TCH_CFG_enable n) && d.on (Reg.TCH_CFG_sec n) == secure)
  let hap := (List.range 8).any (fun n => d.on (Reg.HAP_CFG_enable n) && d.on (Reg.HAP_CFG_sec n) == secure)
  maskOf (((List.range 4).filter (d.shaderUse secure)).map (· + 2) ++ (if ports then [6] else []) ++ (if weft then [7] else [])
    ++ (if audio then [8] else []) ++ (if touch then [9] else []) ++ (if hap then [10] else []))

/-- Whether client `c` votes for domain `k`. -/
def Device.votes (d : Device) (c k : Nat) : Bool := (d.reg (Reg.PWR_VOTE c)).toNat.testBit k

/-- The clients that vote for domain `k`, in ascending order. -/
def Device.holders (d : Device) (k : Nat) : List Nat := (List.range 8).filter (fun c => d.votes c k)

/-- The vote word of client `c` set. -/
def Device.setVotes (d : Device) (c v : Nat) : Device := d.setReg (Reg.PWR_VOTE c) (w32 v &&& 0x7FC#32)

/-- The usage votes taken into their words, and PWR_DOM_d.votes. -/
def Device.showVotes (d : Device) : Device :=
  let d := (d.setVotes 6 (d.usage false)).setVotes 7 (d.usage true)
  (List.range 9).foldl (fun d j => d.wr (Reg.PWR_DOM_votes (j + 2)) (maskOf (d.holders (j + 2)))) d

/-! ### POWER items (R372) -/

/-- The domain and the request of a POWER item. -/
def Item.domain (x : Item) : Nat := x.pay 0x20 1
def Item.request (x : Item) : Nat := x.pay 0x24 1 % 4

/-- A POWER item takes effect in its turn. -/
def Device.powerItem (d : Device) (u : Nat) : Device :=
  match d.item u with
  | none => d
  | some x =>
    let k := x.domain
    let mine := (d.reg (Reg.PWR_VOTE 0)).toNat
    let wait := fun (d : Device) => { d with pwr := { d.pwr with waits := d.pwr.waits ++ [u] } }
    match x.request with
    | 0 => (d.setVotes 0 (putBits mine k k 0)).complete u stDone 0
    | 1 =>
      let d := d.setVotes 0 (putBits mine k k 1)
      if d.dom k = 2 then d.complete u stDone 0 else wait d
    | _ =>
      match (d.holders k).find? (· != 0) with
      | some c => d.complete u stVote c
      | none =>
        let d := d.setVotes 0 (putBits mine k k 0)
        if d.dom k = 0 then d.complete u stDone 0 else wait d

/-- The POWER items that wait for domain `k` to be ON (`up`) or OFF complete. -/
def Device.powerDone (d : Device) (k : Nat) (up : Bool) : Device :=
  let ready := d.pwr.waits.filter (fun u => match d.item u with
    | some x => x.domain == k && (x.request == 1) == up
    | none => true)
  ready.foldl (fun d u => d.complete u stDone 0)
    { d with pwr := { d.pwr with waits := d.pwr.waits.filter (fun u => !ready.contains u) } }

/-- A POWER item of a request at the head of its queue goes to the controller (R85). -/
def Device.powerSubmit (d : Device) (i n request : Nat) : Device :=
  match d.queueHead i n with
  | some x =>
    d.when (x.cls == 7 && x.request == request && d.mayStart x) (fun d =>
      let d := d.modItem x.uid (fun y => { y with stage := 6, started := true })
      { d with pwr := { d.pwr with votes := d.pwr.votes ++ [.item x.uid] } })
  | none => d

/-- `POWER_WITHDRAW` (R372): the item at the head of queue `n` of instance `i`. -/
def execPowerWithdraw (i n : Nat) (s : State) : Host.Outcome State Fault Refusal := onDev s (fun d => d.powerSubmit i n 0)

/-- `POWER_HOLD` (R372). -/
def execPowerHold (i n : Nat) (s : State) : Host.Outcome State Fault Refusal := onDev s (fun d => d.powerSubmit i n 1)

/-- `POWER_DROP` (R372). -/
def execPowerDrop (i n : Nat) (s : State) : Host.Outcome State Fault Refusal := onDev s (fun d => d.powerSubmit i n 2)

/-! ### Domains (R368, R370, R371) -/

/-- Every ray query that channel `c` serves fails. -/
def Device.failRays (d : Device) (c : Nat) : Device := (List.range 20).foldl (fun d _ => d.failRay c) d

/-- The effects of bridge `n` end with a report code, and those that wait are dropped. -/
def Device.hapDrop (d : Device) (n code : Nat) : Device :=
  let x := d.hap n
  let d := match x.splice with | some (f, _) => d.hapReport n f 5 | none => d
  let d := match x.queued with | some f => d.hapReport n f 5 | none => d
  ((d.modHap n (fun x => { x with queued := none, splice := none })).hapEnd n code).modHap n (fun x => { x with sound := [] })

/-- What domain `k` loses with its power (R368): registers stay, other SRAM does not. -/
def Device.domLose (d : Device) (k : Nat) : Device :=
  match k with
  | 6 => (List.range 8).foldl (fun d p => d.unlink p) d
  | 7 => (List.range 4).foldl (fun d n => d.linkOff n) d
  | 8 => (List.range 6).foldl (fun d p => d.wr (Reg.AUD_TDM_STAT_locked p) 0) d.audioOff
  | 9 => (List.range 4).foldl (fun d n =>
      d.touchStop n) d
  | 10 => (List.range 8).foldl (fun d n => d.hapDrop n 2) d
  | _ =>
    if 2 ≤ k && k ≤ 5 then
      let d := (d.failRays (k - 2)).setL2 (k - 2) []
      (List.range 12).foldl (fun d j => d.l1Drop (k - 2) j) d
    else d

/-- Domain `k` is ON: what waited for it goes on (R371). -/
def Device.domOn (d : Device) (k : Nat) : Device :=
  let d := d.wr (Reg.PWR_DOM_state k) 2
  let d := match k with
    | 6 => (List.range 8).foldl (fun (d : Device) p => match (d.port p).wait with | some sink => d.dpRun p sink | none => d) d
    | 8 => (List.range 6).foldl (fun d p =>
        let w := d.reg (Reg.AUD_TDM_CFG p)
        if bitOn w.toNat 31 && !tdmConverts w then d.wr (Reg.AUD_TDM_STAT_locked p) 1 else d) d
    | 9 => (List.range 4).foldl (fun d n => d.touchEnable n) d
    | _ => d
  d.powerDone k true

/-- `DOMAIN_UP_DONE` (R368, R371, R372): the up time of domain `k` has passed. -/
def execDomainUpDone (k : Nat) (s : State) : Host.Outcome State Fault Refusal :=
  onDev s (fun d => d.when (decide (2 ≤ k) && decide (k ≤ 10) && d.dom k == 1) (fun d => d.domOn k))

/-- `DOMAIN_DOWN_DONE` (R368, R372): domain `k` is OFF; L2 is cleaned before. -/
def execDomainDownDone (k : Nat) (s : State) : Host.Outcome State Fault Refusal :=
  onDev s (fun d =>
    d.when (decide (2 ≤ k) && decide (k ≤ 10) && d.dom k == 3) (fun d =>
      let d := if k ≤ 5 then d.l2Clean (k - 2) (fun _ => true) else d
      ((d.domLose k).wr (Reg.PWR_DOM_state k) 0).powerDone k false))

/-- The controller evaluates domain `k` (R370). -/
def Device.domEval (d : Device) (k : Nat) : Device :=
  let wanted := !(d.holders k).isEmpty
  if wanted && d.dom k == 0 && !d.pwr.supply.contains k then d.wr (Reg.PWR_DOM_state k) 1
  else if !wanted && d.dom k == 2 then d.wr (Reg.PWR_DOM_state k) 3
  else d

/-! ### Shader clock points (R374) -/

/-- The frequencies of points 0 to 3 of a grade in MHz. -/
def clockPoints : Grade → List Nat
  | .c16 => [1600, 1300, 1000, 600]
  | .a16 => [1600, 1300, 1000, 600]
  | _ => [1300, 1100, 900, 600]

/-- The point that a request is granted. -/
def grantPoint (ps : List Nat) (mhz : Nat) : Nat := ((List.range 4).reverse.find? (fun k => decide (mhz ≤ ps.getD k 0))).getD 0

/-- The requests of channel `n` granted. -/
def Device.dvfsGrant (d : Device) (n : Nat) : Device :=
  let ps := clockPoints d.grade
  let a := d.rd (Reg.PWR_DVFS_req_n n)
  let b := d.rd (Reg.PWR_DVFS_req_s n)
  let p := if d.pwr.tjHigh then 3 else min (grantPoint ps a) (grantPoint ps b)
  ((d.wr (Reg.PWR_DVFS_point n) p).wr (Reg.PWR_DVFS_thermal n) (b2n d.pwr.tjHigh)).wr (Reg.PWR_DVFS_clamped n)
    (b2n (decide (ps.getD 0 0 < a) || decide (ps.getD 0 0 < b)))

/-- Every channel's requests granted. -/
def Device.dvfsEdge (d : Device) : Device := (List.range 4).foldl (fun d n => d.dvfsGrant n) d

/-- A request for a clock point written by a world: the secure world writes req_s, and the manager writes req_n. -/
def Device.dvfsWrite (d : Device) (secure : Bool) (n mhz : Nat) : Device :=
  if secure then d.wr (Reg.PWR_DVFS_req_s n) mhz else d.wr (Reg.PWR_DVFS_req_n n) mhz

/-- Whether an agent may write the PWR block (R58, R382). -/
def mayPwr (ag : Agent) : Bool := ag == .manager || agentSecure ag

/-- Whether an agent may ask for a clock point of channel `n`: not the manager for CH0 and CH1 in LEGACY and MIXED modes (R427), and
nobody once the die of the power controller is lost (R13). -/
def Device.mayDvfs (d : Device) (ag : Agent) (n : Nat) : Bool :=
  mayPwr ag && !d.flt.lostMixed && decide (n < 4) && (agentSecure ag || d.mode == .native || decide (2 ≤ n))

/-- `DVFS_REQUEST` (R374): granted at the next edge. -/
def execDvfsRequest (ag : Agent) (n mhz : Nat) (s : State) : Host.Outcome State Fault Refusal :=
  onDev s (fun d => d.when (d.mayDvfs ag n) (fun d => d.dvfsWrite (agentSecure ag) n mhz))

/-- `THERMAL_OVER` (R374): Tj rises above the grade's range. -/
def execThermalOver (s : State) : Host.Outcome State Fault Refusal :=
  onDev s (fun d =>
    d.when (!d.pwr.tjHigh) (fun d =>
      ({ d with pwr := { d.pwr with tjHigh := true } }.dvfsEdge).raise (fault 0x10 1 0x200000 0)))

/-- `THERMAL_RECOVER` (R374): Tj is 5 °C inside the grade's range. -/
def execThermalRecover (s : State) : Host.Outcome State Fault Refusal :=
  onDev s (fun d => d.when d.pwr.tjHigh (fun d => { d with pwr := { d.pwr with tjHigh := false } }.dvfsEdge))

/-! ### Vote writes and lost supplies -/

/-- The vote word of a client written: at the controller it takes its turn with the POWER items (R372). -/
def Device.voteWrite (d : Device) (c : Nat) (v : Word) : Device :=
  let d := d.setVotes c v.toNat
  { d with pwr := { d.pwr with votes := d.pwr.votes ++ [.vote c v.toNat] } }

/-- The client whose vote word an agent writes (R369, R382). -/
def voteClient (ag : Agent) : Option Nat :=
  match ag with
  | .manager => some 0
  | _ => if agentSecure ag then some 5 else none

/-- `PWR_VOTE_WRITE` (R369). -/
def execPwrVoteWrite (ag : Agent) (c : Nat) (value : Word) (s : State) : Host.Outcome State Fault Refusal :=
  onDev s (fun d => d.when (voteClient ag == some c && !d.flt.lostMixed) (fun d => d.voteWrite c value))

/-- The supply of a wanted domain is lost (R373). -/
def Device.supplyDrop (d : Device) (k : Nat) : Device :=
  let secure := d.votes 5 k || d.votes 7 k
  let d := (d.wr (Reg.PWR_DOM_state k) 0).wr (Reg.PWR_DOM_lost k) 1
  let c := k - 2
  let us := if k ≤ 5 then
      (d.q.picks.filter (fun p => p.ch == c && !p.held)).map (·.item) ++ (match d.ctx c with | some x => [x.item] | none => [])
    else []
  let d := us.foldl (fun d u => d.stopItem u stFault 0x08) d
  let d := if k ≤ 5 then ([2 * c, 2 * c + 1].foldl (fun d h => d.modHead h (fun x => { x with rpj := none })) d).showRpj c else d
  (d.domLose k).raise { fault 0x08 4 0x200000 k with secure := secure }

/-! ### Device states (R375 to R380) -/

/-- The domains that a state drops (R375). -/
def dropped : Nat → List Nat
  | 1 => [2, 3, 4, 5, 6, 7]
  | 2 => [2, 3, 4, 5, 6, 7, 8, 9, 10]
  | _ => []

/-- A timing set with enable 0 put before the next latch line of a running head (R189, R377). -/
def Device.stopAtLatch (d : Device) (h : Nat) : Device :=
  if !d.running h then d
  else
    let ws := d.newest h 0
    d.modHead h (fun x => { x with coming := x.coming.filter (fun p => p.group != 0) ++
      [({ group := 0, words := ws.set 7 ((ws.getD 7 0#32) &&& 0x7FFFFFFF#32), commit := d.disp.commits, res := false, rpj := false } : Pend)] })

/-- A state request taken at an edge (R376, R377). -/
def Device.takeState (d : Device) : Device :=
  match d.pwr.req with
  | none => d
  | some (st, secure) =>
    let d := { d with pwr := { d.pwr with req := none } }
    if d.on Reg.PWR_STATE_busy || d.rd Reg.PWR_STATE_state != 0 then d
    else
      match if secure then none else [5, 7].find? (fun c => (dropped st).any (fun k => d.votes c k)) with
      | some c => (d.wr Reg.PWR_STATE_result stVote).wr Reg.PWR_STATE_holder c
      | none =>
        let d := d.wr Reg.PWR_STATE_result stDone
        if st = 0 then d
        else
          let d := { d.wr Reg.PWR_STATE_busy 1 with pwr := { d.pwr with target := some st, latched := [], linkL2 := false } }
          (List.range 8).foldl (fun d h => d.stopAtLatch h) d

/-- What the power controller does at step 0 of an edge (R25, R370, R372, R374, R376). -/
def Device.powerEdge (d : Device) : Device :=
  let d := d.showVotes
  let vs := d.pwr.votes
  let d := vs.foldl (fun (d : Device) (v : VoteOp) => match v with
    | .vote c v => d.setVotes c v
    | .item u => d.powerItem u) { d with pwr := { d.pwr with votes := [] } }
  let d := (d.showVotes.dvfsEdge).takeState
  let st : Nat := d.pwr.target.getD (d.rd Reg.PWR_STATE_state)
  let ks := if st = 0 then [2, 3, 4, 5, 6, 7, 8, 9, 10] else if st = 1 then [8, 9, 10] else []
  ks.foldl (fun d k => d.domEval k) d

/-- A write of PWR_STATE.req (R376): ignored while busy is set. The code 3 names no state and is ignored. -/
def Device.stateRequest (d : Device) (secure : Bool) (st : Nat) : Device :=
  if d.on Reg.PWR_STATE_busy || 3 ≤ st then d else { d with pwr := { d.pwr with req := some (st, secure) } }

/-- `STATE_REQUEST` (R376). -/
def execStateRequest (ag : Agent) (st : Nat) (s : State) : Host.Outcome State Fault Refusal :=
  onDev s (fun d => d.when (mayPwr ag && !d.flt.lostMixed) (fun d => d.stateRequest (agentSecure ag) st))

/-- Whether the entry can end: nothing of CORE that runs to its end still runs (R377). -/
def Device.entryReady (d : Device) (st : Nat) : Bool :=
  d.q.picks.all (·.held) && (List.range 4).all (fun c => (d.ctx c).isNone && !d.on (Reg.RAS_STATUS_rpj_running c))
    && (List.range 4).all (fun n => (d.copy n).run.isNone) && (List.range 5).all (fun q => !(d.seq q).running)
    && (st != 2 || d.pwr.linkL2)

/-- What the D8 writes and cleans before CORE enters retention (R377). -/
def Device.cleanAll (d : Device) : Device :=
  let d := (List.range 4).foldl (fun d c => d.l2Clean c (fun _ => true)) d
  let d := { d with mem := { d.mem with sets := d.mem.sets.map (fun (e : Nat × List ScLine) => (e.1, e.2.map (fun (l : ScLine) => { l with dirty := 0 }))) } }
  let d := (List.range 32).foldl (fun d i => d.flush i) d
  let d := (List.range 4).foldl (fun d c => (List.range 33).foldl (fun d i => d.retireWrite c i) d) d
  let d := d.writeFaults
  (List.range 16).foldl (fun d b => d.modCtl b (fun x => { x with rows := [] })) d

/-- `STATE_ENTRY` (R377): the entry runs to its end. -/
def execStateEntry (s : State) : Host.Outcome State Fault Refusal :=
  onDev s (fun d =>
    match d.pwr.target with
    | none => d
    | some st =>
      d.when (d.entryReady st) (fun d =>
        let d := (List.range 8).foldl (fun d h =>
          if !d.running h then d
          else
            let d := if (d.head h).cut || d.on (Reg.HEAD_STATUS_restarting h) then d else d.cutoff h
            (d.atClock (d.latchAt h)).latch h false) d
        let d := d.cleanAll
        let d := (dropped st).foldl (fun d k => (d.domLose k).wr (Reg.PWR_DOM_state k) 0) d
        let d := ((d.wr (Reg.PWR_DOM_state 1) 0).wr Reg.PWR_STATE_state st).wr Reg.PWR_STATE_busy 0
        { d with pwr := { d.pwr with target := none, exiting := !d.pwr.latched.isEmpty } }))

/-- `PME_TURN_OFF_HANDSHAKE` (R377): on the way to D-NAP the link enters L2. -/
def execPmeTurnOffHandshake (s : State) : Host.Outcome State Fault Refusal :=
  onDev s (fun d => d.when (d.pwr.target == some 2) (fun d => { d with pwr := { d.pwr with linkL2 := true } }))

/-! ### Wake sources (R378, R380) -/

/-- `WAKE_EVENT` (R378): a source occurs, by its bit of PWR_WAKE_EN. -/
def execWakeEvent (src : Nat) (s : State) : Host.Outcome State Fault Refusal :=
  onDev s (fun d => d.when (decide (src ≤ 21) || src == 31) (fun d => d.wakeSource src))

/-- `TRIG_EDGE` (R232, R380): an edge of pin `t` at a tick of the beat. -/
def execTrigEdge (t : Nat) (rising : Bool) (tick : Nat) (s : State) : Host.Outcome State Fault Refusal :=
  onDev s (fun d =>
    d.when (decide (t < 8) && !d.flt.lostMixed) (fun d =>
      let d := (d.atTick tick).trigLevel t rising
      let on := d.on (Reg.HAP_TRIG_CFG_enable t) && edgeSelected (d.rd (Reg.HAP_TRIG_CFG_edge t)) rising
      let st := d.pwr.target.getD (d.rd Reg.PWR_STATE_state)
      d.when on (fun d =>
        if st = 2 then
          (if (d.reg Reg.PWR_WAKE_EN).toNat.testBit t then d.wakeSource t else d.bump (Reg.HAP_TRIG_STAT_suppressed t))
        else (d.trigPlay t).wakeSource t)))

/-- `RO_GATE_END` (R221, R222, R380): a gate of channel `n` ends with a count. In D-NAP only wake channels run, and a PRESS that
wakes is replayed after the exit. -/
def execRoGateEnd (n count tick : Nat) (s : State) : Host.Outcome State Fault Refusal :=
  onDev s (fun d =>
    let st := d.pwr.target.getD (d.rd Reg.PWR_STATE_state)
    let wake := d.on (Reg.RO_CFG_wake (if d.knobPair n then n - n % 2 else n))
    d.when (decide (n < 8) && (st != 2 || wake) && !d.flt.lostMixed) (fun d =>
      let d := d.atTick tick
      if st = 2 && d.on (Reg.RO_CFG_enable n) && (d.reg Reg.PWR_WAKE_EN).toNat.testBit (8 + n)
          && d.rd (Reg.RO_CFG_mode (n - n % 2)) != 2 then
        let was := d.on (Reg.RO_STAT_active n)
        let (drop, d) := d.relaxCount n n count
        let now := d.on (Reg.RO_STAT_active n)
        if now && !was then d.wakeSource (8 + n) else if was && !now then d.relaxRecord n 6 0#32 drop else d
      else
        let (press, d) := d.relaxGate n count
        if press && wake then d.wakeSource (8 + n) else d))

/-! ### I3C (R381) -/

/-- Whether an address on the bus is that of I3C_0, whose die lives. -/
def Device.i3cMatch (d : Device) (addr : Nat) : Bool :=
  !d.flt.lostMixed && match d.pwr.dynAddr with
  | some a => addr == a
  | none => addr == d.rd Reg.PWR_I3C0_CFG_addr

/-- `I3C0_WRITE`: a controller writes 1 to 4 bytes to an address. A short write leaves the upper bytes open. -/
def execI3c0Write (addr : Nat) (bs : List Byte) (s : State) : Host.Outcome State Fault Refusal :=
  onDev s (fun d =>
    d.when (d.i3cMatch addr && decide (1 ≤ bs.length) && decide (bs.length ≤ 4)) (fun d =>
      if d.awake then
        let (v, d) := if bs.length = 4 then (0, d) else d.free
        let d := d.setReg Reg.PWR_I3C0_IN (w32 (leNat (bs ++ (leBytes 4 v).drop bs.length)))
        (d.event 4 evMail).emit (.permit true)
      else (d.wakeSource 31).emit (.permit false)))

/-- `I3C0_READ`: a controller reads `n` bytes. -/
def execI3c0Read (addr n : Nat) (s : State) : Host.Outcome State Fault Refusal :=
  onDev s (fun d =>
    d.when (d.i3cMatch addr && decide (1 ≤ n) && decide (n ≤ 4)) (fun d =>
      if d.awake then (d.emit (.permit true)).emit (.bytes ((leBytes 4 (d.reg Reg.PWR_I3C0_OUT).toNat).take n))
      else d.emit (.permit false)))

/-- `DYNAMIC_ADDRESSING`: ENTDAA, or SETDASA to the static address, assigns an address. As an I2C target I3C_0 takes none. -/
def execDynamicAddressing (setdasa : Bool) (static addr : Nat) (s : State) : Host.Outcome State Fault Refusal :=
  onDev s (fun d =>
    d.when (!d.on Reg.PWR_I3C0_CFG_i2c && d.awake && !d.flt.lostMixed && decide (addr < 128)
        && (if setdasa then static == d.rd Reg.PWR_I3C0_CFG_addr else d.pwr.dynAddr.isNone))
      (fun d => { d with pwr := { d.pwr with dynAddr := some addr } }))

/-- A write of PWR_I3C1_CMD: its fields, and the start of a transfer with go. -/
def Device.i3c1Write (d : Device) (v : Word) : Device :=
  let d := d.setReg Reg.PWR_I3C1_CMD ((d.reg Reg.PWR_I3C1_CMD &&& 0xE0000000#32) ||| (v &&& 0x1F7F#32))
  if bitOn v.toNat 31 then
    { (d.wr Reg.PWR_I3C1_CMD_done 0).wr Reg.PWR_I3C1_CMD_nack 0 with pwr := { d.pwr with i3c1 := true } }
  else d

/-- `I3C1_TRANSFER` (R381, R382). -/
def execI3c1Transfer (ag : Agent) (value : Word) (s : State) : Host.Outcome State Fault Refusal :=
  onDev s (fun d => d.when (mayPwr ag && !d.flt.lostMixed) (fun d => d.i3c1Write value))

/-- `I3C1_TRANSFER_DONE`: the transfer ends; a read that the target acknowledged brings its bytes, and leaves the bytes above
them open. -/
def execI3c1TransferDone (nack : Bool) (data : Word) (s : State) : Host.Outcome State Fault Refusal :=
  onDev s (fun d =>
    d.when (d.pwr.i3c1 && !d.flt.lostMixed) (fun d =>
      let d := ({ d with pwr := { d.pwr with i3c1 := false } }.wr Reg.PWR_I3C1_CMD_done 1).wr Reg.PWR_I3C1_CMD_nack (b2n nack)
      if d.on Reg.PWR_I3C1_CMD_rnw && !nack then
        let n := d.rd Reg.PWR_I3C1_CMD_len + 1
        let (v, d) := if n = 4 then (0, d) else d.free
        d.setReg Reg.PWR_I3C1_DATA (w32 (leNat ((leBytes 4 data.toNat).take n ++ (leBytes 4 v).drop n)))
      else d))

end Sys2Proof.Machine
end

