-- ==== Sys2Proof/Machine/Boot.lean ====
section
/-!
DEFINITION. The start-up path (R470 to R479): boot settings and keys, the seed mirror and the mode, training, the boot container
and the draft images that it loads.
-/

namespace Sys2Proof.Machine

open Sys2Proof

/-! ### Mode -/

/-- The mode of sampled pins (R5, R6, R323), with the code of GLB_MODE.source. -/
def Device.decideMode (d : Device) (pins : Nat) : Mode × Nat :=
  match pins with
  | 0 => (.native, 0)
  | 1 => (.legacy, 0)
  | 2 => (.mixed, 0)
  | _ =>
    let v := d.seedValue 0xF00
    if (d.seedReg 0xF00).blank then (.native, 2)
    else
      match v - 0xA55A0000 with
      | 0 => if v = 0xA55A0000 then (.native, 1) else (.native, 3)
      | 1 => (.legacy, 1)
      | 2 => (.mixed, 1)
      | _ => (.native, 3)

/-- The mode taken (R4 to R6): in LEGACY the manager's vote word resets without SHD_2 and SHD_3 (R382). -/
def Device.takeMode (d : Device) : Device :=
  let (m, src) := d.decideMode (d.rd Reg.GLB_MODE_pins)
  let d := ({ d with mode := m }.wr Reg.GLB_MODE_source src).wr Reg.GLB_MODE_mode (modeBit m)
  let d := if m == .legacy then d.setReg (Reg.PWR_VOTE 0) (w32 (0x1F3 * 4)) else d
  if src = 3 then d.raise { fault 0x04 4 0 0 with infoA := d.seedValue 0xF00 } else d

/-- `SEED_MIRROR_READY` (R312, R328, R475): phase SEED ends, and the debug enables take effect. -/
def execSeedMirrorReady (s : State) : Host.Outcome State Fault Refusal :=
  onDev s (fun d =>
    d.when (d.phase == 1 && !d.on Reg.SEED_STATUS_ready) (fun d =>
      let d := d.loadSeed.takeMode.loadAudio
      let d := d.wr Reg.WLD_DBG_in_effect (wbits (d.reg Reg.WLD_DBG) 3 0)
      let d := if d.glass.vhap then d.calStartup else { d with glass := { d.glass with calDue := true } }
      d.wr Reg.GLB_BOOT_phase 2))

/-- `TRAINING_DONE` (R280 to R283, R478): phase TRAIN ends, or start-up stops. -/
def execTrainingDone (t : Training) (s : State) : Host.Outcome State Fault Refusal :=
  onDev s (fun d =>
    d.when (d.phase == 2) (fun d =>
      let d := d.train t
      if d.memUp then d.wr Reg.GLB_BOOT_phase 3 else (d.wr Reg.GLB_BOOT_phase 0xF).wr Reg.GLB_BOOT_error 1))

/-! ### Keys -/

/-- The digest in key slot `k`; none when the slot is blank (R470). -/
def Device.keyDigest (d : Device) (k : Nat) : Option Nat :=
  let rs := (List.range 12).map (fun j => 0xFD0 + 12 * (k - 1) + j)
  if rs.all (fun i => (d.seedReg i).blank) then none
  else some (rs.foldl (fun v i => v * 2 ^ 32 + d.seedValue i) 0)

/-- Whether key `k` is revoked. -/
def Device.revoked (d : Device) (k : Nat) : Bool := (d.seedValue 0xFC1).testBit k

/-- Whether every digest slot is blank, so that the first-use rule applies (R472). -/
def Device.firstUse (d : Device) : Bool := [1, 2, 3].all (fun k => (d.keyDigest k).isNone)

/-- The public key in field `k` of a container. -/
def keyField (b : List Byte) (k : Nat) : List Byte := (b.drop (0x100 + 0x60 * (k - 1))).take 96

/-- The public key under which a container that names key `k` is verified; none when the index names no usable key (R471, R472). -/
def Device.containerKey (d : Device) (b : List Byte) (k : Nat) : Option (List Byte) :=
  if 3 < k || d.revoked k then none
  else if k = 0 then some (rawRead d.mems.mram 0x28000 96)
  else
    match d.keyDigest k with
    | some h => if sha384 (keyField b k) = h then some (keyField b k) else none
    | none => if d.firstUse then some (keyField b k) else none

/-- Whether every key is revoked or unusable (R478). -/
def Device.noKeys (d : Device) : Bool :=
  d.revoked 0 && [1, 2, 3].all (fun k => d.revoked k || ((d.keyDigest k).isNone && !d.firstUse))

/-! ### The container -/

/-- The length that a container's header names. -/
def contLen (b : List Byte) : Nat := leAt b 0xC 4

/-- Entry `e` of a container: its words 0 to 3. -/
def contEntry (b : List Byte) (e : Nat) : List Nat := (List.range 4).map (fun i => leAt b (0x20 + 16 * e + 4 * i) 4)

/-- The entries of a container. -/
def contEntries (b : List Byte) : List (List Nat) := (List.range (leAt b 0x10 1 % 16)).map (contEntry b)

/-- Whether an entry's first word is well formed. -/
def entryOk (w : List Nat) : Bool :=
  let k := w.getD 0 0
  (k % 256 == 1 || k % 256 == 2) && decide (k < 2 ^ 13)

/-- Whether a container's header is well formed (R473). -/
def contHeaderOk (b : List Byte) : Bool :=
  leAt b 0 4 == 0x4B424F54 && leAt b 4 4 == 1 && decide (0x400 + 104 ≤ contLen b) && decide (contLen b ≤ 2 ^ 24)
    && (leAt b 0x10 4 &&& 0xFFFFF0F0) == 0 && decide (1 ≤ leAt b 0x10 1 % 16) && decide (leAt b 0x10 1 % 16 ≤ 8)
    && (contEntries b).all entryOk && ((b.drop 0x220).take 480).all (fun x => x == 0#8)

/-- The signature block that ends a container. -/
def contSig (b : List Byte) : List Byte := (b.drop (contLen b - 104)).take 104

/-- Why a container is refused, in the codes of GLB_BOOT.error; 0 when it is accepted (R474). -/
def Device.contRefusal (d : Device) (b : List Byte) : Nat :=
  if !contHeaderOk b || b.length < contLen b || !sigOk (contSig b) then 2
  else if leAt b 8 4 < d.seedValue 0xFC2 then 4
  else
    match d.containerKey b (leAt (contSig b) 0 4) with
    | none => 5
    | some k =>
      if !signedBy k (b.take (contLen b - 104)) (contSig b) then 3
      else if (contEntries b).any (fun w => decide (contLen b < w.getD 1 0 + w.getD 2 0)) then 2
      else 0

/-- The record of a refused copy (R474). -/
def Device.refuseCopy (d : Device) (copy err : Nat) : Device :=
  d.raise { fault 0x04 5 0 copy with infoA := copy, infoB := err }

/-- A digest written into key slot `k` at first use (R472). -/
def Device.bindKey (d : Device) (k h : Nat) : Device :=
  (List.range 12).foldl (fun d j =>
    d.seedPerform { src := .item 0, reg := 0xFD0 + 12 * (k - 1) + j, value := h / 2 ^ (32 * (11 - j)) % 2 ^ 32 } .good) d

/-- A draft entry loaded into sequencer `q` (R77, R474): the result of the load. -/
def Device.bootLoad (d : Device) (q : Nat) (b : List Byte) : Nat × Device :=
  let r := d.imageResult q b true
  let d := d.loadEnd q r (if r = resOk then some (imageOf b) else none)
  (r, if r = resOk then d.wr (Reg.CSQ_CTL_run q) 1 else d)

/-- The draft entries that name sequencer `q`. -/
def contDrafts (b : List Byte) (q : Nat) : List (List Byte) :=
  ((contEntries b).filter (fun w => w.getD 0 0 % 256 == 1 && (w.getD 0 0).testBit (8 + q))).map
    (fun w => (b.drop (w.getD 1 0)).take (w.getD 2 0))

/-- The drafts of an accepted container loaded (R474, R478): without a good SSQ image start-up stops; a CSQ whose image is
refused stays without one. -/
def Device.contLoad (d : Device) (b : List Byte) (copy : Nat) : Device :=
  match contDrafts b 4 with
  | [i] =>
    let (r, d) := d.bootLoad 4 i
    if r != resOk then ((d.refuseCopy copy 6).wr Reg.GLB_BOOT_phase 0xF).wr Reg.GLB_BOOT_error 6
    else
      [0, 1, 2, 3].foldl (fun d q => (contDrafts b q).foldl (fun d i =>
        let (r, d) := d.bootLoad q i
        if r = resOk then d
        else
          let d := d.refuseCopy copy 0
          if d.mode != .native && q ≤ 1 then d.wr Reg.UDC_STAT_draft_fault 1 else d) d) d
  | _ => ((d.refuseCopy copy 6).wr Reg.GLB_BOOT_phase 0xF).wr Reg.GLB_BOOT_error 6

/-- An accepted container takes effect (R471 to R475): keys, data entries, Weft links, drafts. -/
def Device.contAccept (d : Device) (b : List Byte) (copy : Nat) : Device :=
  let k := leAt (contSig b) 0 4
  let keys := (List.range 4).filterMap (fun j =>
    if j = 0 || j = k || (d.keyDigest j).isSome then (d.containerKey b j).map (fun x => (j, x)) else none)
  let d := if k != 0 && (d.keyDigest k).isNone then d.bindKey k (sha384 (keyField b k)) else d
  let d := { d with boot := { d.boot with keys := keys } }
  let d := ((d.wr Reg.GLB_BOOT_error 0).wr Reg.GLB_BOOT_copy copy).wr Reg.GLB_BOOT_key k
  let d := ((contEntries b).filter (fun w => w.getD 0 0 % 256 == 2)).foldl (fun d w =>
    (d.writeRaw .securePhys 8 (w.getD 3 0 * 4096) ((b.drop (w.getD 1 0)).take (w.getD 2 0))).2) d
  let d := if d.mode == .native then
      ((List.range 4).filter (fun n => (leAt b 0x11 1).testBit n)).foldl (fun d n => d.wr (Reg.WFT_LINK_CTL_enable n) 1) d
    else d
  d.contLoad b copy

/-- The bytes of flash copy `c` as far as its header says. -/
def Device.flashCopy (d : Device) (c : Nat) : List Byte :=
  let h := rawRead d.mems.flash (c * 2 ^ 24) 0x400
  if contHeaderOk h then rawRead d.mems.flash (c * 2 ^ 24) (contLen h) else h

/-- The copies tried in order until one is accepted (R474): `err` is the error of the last copy refused. -/
def Device.tryCopies (d : Device) (err : Nat) : List (Nat × List Byte) → Device
  | [] =>
    let src := d.seedValue 0xFC0 % 4
    (d.wr Reg.GLB_BOOT_phase (if src = 1 then 0xF else 4)).wr Reg.GLB_BOOT_error err
  | (c, b) :: r =>
    let e := d.contRefusal b
    if e = 0 then d.contAccept b c else (d.refuseCopy c e).tryCopies e r

/-- `BOOT_IMAGE_CHECK` (R474, R475, R478): the loader reads both headers, refuses those that are not well formed, and tries the
others, the higher serial first. -/
def execBootImageCheck (s : State) : Host.Outcome State Fault Refusal :=
  onDev s (fun d =>
    d.when (d.phase == 3 && !(d.on (Reg.CSQ_LOAD_pending 4))) (fun d =>
      if d.noKeys then ((d.refuseCopy 0 5).wr Reg.GLB_BOOT_phase 0xF).wr Reg.GLB_BOOT_error 5
      else if d.seedValue 0xFC0 % 4 = 2 then d.wr Reg.GLB_BOOT_phase 4
      else
        let cs := [0, 1].map (fun c => (c, d.flashCopy c))
        let bad := cs.filter (fun c => !contHeaderOk c.2)
        let good := cs.filter (fun c => contHeaderOk c.2)
        let good := if leAt ((good.getD 0 (0, [])).2) 8 4 < leAt ((good.getD 1 (0, [])).2) 8 4 then good.reverse else good
        (bad.foldl (fun d c => d.refuseCopy c.1 2) d).tryCopies 2 good))

/-- The result code of GLB_BOOT_CMD for a refusal (R479). -/
def bootResult (e : Nat) : Nat :=
  if e = 0 then resOk else if e = 2 then resInvalid else if e = 3 then resBadsig else resDenied

/-- The bytes that a read gave, and the device that it left; none when it failed. -/
def bytesRead (p : Except MemErr (List Byte) × Device) : List Byte × Device :=
  match p with
  | (.ok b, d) => (b, d)
  | (.error _, d) => ([], d)

/-- A container that the host placed at `a`, with its first 1,024 bytes as they were read: the rest is read and the whole is checked. -/
def hostCopy (a : Nat) (p : Except MemErr (List Byte) × Device) : Device :=
  let (b, d) := match p with
    | (.ok h, d) => if contHeaderOk h then bytesRead (d.read .phys 8 a (contLen h)) else (h, d)
    | (.error _, d) => ([], d)
  let e := d.contRefusal b
  let d := d.wr Reg.GLB_BOOT_CMD_result (bootResult e)
  if e = 0 then (d.wr Reg.GLB_BOOT_phase 3).contAccept b 2
  else (d.refuseCopy 2 e).wr Reg.GLB_BOOT_error e

/-- A write of 1 to GLB_BOOT_CMD.go in phase HOST_WAIT (R475, R479): the container at GLB_BOOT_IMG is checked as a copy from flash. -/
def Device.bootGo (d : Device) : Device :=
  let a := d.addr64 Reg.GLB_BOOT_IMG_LO Reg.GLB_BOOT_IMG_HI
  hostCopy a (d.read .phys 8 a 0x400)

/-- `BOOT_CMD_GO` (R479): only the manager, and only in phase HOST_WAIT. -/
def execBootCmdGo (ag : Agent) (s : State) : Host.Outcome State Fault Refusal :=
  onDev s (fun d => d.when (ag == .manager && d.phase == 4) (fun d => d.bootGo))

end Sys2Proof.Machine
end

