-- ==== Sys2Proof/Machine/RegIf.lean ====
section
/-!
DEFINITION. The register interface (R408 to R425): who may write what (R411 and the blocks' own chapters), what a write of each
register does, aliases, holes, posted and guarded writes, and reads.
-/

namespace Sys2Proof.Machine

open Sys2Proof

/-! ### The map -/

/-- The alias page of an offset (R412): 0 the register itself, 1 set, 2 clear, 3 toggle. -/
def aliasPage (a : Nat) : Nat := a % 0x100000 / 0x40000

/-- The offset of the register that an alias offset names. -/
def aliasBase (a : Nat) : Nat := a - aliasPage a * 0x40000

/-- The sequencer whose block an offset lies in. -/
def seqOfBlock (a : Nat) : Option Nat :=
  if a / 0x100000 = 0x20 then some 4
  else if 0x10 ≤ a / 0x100000 && a / 0x100000 < 0x20 && a / 0x100000 % 4 = 0 then some (a / 0x400000 - 4) else none

/-- Whether an offset lies in a sequencer's DMEM window (R79). -/
def inDmem (a : Nat) : Bool :=
  match seqOfBlock a with
  | some q => decide (0x20000 ≤ a % 0x100000) && decide (a % 0x100000 < 0x20000 + dmemSize q)
  | none => false

/-- Whether an offset lies in a sequencer's IMEM copy (R79). -/
def inImem (a : Nat) : Bool := (seqOfBlock a).isSome && decide (0x30000 ≤ a % 0x100000) && decide (a % 0x100000 < 0x40000)

/-- Whether an offset lies in the value, information or record window of SEED. -/
def inSeedWin (a : Nat) : Bool :=
  (decide (0x410000 ≤ a) && decide (a < 0x418000)) || (decide (0x430000 ≤ a) && decide (a < 0x440000))

/-- Whether an offset lies in the banks, the sink blocks or the preset RAM of AUD. -/
def inAudRam (a : Nat) : Bool := decide (Reg.AUD_PRESET 0 ≤ a) && decide (a < 0xB38000)

/-- Whether an offset lies in a window or a RAM, which have no aliases (R413). -/
def isWindow (a : Nat) : Bool :=
  inDmem a || inImem a || inSeedWin a || inAudRam a || (decide (0xD10000 ≤ a) && decide (a < 0xD20000))

/-- Whether a register or window occupies an offset (R409). -/
def regExists (a : Nat) : Bool := inDmem a || inImem a || inSeedWin a || (findRow a).isSome

/-- The posted block that takes a write of an offset, in the block itself or through an alias page (R408, R412): its number, which is
bits [27:20] of its base. -/
def postedOf (a : Nat) : Option Nat :=
  match a / 0x100000 with
  | 0 => if 0x8000 ≤ a % 0x40000 && a % 0x40000 < 0x10000 then some 0 else none
  | 2 => some 2
  | 4 => some 4
  | 0xB => some 0xB
  | 0xC => some 0xC
  | 0xD => some 0xD
  | _ => none

/-! ### Who may write -/

/-- Whether an agent acts as the manager: the debug port does in the normal world (R312). -/
def isMan (ag : Agent) : Bool := ag == .manager || ag == .debug false

/-- Whether an agent is a sequencer of the normal world. -/
def isCsq (ag : Agent) : Bool :=
  match ag with
  | .seq n => n < 4
  | _ => false

/-- Whether an agent drives the mixed-signal and INST blocks (R58): the manager, and the drafts. -/
def isDriver (ag : Agent) : Bool := isMan ag || isCsq ag

/-- Whether an agent of the normal world drives a resource of the legacy partition (R426, R427): there only the compatibility
draft does. -/
def Device.legacyOk (d : Device) (ag : Agent) : Bool := d.mode == .native || ag == .seq 0 || ag == .seq 1

/-- Whether the world that an agent acts in owns a block that changes world, and no hand-over of it runs (R314, R315). -/
def Device.worldOk (d : Device) (ag : Agent) (kind unit : Nat) : Bool :=
  (agentSecure ag || !d.on (hoField kind unit)) && !d.handovers.any (fun h => h.kind == kind && h.unit == unit)

/-- Whether an agent may write the PWR block at an offset (R58, R382). -/
def mayWritePwr (ag : Agent) (a : Nat) : Bool :=
  if Reg.PWR_VOTE 0 ≤ a && a ≤ Reg.PWR_VOTE 7 then voteClient ag == some ((a - Reg.PWR_VOTE 0) / 4) else isMan ag || agentSecure ag

/-- Whether an agent may write the INST block at an offset (R58, R96, R298, R403): a queue page belongs to its instance; on a
remote node the manager reaches every page. -/
def Device.mayWriteInst (d : Device) (ag : Agent) (a : Nat) : Bool :=
  if 0x610000 ≤ a then
    let i := (a - 0x610000) / 0x1000
    ag == .guest i || (isMan ag && (i == 0 || (d.mode == .native && !d.isRoot && d.on Reg.WFT_STATUS_numbered)))
  else if a < 0x601000 then isMan ag
  else isDriver ag || agentSecure ag

/-- Whether an agent may write the AUD block at an offset (R250, R251, R313, R427). Banks and presets have rules of their own. -/
def Device.mayWriteAud (d : Device) (ag : Agent) (a : Nat) : Bool :=
  if inAudRam a then isDriver ag || agentSecure ag
  else if Reg.AUD_GUARD 0 ≤ a && a ≤ Reg.AUD_GUARD 31 then agentSecure ag
  else if Reg.AUD_TDM_CFG 0 ≤ a && a < Reg.AUD_TDM_CFG 6 then
    let p := (a - Reg.AUD_TDM_CFG 0) / 0x10
    agentSecure ag || (isDriver ag && ((a - Reg.AUD_TDM_CFG 0) % 0x10 != 0
      || ((decide (2 ≤ p) || d.legacyOk ag) && !(List.range 16).any (fun s => d.guarded (16 * p + s)))))
  else if Reg.AUD_MC_LO 0 ≤ a && a < Reg.AUD_MC_LO 16 then
    let n := (a - Reg.AUD_MC_LO 0) / 0x20
    agentSecure ag || (isDriver ag && !(decide ((a - Reg.AUD_MC_LO 0) % 0x20 < 0xC) && d.guarded (104 + n)))
  else if Reg.AUD_GEN_CFG 0 ≤ a && a < Reg.AUD_GEN_CFG 8 then agentSecure ag
  else isDriver ag || agentSecure ag

/-- Whether an agent may write the TCH and RO block at an offset (R220, R314, R427). -/
def Device.mayWriteTch (d : Device) (ag : Agent) (a : Nat) : Bool :=
  if Reg.TCH_CFG 0 ≤ a && a < Reg.TCH_CFG 4 then
    let n := (a - Reg.TCH_CFG 0) / 0x40
    d.worldOk ag 0 n && (agentSecure ag || (isDriver ag && (decide (2 ≤ n) || d.legacyOk ag)))
  else isDriver ag || agentSecure ag

/-- Whether an agent may write the HAP block at an offset (R234, R251, R314). -/
def Device.mayWriteHap (d : Device) (ag : Agent) (a : Nat) : Bool :=
  if Reg.HAP_CFG 0 ≤ a && a < Reg.HAP_CFG 8 then
    let n := (a - Reg.HAP_CFG 0) / 0x40
    d.worldOk ag 1 n && (agentSecure ag || (isDriver ag && !(decide ((a - Reg.HAP_CFG 0) % 0x40 < 0xC) && d.guarded (96 + n))))
  else if Reg.HAP_TRIG_CFG 0 ≤ a && a < Reg.HAP_TRIG_CFG 8 then
    let n := d.rd (Reg.HAP_TRIG_CFG_channel ((a - Reg.HAP_TRIG_CFG 0) / 0x10))
    d.worldOk ag 1 n && (agentSecure ag || isDriver ag)
  else isDriver ag || agentSecure ag

/-- Whether an agent may write a block of channel `c` at block offset `o` (R58, R127, R157, R180, R181, R427): `k` is 0 CSQ, 1
RAS, 2 CMP, 3 head pair. -/
def Device.mayWriteChannel (d : Device) (ag : Agent) (c k o : Nat) : Bool :=
  let own := ag == .seq c
  let man := isMan ag && (d.mode == .native || decide (2 ≤ c))
  if agentSecure ag then true
  else
    match k with
    | 0 => d.maySeq ag c
    | 1 => man || (own && [0x100, 0x104, 0x108, 0x140, 0x144, 0x148].contains o)
    | 2 =>
      if o < 0x1000 then
        if o = 0x14 || [0x110, 0x130].contains o || (0x600 ≤ o && o < 0x610) || (0x700 ≤ o && o < 0x740) then false
        else if 0x100 ≤ o && o < 0x140 then man
        else man || own
      else decide (o % 0x1000 / 0x20 ≠ 16) && (man || own)
    | _ =>
      if 0x2000 ≤ o then man
      else if [0x44, 0x78].contains (o % 0x1000) || (0x100 ≤ o % 0x1000 && o % 0x1000 < 0x300) then false
      else man || own

/-- Whether an agent may write the register at offset `a` (R411). Every agent acts on the compute die, so its loss ends every write
(R13). -/
def Device.mayWrite (d : Device) (ag : Agent) (a : Nat) : Bool :=
  let sec := agentSecure ag
  let man := isMan ag
  !d.flt.lostCompute && match a / 0x100000 with
  | 0 =>
    if Reg.GLB_BOOT_IMG_LO ≤ a && a ≤ Reg.GLB_BOOT_CMD then ag == .manager && d.phase == 4 else man || sec
  | 1 =>
    if a = Reg.BEAT_SQ_BUDGET 4 then sec
    else
      man || sec || (match ag with
        | .seq c => [Reg.BEAT_PERIOD, Reg.BEAT_SQ_BUDGET c, Reg.BEAT_HEAD_LATEPOL (2 * c), Reg.BEAT_HEAD_LATEPOL (2 * c + 1)].contains a
        | _ => false)
  | 2 => mayWritePwr ag a
  | 3 =>
    if a ≤ Reg.FLT_CFGCRC_STAT then d.mayCfgcrc ag || (ag == .debug false && d.mayCfgcrc .manager)
    else if a = Reg.FLT_LOG_MASK || (Reg.FLT_RING_LO 32 ≤ a && a ≤ Reg.FLT_RING_PROD 32) then sec
    else man || sec
  | 4 => man || sec
  | 5 => sec || (man && decide (0x501004 ≤ a) && a % 8 == 4)
  | 6 => d.mayWriteInst ag a
  | 7 => man || sec
  | 8 => man || sec
  | 9 => man || sec
  | 0xA => isDriver ag || sec
  | 0xB => d.mayWriteAud ag a
  | 0xC => d.mayWriteTch ag a
  | 0xD => d.mayWriteHap ag a
  | 0xE => d.mayWft (if man then .manager else ag)
  | 0x20 => sec
  | b => if 0x10 ≤ b && b < 0x20 then d.mayWriteChannel ag ((b - 0x10) / 4) (b % 4) (a % 0x100000) else false

/-! ### The writes -/

/-- A register's value after a plain write of `v` that reaches the bits of `only` (R10): fields RW, RWS and RWB take the value,
ones clear W1C bits, and any one clears a count whole. -/
def RegRow.wrote (r : RegRow) (old v only : Nat) : Nat :=
  let m := (r.rw ||| r.rws ||| r.rwb) &&& only
  let x := (old &&& (0xFFFFFFFF ^^^ m)) ||| (v &&& m)
  let x := x &&& (0xFFFFFFFF ^^^ (v &&& r.w1c))
  r.w1cWhole.foldl (fun x f => if v &&& f = 0 then x else x &&& (0xFFFFFFFF ^^^ f)) x

/-- The bits of a register that only the secure world writes, in registers that the normal world may write (R220, R234, R351,
R382, R425): a source of 1 or 2 of GLB_INTPIN among them. -/
def secureBits (a : Nat) (v : Word) : Nat :=
  if a = Reg.FLT_CFGCRC_CTL then 2 ^ 30
  else if Reg.TCH_CFG 0 ≤ a && a < Reg.TCH_CFG 4 && (a - Reg.TCH_CFG 0) % 0x40 = 0 then 2 ^ 29
  else if Reg.HAP_CFG 0 ≤ a && a < Reg.HAP_CFG 8 && (a - Reg.HAP_CFG 0) % 0x40 = 0 then 2 ^ 30
  else if a = Reg.GLB_INTPIN && (wbits v 1 0 == 1 || wbits v 1 0 == 2) then 3
  else 0

/-- A plain write of the register at offset `a` by an agent. -/
def Device.plain (d : Device) (ag : Agent) (a : Nat) (v : Word) : Device :=
  match findRow a with
  | some r =>
    let only := if agentSecure ag then 0xFFFFFFFF else 0xFFFFFFFF ^^^ secureBits a v
    d.setReg a (w32 (r.wrote (d.reg a).toNat v.toNat only))
  | none => d

/-- A write of BEAT_PERIOD as it reaches the beat receiver (R19, R20). -/
def Device.periodWrite (d : Device) (v : Word) : Device :=
  let n := wbits v 7 0
  if d.mode != .native || d.followsWeft then d
  else if n < 12 || 192 < n then d.wr Reg.BEAT_STATUS_bad_period 1
  else
    let d := d.wr Reg.BEAT_PERIOD_samples n
    if d.fallow then { d with beat := { d.beat with afterSamples := some n } }
    else { d with beat := { d.beat with nextSamples := some n } }

/-- A committed GLB_RST (R417, R425, R427): channel resets that the writer may make, and the device reset by the secure world. -/
def Device.commitRst (d : Device) (secure : Bool) (v : Nat) : Device :=
  let d := (List.range 4).foldl (fun d c =>
    if !v.testBit c then d
    else if !secure && d.mode != .native && c ≤ 1 then d.wr Reg.GLB_STATUS_refused 1
    else d.channelCommit secure c) d
  if secure && v.testBit 31 then d.resetDevice else d

/-- A write of a guarded register opens a sequence (R417, R418). -/
def Device.guardOpen (d : Device) (ag : Agent) (a : Nat) (v : Word) : Device :=
  match d.guards.find? (fun g => g.addr == a) with
  | some g =>
    let d := d.wr Reg.GLB_STATUS_guard_abort 1
    if g.agent == ag then { d with guards := d.guards.map (fun x => if x.addr == a then { x with value := v } else x) } else d
  | none => { d with guards := d.guards ++ [({ agent := ag, addr := a, value := v } : Guarded)] }

/-- A write of the twin of a guarded register (R417, R418): the complement by the same agent commits. -/
def Device.guardTwin (d : Device) (ag : Agent) (a : Nat) (v : Word) : Device :=
  match d.guards.find? (fun g => g.addr == a) with
  | some g =>
    if g.agent == ag then
      let d := { d with guards := d.guards.filter (fun x => x.addr != a) }
      if v == ~~~g.value then d.commitRst (agentSecure ag) g.value.toNat else d.wr Reg.GLB_STATUS_guard_abort 1
    else d.wr Reg.GLB_STATUS_guard_abort 1
  | none => d.wr Reg.GLB_STATUS_guard_abort 1

/-- A write in the PWR block (R369, R374, R376, R381). -/
def Device.writePwr (d : Device) (ag : Agent) (a : Nat) (v : Word) : Device :=
  if a = Reg.PWR_STATE then d.stateRequest (agentSecure ag) (wbits v 1 0)
  else if Reg.PWR_VOTE 0 ≤ a && a ≤ Reg.PWR_VOTE 7 then d.voteWrite ((a - Reg.PWR_VOTE 0) / 4) v
  else if Reg.PWR_DVFS 0 ≤ a && a ≤ Reg.PWR_DVFS 3 then
    let n := (a - Reg.PWR_DVFS 0) / 4
    if agentSecure ag then d.dvfsWrite true n (wbits v 27 14)
    else if d.mode != .native && n ≤ 1 then d
    else d.dvfsWrite false n (wbits v 13 0)
  else if a = Reg.PWR_I3C1_CMD then d.i3c1Write v
  else d.plain ag a v

/-- A write in the FLT block (R351). -/
def Device.writeFlt (d : Device) (ag : Agent) (a : Nat) (v : Word) : Device :=
  if a = Reg.FLT_CFGCRC_COMMIT then
    if bitOn v.toNat 0 then { d with flt := { d.flt with commit := true } } else d
  else
    let was := d.on Reg.FLT_CFGCRC_CTL_hold
    let d := d.plain ag a v
    if a = Reg.FLT_CFGCRC_CTL && was != d.on Reg.FLT_CFGCRC_CTL_hold then d.wr Reg.FLT_CFGCRC_STAT_held 0 else d

/-- A write in the WLD block (R310, R312, R314, R316). -/
def Device.writeWld (d : Device) (ag : Agent) (a : Nat) (v : Word) : Device :=
  if a = Reg.WLD_DBG then d.dbgWrite v
  else if Reg.WLD_ENC_LO 0 ≤ a && a < Reg.WLD_ENC_LO 16 then d.encWrite ((a - Reg.WLD_ENC_LO 0) / 0x10) (a % 0x10 / 4) v
  else if a = Reg.WLD_LOCK_WORLD 0 || a = Reg.WLD_LOCK_WORLD 1 then
    (List.range 32).foldl (fun d b => d.handoverStart 3 (32 * ((a - Reg.WLD_LOCK_WORLD 0) / 4) + b) (v.toNat.testBit b)) d
  else if 0x501000 ≤ a && a % 8 = 4 then d.lockCmd ag ((a - 0x501004) / 8) (wbits v 1 0)
  else d.plain ag a v

/-- A write in the INST block (R82, R94, R96, R298). -/
def Device.writeInst (d : Device) (ag : Agent) (a : Nat) (v : Word) : Device :=
  if a = Reg.INST_MED_CALL then (if bitOn v.toNat 31 then d.medCall (wbits v 7 0) else d)
  else if a < 0x610000 then d.plain ag a v
  else
    let i := (a - 0x610000) / 0x1000
    let o := a % 0x1000
    let n := o / 0x20
    if o < 0x200 then
      match o % 0x20 with
      | 0 => d.writeRingBase (d.on (Reg.INST_Q_CFG_enable i n)) (Reg.INST_Q_STATUS_cfg_err i n) a v 0xFFFFF000#32
      | 4 => d.writeRingBase (d.on (Reg.INST_Q_CFG_enable i n)) (Reg.INST_Q_STATUS_cfg_err i n) a v 0xFFFFFFFF#32
      | 8 => d.writeQCfg i n v
      | 0xC => d.doorbell i n v
      | _ => d.plain ag a v
    else
      match o with
      | 0x400 => d.writeRingBase (d.on (Reg.INST_HRV_CFG_enable i)) (Reg.INST_HRV_STATUS_cfg_err i) a v 0xFFFFF000#32
      | 0x404 => d.writeRingBase (d.on (Reg.INST_HRV_CFG_enable i)) (Reg.INST_HRV_STATUS_cfg_err i) a v 0xFFFFFFFF#32
      | 0x408 => d.writeHrvCfg i v
      | 0x40C => d.writeHrvCons i v
      | 0x418 =>
        let f := d.on (Reg.INST_HRV_STATUS_write_fault i)
        let d := d.plain ag a v
        if f && bitOn v.toNat 2 then d.clearWriteFault i else d
      | 0x414 => (d.plain ag a v).countSignal i
      | _ => d.plain ag a v

/-- A write in the AUD block (R245, R249, R250, R254, R255, R259). -/
def Device.writeAud (d : Device) (ag : Agent) (a : Nat) (v : Word) : Device :=
  let go := bitOn v.toNat 31
  if inAudRam a then d.audBankWrite (agentSecure ag) a v
  else if a = Reg.AUD_SWAP_REQ then
    let d := d.plain ag a v
    if go then d.swapRequest ag (wbits v 12 0) else d
  else if a = Reg.AUD_COPY then (if bitOn v.toNat 0 then d.audCopy else d)
  else if a = Reg.AUD_STORE then
    let d := d.plain ag a v
    if go then d.audStore else d
  else if Reg.AUD_GUARD 0 ≤ a && a ≤ Reg.AUD_GUARD 31 then d.rwpRequest (agentSecure ag) a v.toNat
  else if Reg.AUD_TDM_CFG 0 ≤ a && a < Reg.AUD_TDM_CFG 6 && a % 0x10 = 0 then d.tdmConfig ((a - Reg.AUD_TDM_CFG 0) / 0x10) v
  else if Reg.AUD_MS_LO 0 ≤ a && a < Reg.AUD_MC_LO 16 then
    let mc := decide (Reg.AUD_MC_LO 0 ≤ a)
    let n := (a % 0x200) / 0x20
    let d := d.plain ag a v
    match a % 0x20 with
    | 8 => if go then { d with aud := { d.aud with stopped := d.aud.stopped.filter (fun x => x != (if mc then 16 + n else n)) } } else d
    | 0xC =>
      let f := if mc then Reg.AUD_MC_OWN_own n else Reg.AUD_MS_OWN_own n
      d.wr f (putBits (d.rd f) 15 0 (wbits v 31 16))
    | 0x14 =>
      let f := if mc then Reg.AUD_MC_IDX_own n else Reg.AUD_MS_IDX_own n
      d.wr f (wbits v 15 0)
    | _ => d
  else if Reg.AUD_GEN_CFG 0 ≤ a && a < Reg.AUD_GEN_CFG 8 then d.handoverStart 2 ((a - Reg.AUD_GEN_CFG 0) / 0x10) go
  else d.plain ag a v

/-- A write in the TCH and RO block (R210, R214, R220, R314). A secure write that changes the owner only starts the hand-over,
whose reset covers every other field. -/
def Device.writeTch (d : Device) (ag : Agent) (a : Nat) (v : Word) : Device :=
  if Reg.TCH_CFG 0 ≤ a && a < Reg.TCH_CFG 4 then
    let n := (a - Reg.TCH_CFG 0) / 0x40
    match (a - Reg.TCH_CFG 0) % 0x40 with
    | 0 =>
      if agentSecure ag && bitOn v.toNat 29 != d.on (Reg.TCH_CFG_sec n) then d.handoverStart 0 n (bitOn v.toNat 29)
      else
        let was := d.on (Reg.TCH_CFG_enable n)
        let d := d.plain ag a v
        if was then d else d.touchEnable n
    | 0x1C =>
      let d := d.plain ag a v
      if d.on (Reg.TCH_CFG_sec n) && decide (wbits v 30 28 < 4) then d.wr (Reg.TCH_STATUS_cfg_err n) 1 else d
    | 0x20 =>
      let d := d.plain ag a v
      if bitOn v.toNat 31 then d.touchStoreNow n else d
    | _ => d.plain ag a v
  else if Reg.RO_CFG 0 ≤ a && a < Reg.RO_CFG 8 && a % 0x10 = 0 then
    let n := (a - Reg.RO_CFG 0) / 0x10
    let d := d.plain ag a v
    if bitOn v.toNat 31 || d.knobPair n then d else (d.modRelax n (fun _ => Relax.reset)).wr (Reg.RO_STAT_active n) 0
  else d.plain ag a v

/-- A write in the HAP block (R226, R234, R314). -/
def Device.writeHap (d : Device) (ag : Agent) (a : Nat) (v : Word) : Device :=
  if Reg.HAP_CFG 0 ≤ a && a < Reg.HAP_CFG 8 then
    let n := (a - Reg.HAP_CFG 0) / 0x40
    match (a - Reg.HAP_CFG 0) % 0x40 with
    | 0 =>
      if agentSecure ag && bitOn v.toNat 30 != d.on (Reg.HAP_CFG_sec n) then d.handoverStart 1 n (bitOn v.toNat 30)
      else d.plain ag a v
    | 0x18 => if bitOn v.toNat 0 then d.calGo n else d
    | _ => d.plain ag a v
  else d.plain ag a v

/-- A write in the WFT block (R385, R388, R390, R399, R404). -/
def Device.writeWft (d : Device) (ag : Agent) (a : Nat) (v : Word) : Device :=
  if a = Reg.WFT_MESH then
    let d := d.wr Reg.WFT_MESH_root (wbits v 31 31)
    (if d.isRoot then d.plain ag a v else d).showWeft
  else if Reg.WFT_LINK_CTL 0 ≤ a && a < Reg.WFT_LINK_CTL 4 && a % 0x10 = 0 then
    let n := (a - Reg.WFT_LINK_CTL 0) / 0x10
    let d := d.plain ag a v
    let d := if d.on (Reg.WFT_LINK_CTL_enable n) then d else d.linkOff n
    if bitOn v.toNat 29 then d.linkRetrain n else d
  else if a = Reg.WFT_FLOCK_CFG then
    let d := d.plain ag a v
    if bitOn v.toNat 31 then d else { d with weft := { d.weft with timer := none } }
  else if a = Reg.WFT_BC_CMD then
    let d := d.plain ag a v
    if bitOn v.toNat 31 then d.bcastStart else d
  else d.plain ag a v

/-- A write in the block of sequencer `q` (R77, R79, R369). -/
def Device.writeSeq (d : Device) (ag : Agent) (q a : Nat) (v : Word) : Device :=
  if inDmem a then d.modSeq q (fun x => x.setDword (a % 0x20000 / 4) v)
  else
    match a % 0x100000 with
    | 0 =>
      let d := d.plain ag a v
      if bitOn v.toNat 1 then d.restartSeq q else d
    | 0x18 => if bitOn v.toNat 0 then d.loadGo q else d
    | 0x1C => d.mail q v
    | 0x20 => if q < 4 then d.csqVote q v else d
    | _ => d.plain ag a v

/-- A write in the RAS block of channel `c` (R121, R127). -/
def Device.writeRas (d : Device) (ag : Agent) (c a : Nat) (v : Word) : Device :=
  let o := a % 0x100000
  let bad := d.wr (Reg.RAS_STATUS_cfg_err c) 1
  match o with
  | 0x10 => if (d.slotsHeld c).isEmpty then d.plain ag a v else bad
  | 0x14 => if (d.slotsHeld c).isEmpty then d.plain ag a v else bad
  | 0x18 => if (d.slotsHeld c).isEmpty && decide (12 ≤ wbits v 7 0) then (d.plain ag a v).showSlots c else bad
  | 0x20 => if (d.ctx c).isNone then d.plain ag a v else bad
  | 0x24 => if (d.ctx c).isNone then d.plain ag a v else bad
  | 0x28 => if (d.ctx c).isNone && decide (9 ≤ wbits v 7 0) then d.plain ag a v else bad
  | 0x38 => d.pinLoad c v
  | _ => d.plain ag a v

/-- A write in the CMP block of channel `c` (R166, R176). -/
def Device.writeCmp (d : Device) (ag : Agent) (c a : Nat) (v : Word) : Device :=
  let o := a % 0x100000
  if o = 0x20 || o = 0x28 then d.take (2 * c + (o - 0x20) / 8) (wbits v 4 0) (wbits v 11 8)
  else if 0x400 ≤ o && o < 0x610 then
    (d.cmp c).recs.foldl (fun d _ => d.retireWrite c ((o - 0x400) / 0x10)) (d.plain ag a v)
  else d.plain ag a v

/-- A write in the head-pair block of channel `c` (R183, R193, R198). A write of 1 to DP_p_CTL.apply clears done; what the sink
then reports comes with `DP_APPLY`. -/
def Device.writeHeads (d : Device) (ag : Agent) (c a : Nat) (v : Word) : Device :=
  let o := a % 0x100000
  let h := 2 * c + o / 0x1000 % 2
  if o < 0x2000 then
    match o % 0x1000 with
    | 0x4C => if bitOn v.toNat 31 then d.timingCheck h else d
    | 0x78 => d.clearRects h (bitOn v.toNat 1) (bitOn v.toNat 0)
    | _ => d.plain ag a v
  else
    let d := d.plain ag a v
    if o % 0x100 = 0 && bitOn v.toNat 0 then d.wr (Reg.DP_STATUS_done (2 * c + o / 0x100 % 2)) 0 else d

/-- What a write of `v` at offset `a` does, by an agent that may make it. -/
def Device.regEffect (d : Device) (ag : Agent) (a : Nat) (v : Word) : Device :=
  match a / 0x100000 with
  | 0 =>
    if a = Reg.GLB_RST then d.guardOpen ag a v
    else if a = Reg.GLB_RST_G then d.guardTwin ag Reg.GLB_RST v
    else if a = Reg.GLB_BOOT_CMD then (if bitOn v.toNat 31 then d.bootGo else d)
    else d.plain ag a v
  | 1 => if a = Reg.BEAT_PERIOD then d.periodWrite v else d.plain ag a v
  | 2 => d.writePwr ag a v
  | 3 => d.writeFlt ag a v
  | 4 =>
    let d := d.plain ag a v
    if a = Reg.SEED_REC_CMD && bitOn v.toNat 31 then d.seedRecGo else d
  | 5 => d.writeWld ag a v
  | 6 => d.writeInst ag a v
  | 7 => (d.plain ag a v).applyShadow Reg.HIF_CTL
  | 8 =>
    let d := d.plain ag a v
    if a = Reg.MEM_TRAIN then d.rwpRequest (agentSecure ag) a v.toNat else d
  | 0xB => d.writeAud ag a v
  | 0xC => d.writeTch ag a v
  | 0xD => d.writeHap ag a v
  | 0xE => d.writeWft ag a v
  | b =>
    match seqOfBlock a with
    | some q => d.writeSeq ag q a v
    | none =>
      if 0x10 ≤ b && b < 0x20 then
        let c := (b - 0x10) / 4
        match b % 4 with
        | 1 => d.writeRas ag c a v
        | 2 => d.writeCmp ag c a v
        | _ => d.writeHeads ag c a v
      else d.plain ag a v

/-- The value that a write through an alias puts into a register (R412): only fields RW, RWS and RWB change, so commands and
status bits see zeros. -/
def RegRow.aliased (r : RegRow) (page : Nat) (old v : Nat) : Nat :=
  let m := r.rw ||| r.rws ||| r.rwb
  let x := match page with
    | 1 => old ||| v
    | 2 => old &&& (0xFFFFFFFF ^^^ v)
    | _ => old ^^^ v
  x &&& m

/-- A register with RWP fields that no agent of the normal world may set (R322). -/
def rwpSecure (a : Nat) : Bool := a == Reg.WLD_DBG || (decide (Reg.AUD_GUARD 0 ≤ a) && decide (a ≤ Reg.AUD_GUARD 31))

/-- A write by an agent that may not make it (R411): it changes nothing, but one to secure RWP fields shows DENIED (R322). -/
def Device.forbidden (d : Device) (ag : Agent) (a : Nat) (v : Word) : Device :=
  d.when (rwpSecure a && !agentSecure ag && !d.flt.lostCompute) (fun d => d.rwpRequest false a v.toNat)

/-- `RWP_WRITE` (R322, R329): an agent writes a register that has fields of access RWP. MEM_TRAIN is the manager's and the secure world's
(R290). -/
def execRwpWrite (ag : Agent) (addr : Nat) (value : Word) (s : State) : Host.Outcome State Fault Refusal :=
  onDev s (fun d =>
    if addr = Reg.MEM_TRAIN then d.when (agentSecure ag || ag == .manager) (fun d => d.rwpRequest (agentSecure ag) addr value.toNat)
    else if addr = Reg.WLD_DBG && agentSecure ag then d.dbgWrite value
    else d.rwpRequest (agentSecure ag) addr value.toNat)

/-- A write of `v` at map offset `a` by an agent takes effect (R409, R411, R412): a hole changes nothing and shows it; a
forbidden write changes nothing. -/
def Device.perform (d : Device) (ag : Agent) (a : Nat) (v : Word) : Device :=
  let b := aliasBase a
  if !regExists b || (aliasPage a != 0 && isWindow b) then d.wr Reg.GLB_STATUS_hole 1
  else if a = Reg.CSQ_MAIL 0 && d.swapMail ag v then (d.mail 0 v).nativeSwap (wbits v 12 0)
  else if inImem b || inSeedWin b then d
  else if !d.mayWrite ag b then d.when (aliasPage a == 0) (fun d => d.forbidden ag b v)
  else if aliasPage a = 0 then d.regEffect ag b v
  else
    match findRow b with
    | some r =>
      if r.rw ||| r.rws ||| r.rwb = 0 then d
      else d.regEffect ag b (w32 (r.aliased (aliasPage a) (d.reg b).toNat v.toNat))
    | none => d

/-- A posted write accepted (R414). -/
def Device.accept (d : Device) (k : Nat) (p : Posted) : Device :=
  { d with posted := tset (fun _ => none) d.posted k (some p) }.showBusy

/-- A write by an agent other than a sequencer arrives (R414, R415): a posted block takes it, or drops it while busy. A write to the
lost mixed-signal die reaches nothing (R13). -/
def Device.regWrite (d : Device) (ag : Agent) (a : Nat) (v : Word) : Device :=
  match postedOf a with
  | none => d.perform ag a v
  | some k =>
    if d.flt.lostMixed then d
    else if d.busy k then ((d.wr Reg.GLB_STATUS_post_drop 1).bump Reg.GLB_POSTERR_count).wr Reg.GLB_POSTERR_block k
    else d.accept k { agent := ag, addr := a, value := v }

/-- Whether a host access of the manager reaches an offset (R458, R476): before phase RUN only GLB, SEED, MEM and FLT, and
nothing while the device is held in reset or the host interface is out of service. -/
def Device.reaches (d : Device) (a : Nat) : Bool :=
  d.hostUp && d.phase != 0 && (d.phase == 5 || [0, 3, 4, 8].contains (a / 0x100000))

/-- Where offset `a` of BAR0 of virtual function `i` leads (R293): INST_i's queue page, a read-only copy of INST_i_STATE or of
INST_i_REBASE_LO or _HI, the function's MSI-X table, or nothing that it holds (log entry 119). -/
def vfPlace (i a : Nat) : Option Nat :=
  if a < 0x1000 then some (0x610000 + i * 0x1000 + a)
  else if a < 0x1004 then some (Reg.INST_STATE i)
  else if a < 0x1008 then some (Reg.INST_REBASE_LO i)
  else if a < 0x100C then some (Reg.INST_REBASE_HI i)
  else if 0x2000 ≤ a ∧ a < 0x2400 then some (msixReg i (a - 0x2000))
  else none

/-- A write of a virtual function to its BAR0 (R293): the queue page, or its MSI-X table. It writes nothing else. -/
def Device.vfWrite (d : Device) (i a : Nat) (v : Word) : Device :=
  match vfPlace i a with
  | some p => if a < 0x1000 then d.regWrite (.guest i) p v else d.when (0x2000 ≤ a) (fun d => d.setReg p v)
  | none => d

/-- A write of a function at an offset of its BAR0 (R293): of the native map, or of a virtual function's own page. -/
def Device.funcWrite (d : Device) (ag : Agent) (a : Nat) (v : Word) : Device :=
  match ag with
  | .guest i => d.vfWrite i a v
  | ag => d.regWrite ag a v

/-- Whether a host access of an agent reaches an offset of its function (R293, R476): a virtual function has a BAR0 of 64 KiB, from
phase RUN on. -/
def Device.reachesFor (d : Device) (ag : Agent) (a : Nat) : Bool :=
  match ag with
  | .guest i => d.hostUp && d.phase == 5 && decide (1 ≤ i) && decide (i ≤ 31) && decide (a < 0x10000)
  | _ => d.reaches a

/-- A host write of one dword (R410, R476): `be` holds its four byte enables. In D-DIM it wakes the device and waits (R378). -/
def Device.hostWrite (d : Device) (ag : Agent) (a be : Nat) (v : Word) : Device :=
  if 0x4000000 ≤ a || d.phase == 0 || !d.hostUp then d
  else if be % 16 ≠ 15 then d.wr Reg.GLB_STATUS_width 1
  else if !d.reachesFor ag a then d
  else d.tlp (.reg ag a v) (fun d => d.funcWrite ag (a / 4 * 4) v)

/-- The dwords of one host write, in ascending order (R410). -/
def Device.hostWrites (d : Device) (ag : Agent) (a be : Nat) : List Word → Device
  | [] => d
  | v :: r => (d.hostWrite ag a be v).hostWrites ag (a + 4) (be / 16) r

/-! ### Reads -/

/-- Whether a register shows its reset value to the normal world (R315): those of a front end, a channel or a generator that the
secure world owns. -/
def Device.masked (d : Device) (a : Nat) : Bool :=
  (decide (Reg.TCH_CFG 0 ≤ a) && decide (a < Reg.TCH_CFG 4) && d.on (Reg.TCH_CFG_sec ((a - Reg.TCH_CFG 0) / 0x40)))
    || (decide (Reg.HAP_CFG 0 ≤ a) && decide (a < Reg.HAP_CFG 8) && d.on (Reg.HAP_CFG_sec ((a - Reg.HAP_CFG 0) / 0x40)))
    || (decide (Reg.HAP_TRIG_CFG 0 ≤ a) && decide (a < Reg.HAP_TRIG_CFG 8)
      && d.on (Reg.HAP_CFG_sec (d.rd (Reg.HAP_TRIG_CFG_channel ((a - Reg.HAP_TRIG_CFG 0) / 0x10)))))

/-- The reset value of a masked register, with the owner field read as 1 (R315). -/
def maskedValue (a : Nat) : Word := regReset a ||| w32 (secureBits a 0#32)

/-- CSQ_STATUS of sequencer `q` (R79). -/
def Device.seqStatus (d : Device) (q : Nat) : Word :=
  let x := d.seq q
  let asleep := match x.wait with
    | .tick _ => true
    | .event _ _ _ => true
    | _ => false
  w32 (d.rd (Reg.CSQ_STATUS_last_cause q) * 256 + b2n x.imageValid * 16 + b2n (x.running && asleep) * 8 + b2n x.inTrap * 4
    + b2n x.halted * 2 + b2n x.running)

/-- What the register at offset `a` reads as to a world. -/
def Device.regValue (d : Device) (secure : Bool) (a : Nat) : Word :=
  if inSeedWin a then
    if !d.on Reg.SEED_STATUS_ready then 0#32
    else if a < 0x414000 then w32 (d.seedValue ((a - 0x410000) / 4))
    else if a < 0x418000 then w32 (d.seedInfo ((a - 0x414000) / 4))
    else if !secure && d.rd Reg.SEED_WIN_page < 4 then 0#32
    else w32 (leNat (rawRead d.mems.mram (d.rd Reg.SEED_WIN_page * 0x10000 + (a - 0x430000) / 4 * 4) 4))
  else if a / 0x100000 = 0xE && d.mode != .native then 0#32
  else if !secure && d.masked a then maskedValue a
  else
    match seqOfBlock a with
    | some q =>
      if inDmem a then (d.seq q).dword (a % 0x20000 / 4)
      else if inImem a then (d.seq q).iword (a % 0x10000 / 4)
      else if a % 0x100000 = 4 then d.seqStatus q
      else d.reg a &&& w32 (0xFFFFFFFF ^^^ ((findRow a).map (·.wo)).getD 0)
    | none =>
      if a = Reg.BEAT_NOW_LO then w32 d.beatTime
      else
        match (List.range 8).find? (fun h => a == Reg.HEAD_STATUS h) with
        | some h =>
          if d.running h then w32 (putBits (d.reg a).toNat 29 16 (d.headLine h)) else d.reg a
        | none => d.reg a &&& w32 (0xFFFFFFFF ^^^ ((findRow a).map (·.wo)).getD 0)

/-- The low word of a counter that captures its high word (R45, R186): BEAT_NOW, HEAD_n_FRAME or HEAD_n_FLIP. -/
def Device.capture (d : Device) (a : Nat) : Device :=
  if a = Reg.BEAT_NOW_LO then d.setReg Reg.BEAT_NOW_HI (w32 (d.beatTime / 2 ^ 32))
  else
    match (List.range 8).find? (fun h => a == Reg.HEAD_FRAME_LO h || a == Reg.HEAD_FLIP_LO h) with
    | some h =>
      if a = Reg.HEAD_FRAME_LO h then d.setReg (Reg.HEAD_FRAME_HI h) (w32 ((d.head h).frame / 2 ^ 32))
      else d.setReg (Reg.HEAD_FLIP_HI h) (w32 ((d.head h).flip / 2 ^ 32))
    | none => d

/-- Whether an offset is a HEAD_n_RC_k_GOT register, which changes at line vactive of each frame (R192). -/
def isGot (a : Nat) : Bool :=
  decide (0x10 ≤ a / 0x100000) && decide (a / 0x100000 < 0x20) && a / 0x100000 % 4 == 3 && decide (a % 0x100000 < 0x2000)
    && decide (0x300 ≤ a % 0x1000) && decide (a % 0x1000 < 0x380) && a % 8 == 0

/-- A read at map offset `a` by an agent (R409, R412, R413, R479): a hole reads zero; the read of a capturing register captures. -/
def Device.regRead (d : Device) (secure : Bool) (a : Nat) : Word × Device :=
  let b := aliasBase a
  if !regExists b || (aliasPage a != 0 && isWindow b) then (0#32, d)
  else
    let d := if isGot b then d.closeFrames else d
    (d.regValue secure b, d.capture b)

/-- A read of a function at an offset of its BAR0 (R293): of the native map, or of a virtual function's own page, whose pending-bit
array reads 0. -/
def Device.funcRead (d : Device) (ag : Agent) (a : Nat) : Word × Device :=
  match ag with
  | .guest i =>
    match vfPlace i a with
    | some p => if 0x2000 ≤ a then (d.reg p, d) else d.regRead false p
    | none => (0#32, d)
  | ag => d.regRead (agentSecure ag) a

/-! ### Host writes -/

/-- `REGISTER_WRITE` (R409 to R411, R414, R421): a host write of one or more dwords; `be` holds four byte enables a dword. -/
def execRegisterWrite (ag : Agent) (addr be : Nat) (values : List Word) (s : State) : Host.Outcome State Fault Refusal :=
  onDev s (fun d => d.hostWrites ag addr be values)

/-- A host write through alias page `page` of the register at offset `a`. -/
def Device.aliasWrite (d : Device) (ag : Agent) (page a : Nat) (v : Word) : Device :=
  d.when (aliasPage a == 0) (fun d => d.hostWrite ag (a + page * 0x40000) 15 v)

/-- `SET_ALIAS` (R412). -/
def execSetAlias (ag : Agent) (addr : Nat) (value : Word) (s : State) : Host.Outcome State Fault Refusal :=
  onDev s (fun d => d.aliasWrite ag 1 addr value)

/-- `CLEAR_ALIAS` (R412). -/
def execClearAlias (ag : Agent) (addr : Nat) (value : Word) (s : State) : Host.Outcome State Fault Refusal :=
  onDev s (fun d => d.aliasWrite ag 2 addr value)

/-- `TOGGLE_ALIAS` (R412). -/
def execToggleAlias (ag : Agent) (addr : Nat) (value : Word) (s : State) : Host.Outcome State Fault Refusal :=
  onDev s (fun d => d.aliasWrite ag 3 addr value)

/-- `POSTED_WRITE` (R414, R415): a write that reaches a posted block. -/
def execPostedWrite (ag : Agent) (addr : Nat) (value : Word) (s : State) : Host.Outcome State Fault Refusal :=
  onDev s (fun d => d.when (postedOf addr).isSome (fun d => d.hostWrite ag addr 15 value))

/-- `GUARDED_WRITE` (R417): a write of GLB_RST, with its twin when the access is of 8 bytes. -/
def execGuardedWrite (ag : Agent) (value : Word) (twin : Option Word) (s : State) : Host.Outcome State Fault Refusal :=
  onDev s (fun d => d.hostWrites ag Reg.GLB_RST 0xFF (value :: twin.toList))

/-- `GUARD_TWIN_WRITE` (R417, R418). -/
def execGuardTwinWrite (ag : Agent) (value : Word) (s : State) : Host.Outcome State Fault Refusal :=
  onDev s (fun d => d.hostWrite ag Reg.GLB_RST_G 15 value)

/-- `GUARD_TIMEOUT` (R418): 64 cycles have passed since a sequence opened. -/
def execGuardTimeout (s : State) : Host.Outcome State Fault Refusal :=
  onDev s (fun d =>
    d.when (!d.guards.isEmpty) (fun d => { d with guards := d.guards.drop 1 }.wr Reg.GLB_STATUS_guard_abort 1))

/-- `BEAT_PERIOD_WRITE` (R19). -/
def execBeatPeriodWrite (ag : Agent) (value : Word) (s : State) : Host.Outcome State Fault Refusal :=
  onDev s (fun d => d.when (d.mayWrite ag Reg.BEAT_PERIOD) (fun d => d.periodWrite value))

/-- `BEAT_NOW_READ` (R45). -/
def execBeatNowRead (s : State) : Host.Outcome State Fault Refusal :=
  onDev s (fun d => let (v, d) := d.regRead false Reg.BEAT_NOW_LO; d.emit (.data v.toNat))

/-- `HEAD_FRAME_READ` (R186): a read of HEAD_n_FRAME_LO, or of HEAD_n_FLIP_LO. -/
def execHeadFrameRead (h : Nat) (flip : Bool) (s : State) : Host.Outcome State Fault Refusal :=
  onDev s (fun d =>
    d.when (h < 8) (fun d =>
      let (v, d) := d.regRead false (if flip then Reg.HEAD_FLIP_LO h else Reg.HEAD_FRAME_LO h)
      d.emit (.data v.toNat)))

/-! ### Ports of the sequencers -/

/-- Whether R58 permits sequencer `q` a port access. -/
def portOk (q : Nat) (write : Bool) (a : Nat) : Bool :=
  let b := a / 0x100000
  if q = 4 then !(write && b == 4) || (decide (0x400040 ≤ a) && decide (a ≤ 0x400050))
  else if 0x10 ≤ b && b < 0x20 then (b - 0x10) / 4 == q
  else if b = 0x20 then false
  else if !write || b = 0xF || 0x20 < b then true
  else if b = 1 then
    [Reg.BEAT_PERIOD, Reg.BEAT_SQ_BUDGET q, Reg.BEAT_HEAD_LATEPOL (2 * q), Reg.BEAT_HEAD_LATEPOL (2 * q + 1)].contains (aliasBase a)
  else [6, 0xA, 0xB, 0xC, 0xD].contains b

/-- The trap that a port access takes (R58), or none. -/
def portTrap (q : Nat) (write : Bool) (a : Word) : Option Nat :=
  if 2 ^ 26 ≤ a.toNat || a.toNat % 4 != 0 then some trapPortRange
  else if portOk q write a.toNat then none
  else some trapPortDenied

/-- Whether a read at an offset waits for an accepted write of its posted block (R414). -/
def Device.readWaits (d : Device) (a : Nat) : Bool :=
  match postedOf a with
  | some k => d.busy k && a % 0x40000 != 4
  | none => false

/-- The cycles that a `PLD` counts (R54): `lat` within the range of the die that answers. -/
def pldCycles (a lat : Nat) : Nat := if (postedOf a).isSome then max 96 (min 200 lat) else max 8 (min 40 lat)

/-- `PLD` (R54, R57, R58): the word comes after `lat` cycles, or waits for a posted write or for an answer that does not come; a block
that answers with an error raises PORT_ERROR. -/
def execPld (sq rd ra : Nat) (imm : BitVec 18) (lat : Nat) (ans : PortAnswer) (s : State) : Host.Outcome State Fault Refusal :=
  onDev s (fun d =>
    let a := (d.seq sq).ea ra imm
    d.runInstr sq (pldCycles a.toNat lat) [ra] (fun d x =>
      match portTrap sq false a with
      | some c => .trap c a
      | none =>
        if ans == .error || (d.flt.lostMixed && (postedOf a.toNat).isSome) then .stop (d.trapAt sq trapPortError a (w32 x.pc))
        else if ans == .none || d.readWaits a.toNat then
          .stop (d.modSeq sq (fun x => { x with wait := .port rd a.toNat, pldBy := d.beat.stick + 4000 }))
        else
          let (v, d) := d.regRead (sq == 4) a.toNat
          .next (d.modSeq sq (fun x => { x.setGr rd v with loadRd := rd }))))

/-- `PLD_TIMEOUT` (R58): 4,000 cycles have passed since the issue without an answer. -/
def execPldTimeout (sq : Nat) (s : State) : Host.Outcome State Fault Refusal :=
  onDev s (fun d =>
    match (d.seq sq).wait with
    | .port _ a =>
      let d := ((d.atTick (d.seq sq).pldBy).countStall sq).modSeq sq (fun x => { x with wait := .running })
      (d.trapAt sq trapPortError (w32 a) (w32 (d.seq sq).pc)).dueTrap sq
    | _ => d)

/-- The `PST` in flight after one more is issued at the present tick (R57): its arrival `lat` ticks later. -/
def Device.fly (d : Device) (q lat : Nat) : Device :=
  d.modSeq q (fun x => { x with flight := x.flight.filter (fun t => d.beat.stick < t) ++ [d.beat.stick + lat] })

/-- A ninth `PST` stalls until one of the eight in flight arrives (R57). -/
def Device.flyRoom (d : Device) (q : Nat) : Device :=
  match (d.seq q).flight.filter (fun t => d.beat.stick < t) with
  | f :: fs =>
    if fs.length < 7 then d
    else
      let k := fs.foldl min f - d.beat.stick
      (d.atTick (d.beat.stick + k)).modSeq q (fun x => { x with now := x.now + k, spass := x.spass + k })
  | [] => d

/-- `PST` (R57, R58): a write to a posted block waits while it is busy, and is then accepted; any other takes effect as it
arrives (R416). `put.lat` is its time in flight, which the manual does not bound; the model lets it act at its issue (log entry 97). -/
def execPst (sq rd ra : Nat) (put : PortPut) (s : State) : Host.Outcome State Fault Refusal :=
  onDev s (fun d =>
    let a := (d.seq sq).ea ra put.imm
    let lat := put.lat
    d.runInstr sq 1 [rd, ra] (fun d x =>
      match portTrap sq true a with
      | some c => .trap c a
      | none =>
        let d := d.flyRoom sq
        match postedOf a.toNat with
        | none => .next ((d.fly sq lat).perform (.seq sq) a.toNat (x.gr rd))
        | some k =>
          if d.flt.lostMixed then .next (d.fly sq lat)
          else if d.busy k then .stop (d.modSeq sq (fun y => { y with wait := .post a.toNat (x.gr rd), pldBy := lat }))
          else .next ((d.fly sq lat).accept k { agent := .seq sq, addr := a.toNat, value := x.gr rd })))

/-- The reads that wait for posted block `k` end (R414), and the first sequencer whose write waits for it is served (R57). -/
def Device.servePosted (d : Device) (k : Nat) : Device :=
  let d := (List.range 5).foldl (fun d q =>
    match (d.seq q).wait with
    | .port rd a =>
      if postedOf a = some k && !d.readWaits a then
        let (v, d) := d.regRead (q == 4) a
        d.unstall q (fun x => { x.setGr rd v with loadRd := rd })
      else d
    | _ => d) d
  (List.range 5).foldl (fun d q =>
    match (d.seq q).wait with
    | .post a v =>
      if postedOf a = some k && !d.busy k then
        ((d.fly q (d.seq q).pldBy).accept k { agent := .seq q, addr := a, value := v }).unstall q id
      else d
    | _ => d) d

/-- The write that posted block `k` accepted takes effect (R414). -/
def Device.postedDone (d : Device) (k : Nat) : Device :=
  match d.postedAt k with
  | some p =>
    let d := { d with posted := tset (fun _ => none) d.posted k none }
    ((d.perform p.agent p.addr p.value).showBusy).servePosted k
  | none => d

/-- `AUD_COPY_DONE` (R245, R414): what waits for the block is served. -/
def execAudCopyDone (s : State) : Host.Outcome State Fault Refusal := onDev s (fun d => d.audCopyDone.servePosted 0xB)

/-- `HANDOVER_DONE` (R314, R414): what waits for the block is served. -/
def execHandoverDone (kind unit : Nat) (s : State) : Host.Outcome State Fault Refusal :=
  onDev s (fun d => [0xB, 0xC, 0xD].foldl (fun d k => d.servePosted k) (d.handoverDone kind unit))

/-- `POSTED_WRITE_DONE` (R414): within 400 cycles of its arrival. -/
def execPostedWriteDone (k : Nat) (s : State) : Host.Outcome State Fault Refusal := onDev s (fun d => d.postedDone k)

/-! ### The LP5X window -/

/-- A host access of `n` bytes, or a write, at an LP5X address of the normal world, as arbiter input 8 (R424). -/
def Device.lpwAt (d : Device) (pa n : Nat) (data : Option (List Byte)) : Device :=
  match data with
  | none =>
    if d.capacity ≤ pa then (d.wr Reg.GLB_STATUS_lpw_range 1).emit (.bytes (List.replicate n 0xFF#8))
    else
      match d.read .phys 8 pa n with
      | (.ok bs, d) => d.emit (.bytes bs)
      | (.error _, d) => d.emit (.bytes (List.replicate n 0xFF#8))
  | some bs => if d.capacity ≤ pa then d.wr Reg.GLB_STATUS_lpw_range 1 else (d.write .phys 8 pa bs).2

/-- Whether BAR4 is usable (R476): from the end of phase TRAIN. -/
def Device.lpwUp (d : Device) : Bool := d.memUp && d.hostUp && decide (3 ≤ d.phase)

/-- Whether offset `o` of BAR4 lies in an enabled window on another node (R401). -/
def Device.inWindow (d : Device) (o : Nat) : Bool :=
  d.mode == .native && d.isRoot && d.on (Reg.WFT_WIN_CFG_enable (o / 2 ^ 26)) && d.rd (Reg.WFT_WIN_CFG_kind (o / 2 ^ 26)) != 3

/-- `LPW_ACCESS` (R424): at offset `o` of BAR4, a read of `n` bytes or a write; a slice that is a window on another node is
`WINDOW_ACCESS`'s. In D-DIM it waits (R379). -/
def execLpwAccess (o n : Nat) (data : Option (List Byte)) (s : State) : Host.Outcome State Fault Refusal :=
  onDev s (fun d =>
    d.when (d.lpwUp && decide (o < 2 ^ 30) && !d.inWindow o)
      (fun d => d.tlp (.bar4 o n data) (fun d => d.lpwAt (d.rd Reg.GLB_LPW_BASE_base * 2 ^ 30 + o) n data)))

end Sys2Proof.Machine
end

