-- ==== Sys2Proof/Machine/Flits.lean ====
section
/-!
DEFINITION. Flits that arrive (R386, R387, R390, R391): their check, acknowledgement, replay, order and delivery; and the
windows through which a host reaches another node (R401, R402).
-/

namespace Sys2Proof.Machine

open Sys2Proof

/-! ### Replay and credits -/

/-- The flits after the one with link sequence `ack`; all of them when it is not among them. -/
def afterSeq (ack : Nat) (r : List (Nat × List Byte)) : List (Nat × List Byte) :=
  if r.any (fun f => f.1 == ack) then (r.dropWhile (fun f => f.1 != ack)).drop 1 else r

/-- The flits from the one with link sequence `s` on; all of them when it is not among them. -/
def fromSeq (s : Nat) (r : List (Nat × List Byte)) : List (Nat × List Byte) :=
  if r.any (fun f => f.1 == s) then r.dropWhile (fun f => f.1 != s) else r

/-- How many naks in a row, this one among them, have named the flit with link sequence `ack`: one more than its replays that have
failed (R388). -/
def WLink.naks (x : WLink) (ack : Nat) : Nat :=
  match x.failing with
  | some (s, k) => if s = ack then k + 1 else 1
  | none => 1

/-- A nak (R387): every flit from the one it names is sent again, in order. -/
def Device.replayFrom (d : Device) (n ack : Nat) : Device :=
  let d := d.modLink n (fun x => { x with replay := fromSeq ack x.replay, failing := some (ack, x.naks ack) })
  let r := (d.link n).replay
  (r.foldl (fun d f => d.emit (.flit n (f.2 ++ flitTail f.2 f.1))) d).bumpBy (Reg.WFT_LINK_STAT_replays n) r.length

/-- An acknowledgement (R387): the flits up to the one it names leave the replay buffer. -/
def WLink.acked (x : WLink) (ack : Nat) : WLink :=
  let r := afterSeq ack x.replay
  { x with replay := r, failing := x.failing.filter (fun f => r.any (fun y => y.1 == f.1)) }

/-- What the last word of a flit says of the flits that this node sent (R387, R388): acknowledged ones leave the replay buffer, a nak
sends every flit again from the one it names or, when the eighth replay of that flit has failed, fails the link; credits return. -/
def Device.linkWord (d : Device) (n w : Nat) : Device :=
  let ack := bits w 23 12
  if bitOn w 24 && bitOn w 25 && decide (9 ≤ (d.link n).naks ack) then d.linkFail n
  else
  let d :=
    if !bitOn w 24 then d
    else if bitOn w 25 then d.replayFrom n ack
    else d.modLink n (fun x => x.acked ack)
  (d.modLink n (fun x => { x with credits := modAt x.credits (bits w 27 26) (fun c => min 16 (c + bits w 31 28)) })).drainLink n

/-- The virtual channel on which a flit came on link `n` (R390): a step off the row or the column of its destination is that of
a detour. -/
def Device.vcIn (d : Device) (n : Nat) (body : List Byte) : Nat :=
  let u := stepNode d.self n
  let dst := flitDst body
  match bits (leAt body 0 4) 5 4 with
  | 2 => if n % 2 = 1 && u / 8 = dst / 8 then 1 else 2
  | 3 => if n % 2 = 0 && u % 8 = dst % 8 then 1 else 3
  | c => c

/-! ### Delivery -/

/-- The payload of a flit. -/
def flitPayload (body : List Byte) : List Byte := (body.drop 16).take (4 * min 16 (bits (leAt body 0 4) 28 24))

/-- The words of a register write, in ascending order. -/
def Device.farWrites (d : Device) (a : Nat) : List Word → Device
  | [] => d
  | v :: r => (d.regWrite .manager a v).farWrites (a + 4) r

/-- The bytes of a list as words. -/
def wordsOf : Nat → List Byte → List Word
  | 0, _ => []
  | n + 1, bs => w32 (leNat (bs.take 4)) :: wordsOf n (bs.drop 4)

/-- The accepted write of the block that offset `a` lies in performed, unless `a` is the BUSY word. -/
def Device.settlePosted (d : Device) (a : Nat) (b : Option Nat) : Device :=
  match b with
  | some k => if a % 0x40000 = 4 then d else d.postedDone k
  | none => d

/-- A register read of another node's host (R402, R414): an accepted write of the block comes first. -/
def Device.farRead (d : Device) (a : Nat) : List Byte × Device :=
  let p := (d.settlePosted a (postedOf a)).regRead false a
  (leBytes 4 p.1.toNat, p.2)

/-- The read that a response answers ends (R402). -/
def Device.answer (d : Device) (tag : Nat) (bs : List Byte) : Device :=
  match d.weft.reqs.find? (fun r => r.tag == tag) with
  | some r =>
    { d with weft := { d.weft with reqs := d.weft.reqs.filter (fun x => x.tag != tag) } }.emit (.bytes ((bs.drop r.skip).take r.bytes))
  | none => d

/-- A flit delivered at its destination: what a request does, and the type and payload of its response. `member` tells whether
the mask of a broadcast names this node. Events and control flits arrive as commands of their own. -/
def Device.deliver (d : Device) (body : List Byte) (member : Bool) : Option (Nat × List Byte) × Device :=
  let w := leAt body 0 4
  let a := leAt body 8 8
  let pl := flitPayload body
  let n := 4 * min 16 (bits w 28 24)
  match bits w 3 0 with
  | 1 =>
    match d.read .phys 9 a n with
    | (.ok bs, d) => (some (3, bs), d)
    | (.error _, d) => (some (3, List.replicate n 0xFF#8), d)
  | 2 => (none, (d.write .phys 9 a pl).2)
  | 3 => (none, d.answer (leAt body 6 2) pl)
  | 4 => let (bs, d) := d.farRead a; (some (6, bs), d)
  | 5 => (none, d.farWrites a (wordsOf (pl.length / 4) pl))
  | 6 => (none, d.answer (leAt body 6 2) pl)
  | 7 =>
    let d := d.bcastSend a pl
    (none, if member then (d.writeRaw .phys 9 a pl).2 else d)
  | _ => (none, d)

/-- A flit delivered, with its response on the way to its source; one to an unreachable source is discarded. -/
def Device.deliverFar (d : Device) (body : List Byte) (member : Bool) : Device :=
  match d.deliver body member with
  | (none, d) => d
  | (some (t, bs), d) =>
    match d.create t (bits (leAt body 0 4) 21 16) (leAt body 6 2) (leAt body 8 8) bs with
    | some (b, d) => d.forward b
    | none => d

/-- The flits of source `src` that were held and are now due, at most 64 (R391). -/
def Device.deliverHeld (d : Device) (src : Nat) (member : Bool) : Nat → Device
  | 0 => d
  | k + 1 =>
    let e := tget (fun _ => 0) d.weft.want src
    match d.weft.held.find? (fun h => h.1 == 65536 * src + e) with
    | none => d
    | some h =>
      let d := { d with weft := { d.weft with
        held := d.weft.held.filter (fun x => x.1 != h.1)
        want := tset (fun _ => 0) d.weft.want src ((e + 1) % 65536) } }
      (d.deliverFar h.2 member).deliverHeld src member k

/-- A flit at its destination (R391): in sequence, held for its turn, or a duplicate that is discarded. -/
def Device.arrive (d : Device) (body : List Byte) (member : Bool) : Device :=
  let src := bits (leAt body 0 4) 21 16
  let e := leAt body 4 2
  let ahead := (e + 65536 - tget (fun _ => 0) d.weft.want src) % 65536
  if ahead = 0 then
    let d := { d with weft := { d.weft with want := tset (fun _ => 0) d.weft.want src ((e + 1) % 65536) } }
    (d.deliverFar body member).deliverHeld src member 64
  else if ahead ≤ 64 then
    if d.weft.held.any (fun h => h.1 == 65536 * src + e) then d
    else { d with weft := { d.weft with held := d.weft.held ++ [(65536 * src + e, body)] } }
  else d

/-- `FLIT_RECEIVE` (R386, R387, R390, R391): the 88 bytes of a flit arrive on link `n`. -/
def execFlitReceive (n : Nat) (bs : List Byte) (member : Bool) (s : State) : Host.Outcome State Fault Refusal :=
  onDev s (fun d =>
    d.when (d.linkUp n && bs.length == 88) (fun d =>
      let body := bs.take 80
      let w := leAt bs 0x50 4
      let x := d.link n
      if crc32c (bs.take 84) != leAt bs 0x54 4 || 9 < bits (leAt bs 0 4) 3 0 then d.sendIdle n x.rx true 0 0
      else
        let d := d.linkWord n w
        let sq := bits w 11 0
        if !d.linkUp n then d
        else if bits (leAt bs 0 4) 3 0 = 0 then d
        else if sq = x.rx then
          let d := (d.modLink n (fun x => { x with rx := (x.rx + 1) % 4096 })).sendIdle n sq false (d.vcIn n body) 1
          if flitDst body = d.self then d.arrive body member else d.forward body
        else if (x.rx + 4096 - sq) % 4096 ≤ 128 then d.sendIdle n ((x.rx + 4095) % 4096) false 0 0
        else d.sendIdle n x.rx true 0 0))

/-! ### Windows on other nodes (R401, R402) -/

/-- A window access fails: a read of `n` bytes answers all ones, a write is discarded. -/
def Device.windowFail (d : Device) (n : Option Nat) : Device :=
  let d := (d.wr Reg.WFT_STATUS_win_err 1).raise (fault 0x03 4 0xE00000 0)
  match n with
  | some k => d.emit (.bytes (List.replicate k 0xFF#8))
  | none => d

/-- A request of this node's host to a node: sent there, or served here when it is this node. -/
def Device.ask (d : Device) (type node tag a : Nat) (payload : List Byte) : Option Device :=
  (d.create type node tag a payload).map (fun r =>
    if node = d.self then
      match r.2.deliver r.1 false with
      | (some (_, bs), d) => d.answer tag bs
      | (none, d) => d
    else r.2.forward r.1)

/-- A read through a window: `n` bytes at `a` of a node, as whole words. -/
def Device.windowRead (d : Device) (type node a n : Nat) : Device :=
  let tag := d.weft.tag
  let d1 := { d with weft := { d.weft with
    tag := (tag + 1) % 65536
    reqs := d.weft.reqs ++ [({ tag := tag, node := node, skip := a % 4, bytes := n } : WReq)] } }
  match d1.ask type node tag (a / 4 * 4) (List.replicate ((a % 4 + n + 3) / 4 * 4) 0#8) with
  | some d => d
  | none => d.windowFail (some n)

/-- A read through a window in parts of at most one flit (log entry 49). -/
def Device.windowReads (d : Device) (type node : Nat) : Nat → Nat → Nat → Device
  | 0, _, _ => d
  | k + 1, a, n =>
    let m := min n (64 - a % 4)
    if n = 0 then d else (d.windowRead type node a m).windowReads type node k (a + m) (n - m)

/-- A write through a window, in flits of at most 64 bytes. -/
def Device.windowWrite (d : Device) (type node : Nat) : Nat → List (List Byte) → Device
  | _, [] => d
  | a, b :: r =>
    match d.ask type node 0 a b with
    | some d => d.windowWrite type node (a + 64) r
    | none => d.windowFail none

/-- An access at offset `o` of BAR4 in the enabled window of its slice (R401, R402). -/
def Device.windowAt (d : Device) (o n : Nat) (data : Option (List Byte)) : Device :=
  let k := o / 2 ^ 26
  let node := d.rd (Reg.WFT_WIN_CFG_node k)
  let so := o % 2 ^ 26
  let a := d.addr64 (Reg.WFT_WIN_BASE_LO k) (Reg.WFT_WIN_BASE_HI k) + so
  match d.rd (Reg.WFT_WIN_CFG_kind k), data with
  | 0, none => d.windowRead 4 node so 4
  | 0, some bs => d.when (so % 4 == 0 && bs.length % 4 == 0) (fun d => d.windowWrite 5 node so (chunks64 ((bs.length + 63) / 64) bs))
  | 1, none => d.windowReads 1 node (n / 61 + 1) a n
  | 1, some bs => d.when (so % 4 == 0 && bs.length % 4 == 0) (fun d => d.windowWrite 2 node a (chunks64 ((bs.length + 63) / 64) bs))
  | _, none => d.emit (.bytes (List.replicate n 0xFF#8))
  | _, some bs =>
    d.when (so % 4 == 0 && bs.length % 4 == 0) (fun d =>
      (d.bcastData (d.bcastNodes.contains 0) a false (chunks64 ((bs.length + 63) / 64) bs)).2)

/-- `WINDOW_ACCESS` (R401, R402): a read of `n` bytes, or a write, at offset `o` of BAR4 in an enabled window. In D-DIM it waits (R379). -/
def execWindowAccess (o n : Nat) (data : Option (List Byte)) (s : State) : Host.Outcome State Fault Refusal :=
  onDev s (fun d =>
    d.when (d.inWindow o && d.lpwUp && d.weftUp && decide (o < 2 ^ 30)) (fun d => d.tlp (.bar4 o n data) (fun d => d.windowAt o n data)))

/-- `WINDOW_TIMEOUT` (R402): 20 µs have passed without the response of tag `tag`. -/
def execWindowTimeout (tag : Nat) (s : State) : Host.Outcome State Fault Refusal :=
  onDev s (fun d =>
    match d.weft.reqs.find? (fun r => r.tag == tag) with
    | some r =>
      { d with weft := { d.weft with reqs := d.weft.reqs.filter (fun x => x.tag != tag) } }.windowFail (some r.bytes)
    | none => d)

end Sys2Proof.Machine
end

