-- ==== Sys2Proof/Machine/Udc.lean ====
section
/-!
DEFINITION. The UDC-4 map (R426 to R445): its writes, which land later, its guarded pairs, and what the legacy front end and the
compatibility draft do with the landed values.
-/

namespace Sys2Proof.Machine

open Sys2Proof

/-! ### Votes of the draft (R429) -/

/-- Whether UDC-4 head `h` is to run: the partition, the head and UDC_PWR allow it (R432, R445). -/
def Device.udcHeadOn (d : Device) (h : Nat) : Bool :=
  d.on Reg.UDC_CTL_enable && d.on (Reg.UDC_H_CTL_enable h) && !(d.rd Reg.UDC_PWR_head_off).testBit h && !d.on Reg.UDC_PWR_standby

/-- The votes that the enabled legacy resources of CSQ `c` need: PORTS for heads, TOUCH for its port, AUDIO for the mixer and the
chimes. -/
def Device.legacyVote (d : Device) (c : Nat) : Nat :=
  if !d.on Reg.UDC_CTL_enable || d.on Reg.UDC_PWR_standby then 0
  else
    b2n (d.udcHeadOn (2 * c) || d.udcHeadOn (2 * c + 1)) * 2 ^ 6 + b2n (d.on (Reg.UDC_TCH_CTL_enable c)) * 2 ^ 9
      + (if c = 0 then 2 ^ 8 else 0)

/-- The draft casts its votes. -/
def Device.castVotes (d : Device) : Device :=
  [0, 1].foldl (fun d c => if d.draftUp c then d.csqVote c (w32 (d.legacyVote c)) else d) d

/-! ### Heads and planes (R433, R434) -/

/-- The native timing words of the landed values of a head: latch line vactive, no Adaptive-Sync, eight bits. -/
def Device.udcTiming (d : Device) (h : Nat) : List Word :=
  (List.range 5).map (fun j => d.reg (Reg.UDC_H_HTIME h + 4 * j))
    ++ [w32 (wbits (d.reg (Reg.UDC_H_VTIME h)) 13 0), 0#32, w32 (b2n (d.udcHeadOn h) * 2 ^ 31 + 2 ^ 4)]

/-- The native set of a landed plane, and the plane's own words after it (R434): formats 6 and 7 name no native format, so they
make it invalid. -/
def Device.udcPlane (d : Device) (h p : Nat) : List Word :=
  let ctl := d.reg (Reg.UDC_P_CTL h p)
  let fmt := wbits ctl 30 28
  [w32 (b2n (bitOn ctl.toNat 31) + (if fmt < 6 then fmt else fmt + 2) * 2 ^ 4 + 2 ^ 9 + wbits ctl 7 0 * 2 ^ 24),
    d.reg (Reg.UDC_P_POS h p), d.reg (Reg.UDC_P_SIZE h p), 0#32, d.reg (Reg.UDC_P_ADDR h p), 0#32, d.reg (Reg.UDC_P_PITCH h p), 0#32,
    ctl, d.reg (Reg.UDC_P_KEY h p)]

/-- The words of the four regions of a head. -/
def Device.udcRegions (d : Device) (h : Nat) : List Word :=
  (List.range 16).map (fun j => d.reg (Reg.UDC_R_POS h (j / 4) + 4 * (j % 4)))

/-- The background word of a head: each 8-bit component widened to 10 bits. -/
def Device.udcBg (d : Device) (h : Nat) : Word :=
  let c := fun k => let v := wbits (d.reg (Reg.UDC_H_BG h)) (8 * k + 7) (8 * k); v * 4 + v / 64
  w32 (c 2 * 2 ^ 20 + c 1 * 2 ^ 10 + c 0)

/-- The plane words of a set that are in effect or pending, to see what an update changes. -/
def Device.udcNewest (d : Device) (h g : Nat) : List Word :=
  let ws := d.newest h g
  if ws.length = 8 && 1 ≤ g then
    match (d.head h).planes.find? (fun p => p.1 == g - 1) with
    | some (_, c, k) => ws ++ [c, k]
    | none => ws
  else ws

/-- The draft's part of an update (R434): native shadow sets, owner INST_0, the horizon and the latch line of R429, and one commit
of the groups that changed with the legacy regions. -/
def Device.udcCommit (d : Device) (h : Nat) : Device :=
  let sq := h / 2
  let t := d.udcTiming h
  let planes := (List.range 4).map (fun p => (p + 1, d.udcPlane h p))
  let d := (((d.setRegs (Reg.HEAD_HTIME h) t).wr (Reg.HEAD_HORIZON_lines h) 1).setReg (Reg.CMP_OWN h 0) 0x80808080#32).setReg
    (Reg.CMP_BG h) (d.udcBg h)
  let d := planes.foldl (fun d p => d.setRegs (Reg.CMP_LAYER_CTL h (p.1 - 1)) (p.2.take 8)) d
  let bad := (timingOf t).enable && d.timingCode h t == 0 && !d.timingApplies h t
  let d := if bad then d.wr (Reg.UDC_H_CTL_timing_bad h) 1 else d
  let sets := (if bad then [] else [(0, t)]) ++ planes
  let sets := sets.filter (fun s => d.udcNewest h s.1 != s.2)
  let n := ((d.seq sq).commitSerial + 1) % 65536
  let mask := maskOf (sets.map (·.1))
  let d := d.modSeq sq (fun x => { x with commitSerial := n })
  if d.commitRefused h sq mask then d.commitFault h none
  else d.takeCommit h sq n mask false (sets ++ [(19, d.udcRegions h)]) none d.beat.clock

/-- A write of 1 to UDC_Hh_CTL.update lands (R434). -/
def Device.udcUpdate (d : Device) (h : Nat) : Device :=
  let (v, d) := d.free
  let d := (d.wr (Reg.UDC_H_CTL_pending h) 1).mail (h / 2) (w32 v)
  if d.draftUp (h / 2) then (d.udcCommit h).castVotes else d

/-- `UDC_UPDATE` (R434). -/
def execUdcUpdate (h : Nat) (s : State) : Host.Outcome State Fault Refusal :=
  onDev s (fun d => d.when (d.mode != .native && decide (h < 4)) (fun d => d.udcUpdate h))

/-- `UDC_VSYNC` (R443): head `h` reaches line vactive + vfront. -/
def execUdcVsync (h : Nat) (s : State) : Host.Outcome State Fault Refusal :=
  onDev s (fun d =>
    d.when (d.legacyHead h && d.running h && !d.on (Reg.HEAD_STATUS_restarting h)) (fun d =>
      let t := timingOf (d.activeTiming h)
      let n := (t.vactive + t.vfront + t.vtotal - (d.head h).pos) % max 1 t.vtotal
      (d.atClock (d.lineAt h n)).udcEvent h))

/-! ### Blitter (R439) -/

/-- One segment of a blit. -/
def blitSeg (src dst len flags : Nat) : List Byte := leBytes 8 src ++ leBytes 8 dst ++ leBytes 4 len ++ leBytes 4 flags ++ leBytes 8 0

/-- The segments of the blit that the registers describe: a fill has one a row; a copy one a row, or one in all when the
rectangles have no gaps; rows run from the last to the first when the destination overlaps from above. -/
def Device.blitSegs (d : Device) : List (List Byte) :=
  let w := d.rd Reg.UDC_BLT_SIZE_w
  let h := d.rd Reg.UDC_BLT_SIZE_h
  let b := if d.on Reg.UDC_BLT_CTL_bpp then 4 else 2
  let src := d.rd Reg.UDC_BLT_SRC_src
  let dst := d.rd Reg.UDC_BLT_DST_dst
  let sp := d.rd Reg.UDC_BLT_PITCH_spitch
  let dp := d.rd Reg.UDC_BLT_PITCH_dpitch
  let f := d.rd Reg.UDC_BLT_FILL_fill
  let down := decide (src < dst) && decide (dst < src + (h - 1) * sp + w * b)
  if d.on Reg.UDC_BLT_CTL_op then
    let pat := if b = 2 then f % 65536 * 65537 else f
    (List.range h).map (fun r => blitSeg pat (dst + r * dp) (w * b) 1)
  else if sp = w * b && dp = w * b && !down && h != 0 then [blitSeg src dst (w * b * h) 0]
  else
    let rows := (List.range h).map (fun r => blitSeg (src + r * sp) (dst + r * dp) (w * b) 0)
    if down then rows.reverse else rows

/-- A write of 1 to UDC_BLT_CTL.go lands (R439). -/
def Device.blitGo (d : Device) : Device :=
  if d.on Reg.UDC_BLT_CTL_busy || !d.draftUp 1 then d
  else ({ d with udc := { d.udc with blit := d.blitSegs } }.wr Reg.UDC_BLT_CTL_busy 1).blitNext

/-- `UDC_BLIT_GO` (R439). -/
def execUdcBlitGo (s : State) : Host.Outcome State Fault Refusal := onDev s (fun d => d.when (d.mode != .native) (fun d => d.blitGo))

/-- `UDC_BLIT_END` (R439): the chain of the blitter that CPY3 runs ends. -/
def execUdcBlitEnd (s : State) : Host.Outcome State Fault Refusal :=
  onDev s (fun d =>
    d.when (match (d.copy 3).run with | some c => c.src == .blit | none => false) (fun d => d.chainEnd 3 0 0))

/-! ### Mixer and chimes (R440, R441) -/

/-- `UDC_MIX_APPLY` (R440). -/
def execUdcMixApply (s : State) : Host.Outcome State Fault Refusal :=
  onDev s (fun d => d.when (d.mode != .native) (fun d => d.mixApply))

/-- `MIXED_SWAP_REQUEST` (R440): the manager mails a word to CH0. -/
def execMixedSwapRequest (value : Word) (s : State) : Host.Outcome State Fault Refusal :=
  onDev s (fun d => d.when (d.swapMail .manager value) (fun d => (d.mail 0 value).nativeSwap (wbits value 12 0)))

/-- A write of 1 to UDC_CHM_c_CTL.go lands (R441): the preset is written, and the draft posts a start. -/
def Device.chimeGo (d : Device) (c : Nat) : Device :=
  let ws := [0, d.rd (Reg.UDC_CHM_FREQ_freq c), d.rd (Reg.UDC_CHM_CTL_vol c) * 0x80, 5 + 5 * 65536, (d.reg (Reg.UDC_CHM_TIME c)).toNat,
    d.rd (Reg.UDC_CHM_CTL_repeats c), 0, 0]
  let d := d.setRegs (Reg.AUD_PRESET (8 * (192 + c))) (ws.map w32)
  if d.draftUp 0 then
    let (code, d) := d.genPost 0 c true (192 + c)
    if code = resOk then d.wr (Reg.UDC_CHM_CTL_running c) 1 else d
  else d

/-- A write of 1 to UDC_CHM_c_CTL.stop lands. -/
def Device.chimeStop (d : Device) (c : Nat) : Device := if d.draftUp 0 then (d.genPost 0 c false 0).2 else d

/-- `UDC_CHIME_GO` (R441). -/
def execUdcChimeGo (c : Nat) (s : State) : Host.Outcome State Fault Refusal :=
  onDev s (fun d => d.when (d.mode != .native && decide (c < 4)) (fun d => d.chimeGo c))

/-- `UDC_CHIME_STOP` (R441). -/
def execUdcChimeStop (c : Nat) (s : State) : Host.Outcome State Fault Refusal :=
  onDev s (fun d => d.when (d.mode != .native && decide (c < 4)) (fun d => d.chimeStop c))

/-! ### Touch (R442) -/

/-- UDC_TCH_p_CTL lands: port `p` runs its front end at 120 frames a second, with the map of R442. -/
def Device.touchPort (d : Device) (p : Nat) : Device :=
  if !d.draftUp p || !d.worldOk (.seq p) 0 p then d
  else
    let d := ((d.wr (Reg.TCH_SCAN_step p) 40).setReg (Reg.TCH_MAP_X p) 0x66660000#32).setReg (Reg.TCH_MAP_Y p) 0x40000000#32
    let d := d.wr (Reg.TCH_CFG_enable p) (b2n (d.on (Reg.UDC_TCH_CTL_enable p)))
    (d.castVotes).touchEnable p

/-- The oldest entry of the FIFO of port `p`, which a read removes. -/
def Device.touchPop (d : Device) (p : Nat) : Word × Device :=
  match tget (fun _ => []) d.udc.fifos p with
  | [] => (0#32, d)
  | w :: q => (w, { d with udc := { d.udc with fifos := tset (fun _ => []) d.udc.fifos p q } }.wr (Reg.UDC_TCH_STAT_count p) q.length)

/-- `UDC_TCH_FIFO_READ` (R442). -/
def execUdcTchFifoRead (p : Nat) (s : State) : Host.Outcome State Fault Refusal :=
  onDev s (fun d =>
    d.when (d.mode != .native && decide (p < 2)) (fun d => let (w, d) := d.touchPop p; d.emit (.data w.toNat)))

/-! ### Reset and power (R444, R445) -/

/-- Registers of the UDC-4 map set back to their reset values. -/
def Device.udcClear (d : Device) (f : Nat → Bool) : Device :=
  d.watchInta (fun d => { d with csr := d.csr.filter (fun e => !(decide (0x80000000 ≤ e.1) && decide (e.1 < 0x80010000) && f e.1)) })

/-- A head that a partition reset stops (R444): nothing is pending, and its active timing has enable 0. -/
def Device.udcStop (d : Device) (h : Nat) : Device :=
  let ws := d.activeTiming h
  (((d.resetHead h).modHead h (fun x => { x with starting := false })).stopHead h).setRegs (Reg.HEAD_ACTIVE_HTIME h)
    (ws.set 7 ((ws.getD 7 0#32) &&& 0x7FFFFFFF#32))

/-- Front end `n` restarts from its stored image (R210). -/
def Device.touchRestart (d : Device) (n : Nat) : Device :=
  (d.touchStop n).touchEnable n

/-- A committed UDC_RST.all (R444). -/
def Device.udcResetAll (d : Device) : Device :=
  let d := (d.channelReset 0).channelReset 1
  let d := (List.range 4).foldl (fun d h => d.udcStop h) d
  let d := (List.range 4).foldl (fun d n => if (d.gen n).isSome then d.genStop n else d) d
  let d := { d with
    aud := { d.aud with reqs := d.aud.reqs.filter (fun e => decide (4 ≤ e.1)) }
    udc := { d.udc with land := none, twins := [], fifos := [], again := false, blit := [] } }
  let d := d.udcClear (fun _ => true)
  let d := d.modCopy 3 (fun x => { x with
    run := match x.run with | some c => if c.src == .blit then none else some c | none => none
    waiting := x.waiting.filter (fun c => c.src != .blit) })
  (d.mixStart.touchRestart 0).touchRestart 1

/-- `UDC_RESET_ALL` (R444). -/
def execUdcResetAll (s : State) : Host.Outcome State Fault Refusal :=
  onDev s (fun d => d.when (d.mode != .native) (fun d => d.udcResetAll))

/-- A committed UDC_RST.head bit (R444): head `h` stops at its latch line, and its planes and regions are cleared. -/
def Device.udcResetHead (d : Device) (h : Nat) : Device :=
  (d.stopAtLatch h).udcClear (fun a => decide (Reg.UDC_P_CTL h 0 ≤ a) && decide (a < Reg.UDC_R_POS h 4))

/-- `UDC_RESET_HEAD` (R444). -/
def execUdcResetHead (h : Nat) (s : State) : Host.Outcome State Fault Refusal :=
  onDev s (fun d => d.when (d.mode != .native && decide (h < 4)) (fun d => d.udcResetHead h))

/-- UDC_PWR.head_off takes effect (R445): the heads named stop at their latch lines. -/
def Device.udcHeadOff (d : Device) (off : Nat) : Device :=
  ((List.range 4).foldl (fun d h => if off.testBit h then d.stopAtLatch h else d) (d.wr Reg.UDC_PWR_head_off off)).castVotes

/-- `UDC_HEAD_OFF` (R445). -/
def execUdcHeadOff (off : Nat) (s : State) : Host.Outcome State Fault Refusal :=
  onDev s (fun d => d.when (d.mode != .native && decide (off < 16)) (fun d => d.udcHeadOff off))

/-- UDC_PWR.clkdiv takes effect (R445): the frequency of its point is asked for on CH0 and CH1. -/
def Device.udcClkdiv (d : Device) (code : Nat) : Device :=
  let mhz := (clockPoints d.grade).getD (code % 4) 0
  ((d.wr Reg.UDC_PWR_clkdiv code).dvfsWrite false 0 mhz).dvfsWrite false 1 mhz

/-- `UDC_CLKDIV` (R445). -/
def execUdcClkdiv (code : Nat) (s : State) : Host.Outcome State Fault Refusal :=
  onDev s (fun d => d.when (d.mode != .native && decide (code < 4)) (fun d => d.udcClkdiv code))

/-- UDC_PWR.standby takes effect (R445): in LEGACY mode the D8 asks for D-DIM as the manager; a write is itself the PCIe activity
that ends D-DIM. -/
def Device.udcStandby (d : Device) (on : Bool) : Device :=
  let was := d.on Reg.UDC_PWR_standby
  let d := d.wr Reg.UDC_PWR_standby (b2n on)
  if on && !was then
    let d := ((List.range 4).foldl (fun d h => d.stopAtLatch h) d).castVotes
    if d.mode == .legacy then d.stateRequest false 1 else d
  else d.castVotes

/-- `UDC_STANDBY` (R445). -/
def execUdcStandby (on : Bool) (s : State) : Host.Outcome State Fault Refusal :=
  onDev s (fun d => d.when (d.mode != .native) (fun d => d.udcStandby on))

/-! ### Writes (R430, R431) -/

/-- The guarded pairs of the map. -/
def udcGuards : List (Nat × Nat) := [(Reg.UDC_RST, Reg.UDC_RST_G), (Reg.UDC_PWR, Reg.UDC_PWR_G)]

/-- The open guarded sequences whose window of 800 cycles has passed end without effect (R431). -/
def Device.udcExpire (d : Device) : Device :=
  if d.udc.twins.any (fun t => decide (t.2.2 + 800 < d.beat.clock)) then
    { d with udc := { d.udc with twins := d.udc.twins.filter (fun t => decide (d.beat.clock ≤ t.2.2 + 800)) } }.wr Reg.UDC_STAT_gabort 1
  else d

/-- The open guarded sequence that a write of offset `a` as its twin would end: its register and its value. -/
def Device.udcTwinOf (d : Device) (a : Nat) : Option (Nat × Word) :=
  (d.udc.twins.find? (fun t => udcGuards.contains (t.1, a))).map (fun t => (t.1, t.2.1))

/-- The guarded sequence of register `r` ends. -/
def Device.udcClose (d : Device) (r : Nat) : Device :=
  { d with udc := { d.udc with twins := d.udc.twins.filter (fun t => t.1 != r) } }

/-- A write that is accepted sets busy and waits to land (R430). -/
def Device.udcWait (d : Device) (a : Nat) (v : Word) : Device := { d with udc := { d.udc with land := some (a, v) } }.wr Reg.UDC_STAT_busy 1

/-- An accepted write of a register or of a twin of a guarded pair (R417, R418, R431): the register opens its sequence; a twin that holds the
complement goes on to commit, and any other ends the sequence without effect. A write that will change nothing lands as one of the
register itself. -/
def Device.udcGuardWrite (d : Device) (g : Nat × Nat) (twin : Bool) (v : Word) : Device :=
  match twin, d.udc.twins.find? (fun t => t.1 == g.1) with
  | true, some (_, x, _) =>
    if v == ~~~x then (d.udcClose g.1).udcWait g.2 v else (((d.udcClose g.1).wr Reg.UDC_STAT_gabort 1)).udcWait g.1 v
  | true, none => (d.wr Reg.UDC_STAT_gabort 1).udcWait g.1 v
  | false, some _ =>
    let d := (d.udcClose g.1).wr Reg.UDC_STAT_gabort 1
    { d with udc := { d.udc with twins := d.udc.twins ++ [(g.1, v, d.beat.clock)] } }.udcWait g.1 v
  | false, none => { d with udc := { d.udc with twins := d.udc.twins ++ [(g.1, v, d.beat.clock)] } }.udcWait g.1 v

/-- A write of `v` to offset `a` of the map arrives (R430, R431): UDC_STAT takes it at once; any other sets busy, or is dropped
while busy is set unless it completes an open guarded sequence. -/
def Device.udcArrive (d : Device) (a : Nat) (v : Word) : Device :=
  let d := d.udcExpire
  let b := 0x80000000 + a / 4 * 4
  if b = Reg.UDC_STAT then d.plain .manager b v
  else if d.on Reg.UDC_STAT_busy && (d.udcTwinOf b).isNone then d.wr Reg.UDC_STAT_ovr 1
  else
    match udcGuards.find? (fun g => g.1 == b || g.2 == b) with
    | some g => d.udcGuardWrite g (g.2 == b) v
    | none => d.udcWait b v

/-- A committed UDC_RST or UDC_PWR (R444, R445). -/
def Device.udcGuarded (d : Device) (r : Nat) (v : Word) : Device :=
  if r = Reg.UDC_RST then
    let d := (onesBelow 4 v.toNat).foldl (fun d h => d.udcResetHead h) d
    if bitOn v.toNat 31 then d.udcResetAll else d
  else
    let d := d.setReg Reg.UDC_PWR_G (~~~(v &&& 0x8000003F#32))
    ((d.udcHeadOff (wbits v 3 0)).udcClkdiv (wbits v 5 4)).udcStandby (bitOn v.toNat 31)

/-- What the front end does with a value that has landed in a plain register (R430). -/
def Device.udcAct (d : Device) (a : Nat) (v : Word) : Device :=
  let go := bitOn v.toNat 31
  if a = Reg.UDC_CTL then
    let d := if bitOn v.toNat 29 then d.wr Reg.UDC_STAT_tst_ign 1 else d
    (if bitOn v.toNat 0 then d else (List.range 4).foldl (fun d h => d.stopAtLatch h) d).castVotes
  else if a = Reg.UDC_BLT_CTL then (if go then d.blitGo else d)
  else if a = Reg.UDC_MIX_CTL then (if go then d.mixApply else d)
  else
    match (List.range 4).find? (fun k => a == Reg.UDC_H_CTL k || a == Reg.UDC_CHM_CTL k || (k < 2 && a == Reg.UDC_TCH_CTL k)) with
    | some k =>
      if a = Reg.UDC_H_CTL k then (if bitOn v.toNat 1 then d.udcUpdate k else d)
      else if a = Reg.UDC_CHM_CTL k then
        let d := if go then d.chimeGo k else d
        if bitOn v.toNat 30 then d.chimeStop k else d
      else d.touchPort k
    | none => d

/-- The write that waits lands (R430): a twin commits its pair (R431). -/
def Device.udcLand (d : Device) : Device :=
  match d.udc.land with
  | none => d
  | some (a, v) =>
    let d := { d with udc := { d.udc with land := none } }.wr Reg.UDC_STAT_busy 0
    match udcGuards.find? (fun g => g.1 == a || g.2 == a) with
    | some g => if g.2 = a then d.udcGuarded g.1 (~~~v) else d
    | none =>
    if (findRow a).isSome then (d.watchInta (fun d => d.plain .manager a v)).udcAct a v
    else d

/-- Whether UDC-4 software reaches the map (R8, R476). -/
def Device.udcUp (d : Device) : Bool := d.hostUp && d.mode != .native && d.phase == 5

/-- `UDC_WRITE` (R410, R430): a host write of one dword at offset `a` of the map, with its byte enables. In D-DIM it wakes the
device and waits (R378, R379). -/
def execUdcWrite (a be : Nat) (value : Word) (s : State) : Host.Outcome State Fault Refusal :=
  onDev s (fun d =>
    d.when (d.udcUp && decide (a < 0x10000)) (fun d =>
      if be % 16 ≠ 15 then d.wr Reg.GLB_STATUS_width 1
      else d.tlp (.reg .legacy a value) (fun d => d.udcArrive a value)))

/-- `UDC_WRITE_LAND` (R430): within 1 µs of the write. -/
def execUdcWriteLand (s : State) : Host.Outcome State Fault Refusal := onDev s (fun d => d.udcLand)

end Sys2Proof.Machine
end

