-- ==== Sys2Proof/Machine/BeatEdge.lean ====
section
/-!
DEFINITION. The beat edge: the ordered steps of R25 on both dies.
-/

namespace Sys2Proof.Machine

open Sys2Proof

/-! ### The mixed-signal die -/

/-- Whether the beat that ends next ends holdover (R22). -/
def Device.exitsHoldover (d : Device) : Bool := d.on Reg.BEAT_STATUS_holdover && d.beat.clockGood

/-- The edge that the links place, when the beat follows them and a block has come (R394): its number and its clock. -/
def Device.linkEdge (d : Device) : Option (Nat × Nat) := if d.followsWeft then d.weft.edge else none

/-- When the edge falls, the number that it carries when that comes from the links, and whether the beat that ends at it is
regular (R18, R22, R27, R394, R397). -/
def Device.edgePlace (d : Device) (ticks : Nat) : Nat × Option Nat × Bool :=
  match d.linkEdge with
  | some (n, t) => (max t d.beat.clock, some n, !d.weft.irregular)
  | none => (d.beat.clock - d.beat.stick + ticks, none, !d.exitsHoldover)

/-- Whether an edge `ticks` after the last is one that the sample clock places (R18, R22): the beat has lasted its number of sample
periods, and at the exit from holdover less than one more. The links place their own edges, and no edge comes before the first. -/
def Device.edgeFits (d : Device) (ticks : Nat) : Bool :=
  !d.beat.started || d.linkEdge.isSome || fitsSamples ticks d.beat.samples (if d.exitsHoldover then 800000 else 0)

/-- The sample clock at an edge: the end of holdover (R22), and on a node that follows the links the samples that its own
clock brought (R398). -/
def Device.edgeClock (d : Device) (arrived : Nat) : Device :=
  let d := if d.on Reg.BEAT_STATUS_holdover && d.beat.clockGood then d.setHoldover false else d
  if d.followsWeft && d.beat.started && arrived != d.beat.samples then d.bump Reg.WFT_BEAT_SLIP_slips else d

/-- The period of the coming beat (R19, R20, R394). -/
def Device.edgePeriod (d : Device) : Device :=
  let n := if d.mode == .native then d.beat.nextSamples.getD d.beat.samples else 48
  let d := { d with beat := { d.beat with samples := n, nextSamples := d.beat.afterSamples, afterSamples := none } }
  if d.followsWeft then d.wr Reg.BEAT_PERIOD_samples n else d

/-- The beat number advances, the new period comes into force, and the length of the new beat is predicted (R12, R23, R27).
`e` is the clock of the edge. -/
def Device.edgeNumber (d : Device) (e : Nat) (number : Option Nat) (regular : Bool) : Device :=
  let len := e - (d.beat.clock - d.beat.stick)
  let b := d.beat
  let d := if b.started then
      let d := d.wr Reg.BEAT_LAST_TICKS_ticks (satAt 0x3FFFFF len)
      { d with beat := { b with
          sbeat := match number with | some n => max n (b.sbeat + 1) | none => b.sbeat + 1
          tRef := if regular then len else b.tRef, sRef := if regular then b.samples else b.sRef } }
    else { d with beat := { b with started := true, sbeat := 0 } }
  let d := d.edgePeriod
  let d := { d with
    beat := { d.beat with stick := max 40 (d.beat.clock - e), clock := e + max 40 (d.beat.clock - e), grants := false }
    weft := { d.weft with edge := none, irregular := false } }
  let p := d.beat.tRef * d.beat.samples / max 1 d.beat.sRef
  (d.wr Reg.BEAT_PRED_ticks p).wr Reg.BEAT_FALLOW_start (p - 32000)

/-- The front ends keep the configuration that has landed for their next frame (R25, R206). -/
def Device.edgeFronts (d : Device) : Device :=
  (List.range 4).foldl (fun d n =>
    if (d.front n).phase = 0 then d else d.modFront n (fun x => { x with snap := d.frontRegs n })) d

/-- The effect parameters of the haptic bridges, their limits and their thermal model, which take effect at the beat edge (R25; log
entry 110). -/
def hapShadows : List Nat := (List.range 8).flatMap (fun n => [Reg.HAP_LIMIT n, Reg.HAP_THERM n])

/-- Step 0 of the edge on the mixed-signal die (R25): the swap of banks, the audio blocks, touch configuration, haptics and
votes. `len` is the length of the beat that has ended, in samples. -/
def Device.edgeMixed (d : Device) (len : Nat) (ins : List (Nat × List Nat)) (bad : List Nat) : Device :=
  let d := hapShadows.foldl Device.applyShadow d
  let was := d.rd Reg.AUD_STATUS_active
  let d := if d.rd (Reg.PWR_DOM_state 8) == 2 then d.audioEdge len ins bad else d
  let d := d.mixEdge (d.rd Reg.AUD_STATUS_active != was)
  (d.edgeFronts.powerEdge).udcExpire

/-! ### The compute die -/

/-- A position as R38 reports it: beats ahead of the current beat and the stick value there, by the predicted lengths. -/
def Device.beatsAhead (d : Device) (t : Nat) : Nat :=
  let len := fun (s : Nat) => max 1 (d.beat.tRef * s / max 1 d.beat.sRef)
  let s1 := d.beat.nextSamples.getD d.beat.samples
  let p0 := len d.beat.samples
  let p1 := len s1
  let p2 := len (d.beat.afterSamples.getD s1)
  let x := t - (d.beat.clock - d.beat.stick)
  let (b, k) := if x < p0 then (0, x) else if x < p0 + p1 then (1, x - p0) else (2 + (x - p0 - p1) / p2, (x - p0 - p1) % p2)
  satAt 1023 b * 2 ^ 22 + satAt 0x3FFFFF k

/-- The captured positions of head `h` at tick 40 (R38, R39). -/
def Device.edgeHead (d : Device) (h : Nat) : Device :=
  if d.running h then
    let (l, c) := d.headPositions h
    (d.setReg (Reg.BEAT_HEAD_LATCH h) (w32 (d.beatsAhead l))).setReg (Reg.BEAT_HEAD_CUTOFF h) (w32 (d.beatsAhead c))
  else (d.setReg (Reg.BEAT_HEAD_LATCH h) 0xFFFFFFFF#32).setReg (Reg.BEAT_HEAD_CUTOFF h) 0xFFFFFFFF#32

/-- The shadowed registers of the BEAT block, in address order (R25, R26). -/
def beatShadows : List Nat :=
  [Reg.BEAT_CTL] ++ (List.range 8).map Reg.BEAT_HEAD_LATEPOL ++ (List.range 5).map Reg.BEAT_SQ_BUDGET

/-- Ticks 41 to 71: the shadowed registers of the BEAT block take effect; a beat that follows no link has no lock with one (R45). -/
def Device.edgeShadows (d : Device) : Device :=
  let d := beatShadows.foldl Device.applyShadow d
  let d := d.wr Reg.BEAT_STATUS_source_active (b2n d.followsWeft)
  if d.followsWeft then d else d.wr Reg.BEAT_STATUS_weft_locked 0

/-- Sequencer `q` as the edge arrives `len` ticks after the last: a pass that sleeps or waits for an event ends (R63, R64),
and the time of one that runs goes on; what it has stalled before the edge is counted (R34). A halted sequencer of the compatibility
draft starts again (R429). -/
def Device.edgeSeq (d : Device) (len q : Nat) : Device :=
  let d := d.modSeq q (fun x =>
    { x with
      spass := x.spass + (if x.wait.stalls then len - x.now else 0), pldBy := if x.wait matches .port _ _ then x.pldBy - len else x.pldBy,
      flight := (x.flight.filter (fun t => len < t)).map (· - len) })
  let x := d.seq q
  if x.running then
    match x.wait with
    | .tick _ => d.endPass q
    | .event _ _ _ => d.endPass q
    | _ => d.setSeq q { x with now := x.now - len }
  else if x.halted && d.mode != .native && decide (q ≤ 1) then d.restartSeq q
  else d

/-- The four words of a commit receipt (R165). -/
def Receipt.words (r : Receipt) : List Word :=
  [w32 ((if r.rpj then 0 else r.serial % 65536) + r.head * 2 ^ 16 + (if r.sq = 4 then 2 ^ 19 else 0) + r.result * 2 ^ 20
      + (if r.clamped then 2 ^ 24 else 0) + (if r.rpj then 2 ^ 25 else 0)),
    w32 r.groups, w32 r.frame, w32 r.superseded]

/-- The receipts `rs` of the compositor of channel `c` written into the area that `cfg` names in the DMEM of sequencer `q` (R60, R165). -/
def Device.putReceipts (d : Device) (c q : Nat) (cfg : Word) (rs : List Receipt) : Device :=
  let n := let v := wbits cfg 22 16; if v = 0 then 1 else min v 64
  let a := wbits cfg 15 4 * 16
  if !bitOn cfg.toNat 31 then d
  else if dmemSize q < a + 16 + n * 16 then d.wr (Reg.CMP_STATUS_cfg_err c) 1
  else
    let ws := rs.take n
    let d := d.modSeq q (fun x => (x.setDwords (a / 4 + 4) (ws.flatMap Receipt.words)).setDword (a / 4)
      (w32 (ws.length + (if n < rs.length then 128 else 0))))
    if ws.isEmpty then d else d.event q evReceipt

/-- Ticks 128 to 135 on channel `c` (R165, R176): the receipts of the old beat are written, each into the DMEM of the sequencer that
committed, in the area of this compositor's CMP_RCPT register (log entry 31), and the compositor looks again for room for the retire
records that wait. -/
def Device.edgeCmp (d : Device) (c : Nat) : Device :=
  let rs := (d.cmp c).receipts
  let d := d.modCmp c (fun m => { m with receipts := [] })
  let d := (List.range 4).foldl (fun d q =>
    let mine := rs.filter (fun r => r.sq == q)
    if q = c || !mine.isEmpty then d.putReceipts c q (d.reg (Reg.CMP_RCPT_CSQ c)) mine else d) d
  let d := d.putReceipts c 4 (d.reg (Reg.CMP_RCPT_SSQ c)) (rs.filter (fun r => r.sq == 4))
  (d.cmp c).recs.foldl (fun d r => d.retireWrite c r.owner) d

/-- Ticks 104 to 119 for the SSQ also end phase IMAGE (R475): its image is current. -/
def Device.edgeBoot (d : Device) : Device :=
  if d.rd Reg.GLB_BOOT_phase == 3 && (d.seq 4).imageValid then
    (d.wr Reg.GLB_BOOT_phase 5).wr Reg.GLB_BOOT_ms (satAt 0xFFFFF (d.beat.clock / 800000))
  else d

/-- Ticks 120 to 127 (R349, R351): the checker starts its pass; an edge with hold set is counted. -/
def Device.edgeCheck (d : Device) : Device :=
  let d := d.cfgStart
  if d.on Reg.FLT_CFGCRC_CTL_hold then d.bump Reg.FLT_CFGCRC_STAT_held else d

/-- Tick 136 for sequencer `q` (R25, R34, R35): a new pass starts, or SKIP counts an edge at which the old pass still runs, within
its counted budget or beyond it. -/
def Device.edgePass (d : Device) (q : Nat) : Device :=
  let x := d.seq q
  if x.running then
    if q != 4 && d.rdAct (Reg.BEAT_SQ_BUDGET_policy q) == 0 then d.bump (Reg.BEAT_SQ_OVR_skipped q) else d
  else d.passStart q

/-- Tick 136: passes start, and pick grants open; held picks start with the budgets that were posted (R25, R33). -/
def Device.edgeGrants (d : Device) : Device :=
  let d := d.atTick 136
  let d := (List.range 5).foldl Device.edgePass d
  let d := { d with beat := { d.beat with grants := true } }
  (d.q.picks.filter (·.held)).foldl (fun d p => d.startPick p p.budget) d

/-- The steps of the compute die from tick 40 on (R25, R365), for an edge `len` ticks after the last. -/
def Device.edgeCompute (d : Device) (len : Nat) (old : List FaultRec) : Device :=
  let d := old.foldl (fun d r => d.writeFault r) d
  let d := (List.range 5).foldl (fun d q => d.edgeSeq len q) d
  let d := (List.range 8).foldl Device.edgeHead d
  let d := d.edgeShadows.shareEdge
  let d := (List.range 5).foldl Device.imageCurrent d
  let d := d.edgeBoot.edgeCheck
  let d := (List.range 4).foldl Device.edgeCmp d
  d.edgeGrants

/-! ### The edge -/

/-- What node 0 sends before the edge of its coming beat (R389, R394). -/
def Device.edgeBlock (d : Device) : Device :=
  if d.mode == .native && d.isRoot then
    let n := if d.beat.started then d.beat.sbeat + 1 else 0
    d.sendBlock 4 "BEAT"
      [n, d.beat.nextSamples.getD d.beat.samples, clampDelay (d.rd Reg.WFT_BEAT_CFG_delay), 0, 0]
  else d

/-- The edge with its steps. In D-NAP only the number goes on; in D-DIM, and without the compute die, the mixed-signal die
alone does its steps (R375) and writes its records directly to the fault log (R361). Admission resumes at the first edge after a wake (R379). -/
def Device.beatEdge (d : Device) (ticks arrived : Nat) (ins : List (Nat × List Nat)) (bad : List Nat) : Device :=
  let (e, number, regular) := d.edgePlace ticks
  let len := e - (d.beat.clock - d.beat.stick)
  let state := d.rd Reg.PWR_STATE_state
  let awake := state == 0 && !d.flt.lostCompute
  let d := if d.flt.lostCompute then d.flt.raised.foldl (fun d r => d.logEdge r) { d with flt := { d.flt with raised := [] } } else d
  let old := if awake then d.flt.raised else []
  let d := if awake then { d with flt := { d.flt with raised := [] } } else d
  let samples := d.beat.samples
  let d := ((d.edgeBlock.edgeClock arrived).edgeNumber e number regular)
  let d := if state = 2 || d.flt.lostMixed then d else d.edgeMixed samples ins bad
  if awake then { d with pwr := { d.pwr with exiting := false } }.edgeCompute len old else d

/-- `BEAT_EDGE` (R18, R25): the count of samples expires, `ticks` FCLK ticks after the last edge as the sample clock places it.
`arrived` is the count of samples that the own clock of a node that follows the links brought (R398), `ins` what the inputs
of the crosspoint brought, and `bad` the guarded sinks whose two computations differ. -/
def execBeatEdge (ticks arrived : Nat) (ins : List (Nat × List Nat)) (bad : List Nat) (s : State) :
    Host.Outcome State Fault Refusal :=
  onDev s (fun d => d.when (d.rd Reg.GLB_BOOT_phase != 0 && d.edgeFits ticks) (fun d => d.beatEdge ticks arrived ins bad))

end Sys2Proof.Machine
end

