-- ==== Sys2Proof/Machine/Startup.lean ====
section
/-!
DEFINITION. What befalls the device from outside: its reset pins and supplies (R4, R330, R373, R452 to R459, R475 to R477), heat
(R468), clocks and links (R21, R22, R346, R460), the exit from D-DIM and D-NAP (R378 to R380), configuration requests (R476), and
the debug port and the test logic (R312).
-/

namespace Sys2Proof.Machine

open Sys2Proof

/-! ### Reset pins -/

/-- The level of a mode pin: the majority of its three samples (R457). -/
def pinLevel (samples : List Bool) : Nat := if 2 ≤ ((samples.take 3).filter id).length then 1 else 0

/-- `RESET_N_RISE` (R4, R457, R475): the samples of MODE_1 and MODE_0. The board raises the pin only while REFCLK runs (R452). -/
def execResetNRise (mode1 mode0 : List Bool) (s : State) : Host.Outcome State Fault Refusal :=
  onDev s (fun d =>
    d.when d.boot.low (fun d =>
      let j : JtagOp := match d.boot.jtag with
        | .extest => .bypass
        | .intest => .bypass
        | x => x
      ({ d with boot := { d.boot with low := false, refclk := true, jtag := j } }.wr Reg.GLB_MODE_pins
        (2 * pinLevel mode1 + pinLevel mode0)).startUp))

/-- `RESET_N_FALL` (R456, R477): RESET_N is low for 1 µs. -/
def execResetNFall (s : State) : Host.Outcome State Fault Refusal :=
  onDev s (fun d =>
    d.when (!d.boot.low) (fun d =>
      let d := d.resetDevice
      { d with boot := { d.boot with low := true, stopped := false } }))

/-- `VHOLD_GOOD` (R452, R455). -/
def execVholdGood (s : State) : Host.Outcome State Fault Refusal :=
  onDev s (fun d => d.when (!d.boot.vhold) (fun d => { d with boot := { d.boot with vhold := true } }.startUp))

/-- `PERST_N_ASSERT` (R477): after phase SEED the host interface alone is reset. -/
def execPerstNAssert (s : State) : Host.Outcome State Fault Refusal :=
  onDev s (fun d => d.when (decide (2 ≤ d.phase)) (fun d => d.resetHost))

/-- `DEVICE_RESET` (R425, R477): a committed GLB_RST.device of the secure world. -/
def execDeviceReset (ag : Agent) (s : State) : Host.Outcome State Fault Refusal :=
  onDev s (fun d => d.when (agentSecure ag && d.phase != 0) (fun d => d.resetDevice))

/-! ### Supplies and heat -/

/-- The sequence of R330 run to its end: accepted writes complete and one hour-meter cell is written, with the seconds since the
last one in all, above 75 °C and above 90 °C. -/
def Device.failSequence (d : Device) (sec t75 t90 : Nat) : Device :=
  if d.seed.parked || !d.on Reg.SEED_STATUS_ready then d
  else
    let d := d.settleSeed.hourWrite (satAt 60 sec) (satAt 60 t75) (satAt 60 t90)
    { d with seed := { d.seed with parked := true } }

/-- `SEED_REGISTER_WRITE`: the oldest accepted write is performed (R326). A cut of VHOLD during it leaves what R332 says, and a device
without power. -/
def execSeedRegisterWrite (how : WriteEnd) (s : State) : Host.Outcome State Fault Refusal :=
  onDev s (fun d =>
    match d.seed.queue with
    | [] => d
    | w :: ws =>
      if d.seed.parked || (isCut how && !d.on Reg.SEED_STATUS_pfail) then d
      else if isCut how then (d.seedPerform w how).vholdLost
      else
        let d := { d with seed := { d.seed with queue := ws } }.seedPerform w how
        let d := match w.src with | .seq n => d.seedResume n | _ => d.seedPlace
        d.showSeed)

/-- `SUPPLY_LOST` (R373): the supply of domain `k`. A brown-out of the core supplies runs R330 and holds the device in reset. -/
def execSupplyLost (k sec t75 t90 : Nat) (s : State) : Host.Outcome State Fault Refusal :=
  onDev s (fun d =>
    if k ≤ 1 then
      let d := (d.failSequence sec t75 t90).resetDevice
      { d with boot := { d.boot with brown := true } }
    else
      d.when (decide (k ≤ 10) && !d.pwr.supply.contains k) (fun d =>
        let d := { d with pwr := { d.pwr with supply := d.pwr.supply ++ [k] } }
        if !(d.holders k).isEmpty then d.supplyDrop k
        else if d.dom k = 0 then d
        else (d.domLose k).wr (Reg.PWR_DOM_state k) 0))

/-- `SUPPLY_RETURN` (R373): the domain can come up at the next edge, or the hold of a brown-out ends. -/
def execSupplyReturn (k : Nat) (s : State) : Host.Outcome State Fault Refusal :=
  onDev s (fun d =>
    if k ≤ 1 then d.when d.boot.brown (fun d => { d with boot := { d.boot with brown := false } }.startUp)
    else { d with pwr := { d.pwr with supply := d.pwr.supply.filter (· != k) } })

/-- `THERMAL_SHUTDOWN` (R468): a sensor reads 125 °C. -/
def execThermalShutdown (sec t75 t90 : Nat) (s : State) : Host.Outcome State Fault Refusal :=
  onDev s (fun d =>
    d.when (!d.boot.hot) (fun d =>
      let d := ((d.logNow (fault 0x10 1 0x200000 0)).failSequence sec t75 t90).resetDevice
      { d with boot := { d.boot with hot := true } }))

/-- `THERMAL_RESTART` (R468): every sensor reads 10 °C below the maximum of the grade. -/
def execThermalRestart (s : State) : Host.Outcome State Fault Refusal :=
  onDev s (fun d => d.when d.boot.hot (fun d => { d with boot := { d.boot with hot := false } }.startUp))

/-! ### Clocks and links -/

/-- `AMCLK_LOST` (R21, R353): the beat generator enters holdover. -/
def execAmclkLost (s : State) : Host.Outcome State Fault Refusal :=
  onDev s (fun d =>
    d.when (d.beat.clockGood && d.phase != 0) (fun d =>
      (({ d with beat := { d.beat with clockGood := false } }.setHoldover true).wr Reg.BEAT_STATUS_amclk_lost 1).raise
        (fault 0x07 1 0x100000 0)))

/-- `HOLDOVER_EXIT` (R22): AMCLK has run for 1,024 cycles inside its limits; the next beat edge leaves holdover. -/
def execHoldoverExit (s : State) : Host.Outcome State Fault Refusal :=
  onDev s (fun d => { d with beat := { d.beat with clockGood := true } })

/-- `REFCLK_LOST` (R345, R353, R460): a fault of level 6, which stops the device. -/
def execRefclkLost (s : State) : Host.Outcome State Fault Refusal :=
  onDev s (fun d =>
    d.when (d.boot.refclk && d.phase != 0) (fun d =>
      let d := (d.logNow (fault 0x07 2 0 0)).stopDevice
      { d with boot := { d.boot with refclk := false } }))

/-- What FCLK clocks resets (R15, R345): the four channels, the SSQ, the fabric with the memory complex, and what reaches memory through it
(log entry 115). -/
def Device.resetFclk (d : Device) : Device :=
  let d := (List.range 4).foldl (fun d c => d.channelReset c) d
  let d := (d.stopPass 4).dropGuards (.seq 4)
  let d := { d with mem := Device.reset.mem }.takeOut unitMemory 1600000
  let d := (List.range 4).foldl (fun d n => d.linkOff n) (d.takeOut unitWeft 1600000)
  d.resetHost.takeOut unitHost 1600000

/-- `PLL_UNLOCK` (R345, R346, R353): the PLL of the shader clock of a channel, or that of FCLK; what it clocks resets. -/
def execPllUnlock (sclk : Option Nat) (s : State) : Host.Outcome State Fault Refusal :=
  onDev s (fun d =>
    d.when (d.phase != 0) (fun d =>
      match sclk with
      | some c => d.when (c < 4) (fun d => (d.channelReset c).raise (fault 0x07 3 (Reg.RAS_STATUS c) c))
      | none => d.resetFclk.raise (fault 0x07 3 0 0)))

/-- `PCIE_REPLAY_LIMIT` (R345, R346, R353): the host complex resets. -/
def execPcieReplayLimit (s : State) : Host.Outcome State Fault Refusal :=
  onDev s (fun d =>
    d.when (d.phase != 0) (fun d => (d.resetHost.takeOut unitHost 1600000).raise (fault 0x03 1 Reg.HIF_CTL 0)))

/-- `PCIE_LINK_L0` (R379): WAKE_N is released. -/
def execPcieLinkL0 (s : State) : Host.Outcome State Fault Refusal :=
  onDev s (fun d =>
    d.when (!d.pwr.wakeN) (fun d =>
      { d with pwr := { d.pwr with wakeN := true, linkL2 := false } }.emit (.pin "WAKE_N" 0 1)))

/-! ### The exit from D-DIM and D-NAP (R379, R380) -/

/-- A latched wake event replayed to its consumer after D-NAP: a trigger plays its effect, a PRESS is written. -/
def Device.replayWake (d : Device) (src : Nat) : Device :=
  if src < 8 then d.trigPlay src
  else if src < 16 then
    let n := src - 8
    (d.relaxPress n (((d.relaxCh n).base.getD 0) - d.rd (Reg.RO_STAT_count n)).toNat).2
  else d

/-- A configuration request that function `fn` serves (R443, R476). The manual gives three settings of the configuration space a meaning;
what else a read answers is open. -/
def Device.configOp (d : Device) (fn : Nat) (op : ConfigOp) : Device :=
  match op with
  | .msixEnable on => d.watchInta (fun d => d.setReg (pciReg fn 0) (w32 (b2n on)))
  | .intDisable on => d.watchInta (fun d => d.setReg (pciReg fn 1) (w32 (b2n on)))
  | .atsEnable on => d.setReg (pciReg fn 2) (w32 (b2n on))
  | .write _ _ => d
  | .read _ => let (v, d) := d.free; d.emit (.data (v % 2 ^ 32))

/-- A TLP that was held completes (R379). -/
def Device.replayTlp (d : Device) (t : Tlp) : Device :=
  match t with
  | .reg .legacy a v => d.udcArrive a v
  | .reg ag a v => d.funcWrite ag (a / 4 * 4) v
  | .bar4 o n data => if d.inWindow o then d.windowAt o n data else d.lpwAt (d.rd Reg.GLB_LPW_BASE_base * 2 ^ 30 + o) n data
  | .config fn op => d.configOp fn op

/-- The domains that are wanted come up. -/
def Device.wakeDomains (d : Device) : Device :=
  (List.range 11).foldl (fun d k =>
    if 2 ≤ k && !(d.holders k).isEmpty && d.dom k != 2 && !d.pwr.supply.contains k then d.domOn k else d) d

/-- `WAKE_EXIT` (R379, R380, R406). -/
def execWakeExit (s : State) : Host.Outcome State Fault Refusal :=
  onDev s (fun d =>
    let st := d.rd Reg.PWR_STATE_state
    d.when (d.pwr.exiting && st != 0) (fun d =>
      let d := ((d.wr Reg.PWR_STATE_state 0).wr (Reg.PWR_DOM_state 1) 2).wakeDomains
      let d := if st = 2 then { d with pwr := { d.pwr with wakeN := false } }.emit (.pin "WAKE_N" 0 0) else d.sendWake 4
      let evs := d.pwr.latched
      let hs := d.glass.held
      let ts := d.pwr.heldTlp
      let d := { d with pwr := { d.pwr with latched := [], heldTlp := [] }, glass := { d.glass with held := [] } }
      let d := if st = 2 then evs.foldl Device.replayWake d else d
      let d := hs.foldl (fun d h => d.reportAt h.front h.rpt h.sec h.time h.recs) d
      ts.foldl Device.replayTlp d))

/-! ### Configuration requests (R443, R476) -/

/-- `CONFIGURATION_REQUEST` (R443, R476): to function `fn`. In D-DIM it waits (R379). -/
def execConfigurationRequest (fn : Nat) (op : ConfigOp) (s : State) : Host.Outcome State Fault Refusal :=
  onDev s (fun d =>
    if d.phase = 0 || 31 < fn || (fn != 0 && d.phase != 5) || !d.hostUp then d
    else if d.phase = 1 then d.emit .crs
    else d.tlp (.config fn op) (fun d => d.configOp fn op))

/-! ### Debug port and test logic (R312) -/

/-- A debug enable in effect: bit 0 n_noninv, 1 n_inv, 2 s_noninv, 3 s_inv. -/
def Device.dbg (d : Device) (bit : Nat) : Bool := (d.rd Reg.WLD_DBG_in_effect).testBit bit

/-- Whether the invasive enable of a world is in effect. -/
def Device.dbgInv (d : Device) (secure : Bool) : Bool := d.dbg (if secure then 3 else 1)

/-- Whether the debug port reads counters, the log and traces of a world. -/
def Device.dbgRead (d : Device) (secure : Bool) : Bool := d.dbgInv secure || d.dbg (if secure then 2 else 0)

/-- Whether a register is one of the counters and status registers: it has no field that is written plainly. -/
def counterReg (a : Nat) : Bool :=
  match findRow a with
  | some r => r.rw ||| r.rws ||| r.rwb ||| r.rwp ||| r.rwg == 0
  | none => false

/-- A request of the debug port to a sequencer that its enables permit. -/
def Device.dbgSeq (d : Device) (q : Nat) (f : Device → Device) : Device := d.when (decide (q ≤ 4) && d.dbgInv (q == 4)) f

/-- `DEBUG_PORT_ACCESS` (R312). A read of a register first performs a write that its posted block has accepted (R414). -/
def execDebugPortAccess (op : DebugOp) (s : State) : Host.Outcome State Fault Refusal :=
  onDev s (fun d =>
    match op with
    | .readReg sec a =>
      d.when (d.dbgInv sec || (d.dbgRead sec && counterReg a)) (fun d =>
        let (v, d) := (d.settlePosted a (postedOf a)).regRead sec a
        d.emit (.data v.toNat))
    | .writeReg sec a v => d.when (d.dbgInv sec) (fun d => d.regWrite (.debug sec) a v)
    | .readMem sec a n =>
      d.when (d.dbgInv sec) (fun d =>
        match d.read (if sec then .securePhys else .phys) 8 a n with
        | (.ok bs, d) => d.emit (.bytes bs)
        | (.error _, d) => d.emit (.bytes (List.replicate n 0xFF#8)))
    | .writeMem sec a bs => d.when (d.dbgInv sec) (fun d => (d.write (if sec then .securePhys else .phys) 8 a bs).2)
    | .readLog e =>
      let b := rawRead d.mems.mram (0x140000 + 64 * (e % 8192)) 64
      d.when (d.on Reg.SEED_STATUS_ready && d.dbgRead (bitOn (leAt b 0 4) 19)) (fun d => d.emit (.bytes b))
    | .halt q => d.dbgSeq q (fun d => { d with boot := { d.boot with halts := (d.boot.halts.filter (· != q)) ++ [q] } })
    | .step q =>
      d.dbgSeq q (fun d =>
        d.when (d.boot.halts.contains q) (fun d => { d with boot := { d.boot with steps := d.boot.steps ++ [q] } }))
    | .go q =>
      d.dbgSeq q (fun d => { d with boot := { d.boot with
        halts := d.boot.halts.filter (· != q), steps := d.boot.steps.filter (· != q) } })
    | .trace q => d.when (decide (q ≤ 4) && d.dbgRead (q == 4)) (fun d => d.emit (.data (d.seq q).pc))
    | .load q imem i ws =>
      d.dbgSeq q (fun d =>
        d.modSeq q (fun x =>
          if imem then { x with imem := putWords 0xFFFFFFFF#32 x.imem i (ws.take (0x4000 - i)) }
          else x.setDwords i (ws.take (dmemSize q / 4 - i)))))

/-- `JTAG_INSTRUCTION` (R312): one that is not available selects the bypass register. -/
def execJtagInstruction (op : JtagOp) (s : State) : Host.Outcome State Fault Refusal :=
  onDev s (fun d =>
    let ok := match op with
      | .extest => d.boot.low || (d.dbg 1 && d.dbg 3)
      | .intest => d.boot.low || (d.dbg 1 && d.dbg 3)
      | _ => true
    { d with boot := { d.boot with jtag := if ok then op else .bypass } })

end Sys2Proof.Machine
end

