-- ==== Sys2Proof/Machine/Pins.lean ====
section
/-!
DEFINITION. The states of the pins (R458, R459): in reset, before a block is configured, in use and in D-NAP, as they follow from the
state of the device.
-/

namespace Sys2Proof.Machine

open Sys2Proof

/-- The pin groups of R459: the legs of a haptic bridge; the drive lines and the sense lines of a touch front end; a relaxation channel;
a trigger pin; the lanes, AUX and HPD of a port; the lanes of a Weft link; the PCIe lanes, PERST_N and WAKE_N; LP5X; the outputs of a TDM
port; SPI; an I3C port; the inputs of the test logic and TDO with the debug port; GENLOCK_OUT; INTR; and the inputs RESET_N, MODE_n and
PWRFAIL_N. -/
inductive PinGroup where
  | bridge (n : Nat)
  | tx (n : Nat)
  | rx (n : Nat)
  | ro (n : Nat)
  | trig (t : Nat)
  | dp (p : Nat)
  | aux (p : Nat)
  | hpd (p : Nat)
  | weft (n : Nat)
  | pcie
  | perstN
  | wakeN
  | lp5x
  | tdm (p : Nat)
  | spi
  | i3c (k : Nat)
  | jtagIn
  | tdo
  | genlock
  | intr
  | resetN
  | modePin
  | pwrfailN
  deriving DecidableEq, Repr

/-- What a pin group does: high impedance; an input; both low sides of a bridge on; driven to VSS; electrical idle; driven as its block
works; an open drain that is released; LP5X in self-refresh; or as PCIe Base 5.0 gives it. -/
inductive PinState where
  | highZ
  | input
  | lowSides
  | low
  | idle
  | driven
  | openDrain
  | selfRefresh
  | pcieBase
  deriving DecidableEq, Repr

/-- The state of a group in reset (R459). -/
def PinGroup.inReset : PinGroup → PinState
  | .trig _ | .hpd _ | .jtagIn | .resetN | .modePin | .pwrfailN => .input
  | .pcie | .perstN | .wakeN => .pcieBase
  | _ => .highZ

/-- The domain whose supply feeds the bank of a group, when a domain's does (R373). -/
def PinGroup.bank : PinGroup → Option Nat
  | .bridge _ => some 10
  | .tx _ | .rx _ | .ro _ => some 9
  | .tdm _ => some 8
  | .dp _ | .aux _ => some 6
  | .weft _ => some 7
  | _ => none

/-- Whether R458 holds a group in its reset state: the device is unpowered or held in reset, or the supply of the bank is absent. -/
def Device.pinHeld (d : Device) (g : PinGroup) : Bool :=
  d.boot.low || !d.boot.vhold || d.boot.brown || d.boot.hot || d.boot.stopped
    || (match g.bank with | some k => d.pwr.supply.contains k | none => false)

/-- The state of a pin group (R458, R459): a block that is not enabled, or that has lost its die or its power, leaves its pins as they are
before configuration; in D-NAP the lanes are idle, LP5X is in self-refresh and the bridges rest. -/
def Device.pinState (d : Device) (g : PinGroup) : PinState :=
  let on := fun k => d.rd (Reg.PWR_DOM_state k) == 2
  if d.pinHeld g then g.inReset
  else
    match g with
    | .bridge n => if d.on (Reg.HAP_CFG_enable n) && on 10 then .driven else if d.glass.vhap then .lowSides else .highZ
    | .tx n => if d.on (Reg.TCH_CFG_enable n) && on 9 then .driven else .low
    | .dp p => if d.on (Reg.DP_CTL_enable p) && on 6 && !d.flt.lostCompute then .driven else .idle
    | .weft n => if d.on (Reg.WFT_LINK_CTL_enable n) && on 7 && !d.flt.lostCompute then .driven else .idle
    | .wakeN => if d.pwr.wakeN then .openDrain else .low
    | .pcie | .perstN => .pcieBase
    | .lp5x =>
      if d.rd Reg.PWR_STATE_state != 0 then .selfRefresh else if 2 ≤ d.phase then .driven else .highZ
    | .tdm p => if bitOn (d.reg (Reg.AUD_TDM_CFG p)).toNat 31 && on 8 then .driven else .highZ
    | .spi => .driven
    | .i3c k => if k = 0 then .openDrain else if d.pwr.i3c1 then .driven else .highZ
    | .genlock => .low
    | .intr => if d.on Reg.GLB_INTPIN_enable then .driven else .highZ
    | .trig _ | .hpd _ | .jtagIn | .resetN | .modePin | .pwrfailN => .input
    | .rx _ | .ro _ | .aux _ | .tdo => .highZ

end Sys2Proof.Machine
end

