-- ==== Sys2Proof/Machine/All.lean ====
section
/-!
DEFINITION. Every family of meanings in one import, for the dispatch.
-/
end

