-- ==== Sys2Proof/Machine/Dispatch.lean ====
section
/-!
DEFINITION. The effect of every command: one arm per constructor, each one call of its meaning.
-/

namespace Sys2Proof.Machine

open Sys2Proof

def exec (i : Instr) (s : State) : Host.Outcome State Fault Refusal :=
  match i with
  | .add sq rd ra rb => Sys2Proof.Machine.execAdd sq rd ra rb s
  | .sub sq rd ra rb => Sys2Proof.Machine.execSub sq rd ra rb s
  | .andR sq rd ra rb => Sys2Proof.Machine.execAnd sq rd ra rb s
  | .orR sq rd ra rb => Sys2Proof.Machine.execOr sq rd ra rb s
  | .xor sq rd ra rb => Sys2Proof.Machine.execXor sq rd ra rb s
  | .shl sq rd ra rb => Sys2Proof.Machine.execShl sq rd ra rb s
  | .shr sq rd ra rb => Sys2Proof.Machine.execShr sq rd ra rb s
  | .sra sq rd ra rb => Sys2Proof.Machine.execSra sq rd ra rb s
  | .mul sq rd ra rb => Sys2Proof.Machine.execMul sq rd ra rb s
  | .mulhu sq rd ra rb => Sys2Proof.Machine.execMulhu sq rd ra rb s
  | .mulh sq rd ra rb => Sys2Proof.Machine.execMulh sq rd ra rb s
  | .divu sq rd ra rb => Sys2Proof.Machine.execDivu sq rd ra rb s
  | .remu sq rd ra rb => Sys2Proof.Machine.execRemu sq rd ra rb s
  | .min sq rd ra rb => Sys2Proof.Machine.execMin sq rd ra rb s
  | .max sq rd ra rb => Sys2Proof.Machine.execMax sq rd ra rb s
  | .minu sq rd ra rb => Sys2Proof.Machine.execMinu sq rd ra rb s
  | .maxu sq rd ra rb => Sys2Proof.Machine.execMaxu sq rd ra rb s
  | .cmp sq ra rb => Sys2Proof.Machine.execCmp sq ra rb s
  | .addi sq rd ra imm => Sys2Proof.Machine.execAddi sq rd ra imm s
  | .andi sq rd ra imm => Sys2Proof.Machine.execAndi sq rd ra imm s
  | .ori sq rd ra imm => Sys2Proof.Machine.execOri sq rd ra imm s
  | .xori sq rd ra imm => Sys2Proof.Machine.execXori sq rd ra imm s
  | .shli sq rd ra k => Sys2Proof.Machine.execShli sq rd ra k s
  | .shri sq rd ra k => Sys2Proof.Machine.execShri sq rd ra k s
  | .srai sq rd ra k => Sys2Proof.Machine.execSrai sq rd ra k s
  | .cmpi sq ra imm => Sys2Proof.Machine.execCmpi sq ra imm s
  | .lui sq rd imm => Sys2Proof.Machine.execLui sq rd imm s
  | .ldw sq rd ra imm ecc => Sys2Proof.Machine.execLdw sq rd ra imm ecc s
  | .ldh sq rd ra imm ecc => Sys2Proof.Machine.execLdh sq rd ra imm ecc s
  | .ldhu sq rd ra imm ecc => Sys2Proof.Machine.execLdhu sq rd ra imm ecc s
  | .ldb sq rd ra imm ecc => Sys2Proof.Machine.execLdb sq rd ra imm ecc s
  | .ldbu sq rd ra imm ecc => Sys2Proof.Machine.execLdbu sq rd ra imm ecc s
  | .stw sq rd ra imm => Sys2Proof.Machine.execStw sq rd ra imm s
  | .sth sq rd ra imm => Sys2Proof.Machine.execSth sq rd ra imm s
  | .stb sq rd ra imm => Sys2Proof.Machine.execStb sq rd ra imm s
  | .pld sq rd ra imm lat ans => Sys2Proof.Machine.execPld sq rd ra imm lat ans s
  | .pst sq rd ra put => Sys2Proof.Machine.execPst sq rd ra put s
  | .mfs sq rd num => Sys2Proof.Machine.execMfs sq rd num s
  | .mts sq ra num => Sys2Proof.Machine.execMts sq ra num s
  | .br sq cond off => Sys2Proof.Machine.execB sq cond off s
  | .jal sq rd off => Sys2Proof.Machine.execJal sq rd off s
  | .jalr sq rd ra imm => Sys2Proof.Machine.execJalr sq rd ra imm s
  | .postPick sq rd ra => Sys2Proof.Machine.execPostPick sq rd ra s
  | .postCtx sq rd ra => Sys2Proof.Machine.execPostCtx sq rd ra s
  | .postCopy sq rd ra => Sys2Proof.Machine.execPostCopy sq rd ra s
  | .postHap sq rd ra => Sys2Proof.Machine.execPostHap sq rd ra s
  | .postAud sq rd ra => Sys2Proof.Machine.execPostAud sq rd ra s
  | .waitb sq ra => Sys2Proof.Machine.execWaitb sq ra s
  | .waitf sq rd ra rb => Sys2Proof.Machine.execWaitf sq rd ra rb s
  | .commit sq rd ra rb => Sys2Proof.Machine.execCommit sq rd ra rb s
  | .aswap sq rd ra rb => Sys2Proof.Machine.execAswap sq rd ra rb s
  | .seedw sq rd ra rb => Sys2Proof.Machine.execSeedw sq rd ra rb s
  | .locka sq rd ra => Sys2Proof.Machine.execLocka sq rd ra s
  | .lockr sq rd ra => Sys2Proof.Machine.execLockr sq rd ra s
  | .rayq sq rd ra => Sys2Proof.Machine.execRayq sq rd ra s
  | .trap sq code => Sys2Proof.Machine.execTrap sq code s
  | .eret sq => Sys2Proof.Machine.execEret sq s
  | .fadd w a => Sys2Proof.Machine.execFadd w a s
  | .fsub w a => Sys2Proof.Machine.execFsub w a s
  | .fmul w a => Sys2Proof.Machine.execFmul w a s
  | .ffma w a => Sys2Proof.Machine.execFfma w a s
  | .fmin w a => Sys2Proof.Machine.execFmin w a s
  | .fmax w a => Sys2Proof.Machine.execFmax w a s
  | .frnd w a => Sys2Proof.Machine.execFrnd w a s
  | .fflr w a => Sys2Proof.Machine.execFflr w a s
  | .fceil w a => Sys2Proof.Machine.execFceil w a s
  | .ftrunc w a => Sys2Proof.Machine.execFtrunc w a s
  | .ffract w a => Sys2Proof.Machine.execFfract w a s
  | .fcmpEq w a => Sys2Proof.Machine.execFcmpEq w a s
  | .fcmpNe w a => Sys2Proof.Machine.execFcmpNe w a s
  | .fcmpLt w a => Sys2Proof.Machine.execFcmpLt w a s
  | .fcmpLe w a => Sys2Proof.Machine.execFcmpLe w a s
  | .fcmpGt w a => Sys2Proof.Machine.execFcmpGt w a s
  | .fcmpGe w a => Sys2Proof.Machine.execFcmpGe w a s
  | .fcmpOrd w a => Sys2Proof.Machine.execFcmpOrd w a s
  | .fcmpUnord w a => Sys2Proof.Machine.execFcmpUnord w a s
  | .frcp w a => Sys2Proof.Machine.execFrcp w a s
  | .frsq w a => Sys2Proof.Machine.execFrsq w a s
  | .fsqrt w a => Sys2Proof.Machine.execFsqrt w a s
  | .fexp2 w a => Sys2Proof.Machine.execFexp2 w a s
  | .flog2 w a => Sys2Proof.Machine.execFlog2 w a s
  | .fsinr w a => Sys2Proof.Machine.execFsinr w a s
  | .fcosr w a => Sys2Proof.Machine.execFcosr w a s
  | .f2i w a => Sys2Proof.Machine.execF2i w a s
  | .f2u w a => Sys2Proof.Machine.execF2u w a s
  | .i2f w a => Sys2Proof.Machine.execI2f w a s
  | .u2f w a => Sys2Proof.Machine.execU2f w a s
  | .f2h w a => Sys2Proof.Machine.execF2h w a s
  | .h2f w a => Sys2Proof.Machine.execH2f w a s
  | .f2h2 w a => Sys2Proof.Machine.execF2h2 w a s
  | .hadd2 w a => Sys2Proof.Machine.execHadd2 w a s
  | .hmul2 w a => Sys2Proof.Machine.execHmul2 w a s
  | .hfma2 w a => Sys2Proof.Machine.execHfma2 w a s
  | .hmin2 w a => Sys2Proof.Machine.execHmin2 w a s
  | .hmax2 w a => Sys2Proof.Machine.execHmax2 w a s
  | .iadd w a => Sys2Proof.Machine.execIadd w a s
  | .isub w a => Sys2Proof.Machine.execIsub w a s
  | .imul w a => Sys2Proof.Machine.execImul w a s
  | .imulhu w a => Sys2Proof.Machine.execImulhu w a s
  | .imulh w a => Sys2Proof.Machine.execImulh w a s
  | .imad w a => Sys2Proof.Machine.execImad w a s
  | .vecAnd w a => Sys2Proof.Machine.execVecAnd w a s
  | .vecOr w a => Sys2Proof.Machine.execVecOr w a s
  | .vecXor w a => Sys2Proof.Machine.execVecXor w a s
  | .vecShl w a => Sys2Proof.Machine.execVecShl w a s
  | .vecShr w a => Sys2Proof.Machine.execVecShr w a s
  | .vecSra w a => Sys2Proof.Machine.execVecSra w a s
  | .imin w a => Sys2Proof.Machine.execImin w a s
  | .imax w a => Sys2Proof.Machine.execImax w a s
  | .umin w a => Sys2Proof.Machine.execUmin w a s
  | .umax w a => Sys2Proof.Machine.execUmax w a s
  | .bfe w a => Sys2Proof.Machine.execBfe w a s
  | .bfi w a => Sys2Proof.Machine.execBfi w a s
  | .popc w a => Sys2Proof.Machine.execPopc w a s
  | .fmsb w a => Sys2Proof.Machine.execFmsb w a s
  | .icmpEq w a => Sys2Proof.Machine.execIcmpEq w a s
  | .icmpNe w a => Sys2Proof.Machine.execIcmpNe w a s
  | .icmpLt w a => Sys2Proof.Machine.execIcmpLt w a s
  | .icmpLe w a => Sys2Proof.Machine.execIcmpLe w a s
  | .icmpGt w a => Sys2Proof.Machine.execIcmpGt w a s
  | .icmpGe w a => Sys2Proof.Machine.execIcmpGe w a s
  | .icmpLtu w a => Sys2Proof.Machine.execIcmpLtu w a s
  | .icmpGeu w a => Sys2Proof.Machine.execIcmpGeu w a s
  | .mov w a => Sys2Proof.Machine.execMov w a s
  | .sel w a => Sys2Proof.Machine.execSel w a s
  | .lget w a => Sys2Proof.Machine.execLget w a s
  | .shuf w a => Sys2Proof.Machine.execShuf w a s
  | .vinterp w a => Sys2Proof.Machine.execVinterp w a s
  | .ddx w a => Sys2Proof.Machine.execDdx w a s
  | .ddy w a => Sys2Proof.Machine.execDdy w a s
  | .sadd w a => Sys2Proof.Machine.execSadd w a s
  | .ssub w a => Sys2Proof.Machine.execSsub w a s
  | .smul w a => Sys2Proof.Machine.execSmul w a s
  | .sand w a => Sys2Proof.Machine.execSand w a s
  | .sor w a => Sys2Proof.Machine.execSor w a s
  | .sxor w a => Sys2Proof.Machine.execSxor w a s
  | .sbic w a => Sys2Proof.Machine.execSbic w a s
  | .sshl w a => Sys2Proof.Machine.execSshl w a s
  | .sshr w a => Sys2Proof.Machine.execSshr w a s
  | .ssra w a => Sys2Proof.Machine.execSsra w a s
  | .smov w a => Sys2Proof.Machine.execSmov w a s
  | .spopc w a => Sys2Proof.Machine.execSpopc w a s
  | .slsb w a => Sys2Proof.Machine.execSlsb w a s
  | .scmpEq w a => Sys2Proof.Machine.execScmpEq w a s
  | .scmpNe w a => Sys2Proof.Machine.execScmpNe w a s
  | .scmpLt w a => Sys2Proof.Machine.execScmpLt w a s
  | .scmpLe w a => Sys2Proof.Machine.execScmpLe w a s
  | .scmpGt w a => Sys2Proof.Machine.execScmpGt w a s
  | .scmpGe w a => Sys2Proof.Machine.execScmpGe w a s
  | .scmpLtu w a => Sys2Proof.Machine.execScmpLtu w a s
  | .scmpGeu w a => Sys2Proof.Machine.execScmpGeu w a s
  | .ssel w a => Sys2Proof.Machine.execSsel w a s
  | .bra w imm => Sys2Proof.Machine.execBra w imm s
  | .bq1 w imm => Sys2Proof.Machine.execBq1 w imm s
  | .bq0 w imm => Sys2Proof.Machine.execBq0 w imm s
  | .baz w imm => Sys2Proof.Machine.execBaz w imm s
  | .banz w imm => Sys2Proof.Machine.execBanz w imm s
  | .wgbar w => Sys2Proof.Machine.execWgbar w s
  | .membar w imm => Sys2Proof.Machine.execMembar w imm s
  | .vecNop w => Sys2Proof.Machine.execVecNop w s
  | .vecEnd w => Sys2Proof.Machine.execVecEnd w s
  | .sld w a => Sys2Proof.Machine.execSld w a s
  | .bld w a => Sys2Proof.Machine.execBld w a s
  | .bst w a => Sys2Proof.Machine.execBst w a s
  | .batomAdd w a => Sys2Proof.Machine.execBatomAdd w a s
  | .batomSmin w a => Sys2Proof.Machine.execBatomSmin w a s
  | .batomSmax w a => Sys2Proof.Machine.execBatomSmax w a s
  | .batomUmin w a => Sys2Proof.Machine.execBatomUmin w a s
  | .batomUmax w a => Sys2Proof.Machine.execBatomUmax w a s
  | .batomAnd w a => Sys2Proof.Machine.execBatomAnd w a s
  | .batomOr w a => Sys2Proof.Machine.execBatomOr w a s
  | .batomXor w a => Sys2Proof.Machine.execBatomXor w a s
  | .batomXchg w a => Sys2Proof.Machine.execBatomXchg w a s
  | .batomCmpxchg w a => Sys2Proof.Machine.execBatomCmpxchg w a s
  | .wld w a => Sys2Proof.Machine.execWld w a s
  | .wst w a => Sys2Proof.Machine.execWst w a s
  | .watomAdd w a => Sys2Proof.Machine.execWatomAdd w a s
  | .watomSmin w a => Sys2Proof.Machine.execWatomSmin w a s
  | .watomSmax w a => Sys2Proof.Machine.execWatomSmax w a s
  | .watomUmin w a => Sys2Proof.Machine.execWatomUmin w a s
  | .watomUmax w a => Sys2Proof.Machine.execWatomUmax w a s
  | .watomAnd w a => Sys2Proof.Machine.execWatomAnd w a s
  | .watomOr w a => Sys2Proof.Machine.execWatomOr w a s
  | .watomXor w a => Sys2Proof.Machine.execWatomXor w a s
  | .watomXchg w a => Sys2Proof.Machine.execWatomXchg w a s
  | .watomCmpxchg w a => Sys2Proof.Machine.execWatomCmpxchg w a s
  | .sample w a => Sys2Proof.Machine.execSample w a s
  | .sampleL w a => Sys2Proof.Machine.execSampleL w a s
  | .sampleB w a => Sys2Proof.Machine.execSampleB w a s
  | .fetch w a => Sys2Proof.Machine.execFetch w a s
  | .query w a => Sys2Proof.Machine.execQuery w a s
  | .trace w a => Sys2Proof.Machine.execTrace w a s
  | .expc w a => Sys2Proof.Machine.execExpc w a s
  | .expz w a => Sys2Proof.Machine.execExpz w a s
  | .expp w a => Sys2Proof.Machine.execExpp w a s
  | .expa w a => Sys2Proof.Machine.execExpa w a s
  | .kill w => Sys2Proof.Machine.execKill w s
  | .resetNRise mode1 mode0 => Sys2Proof.Machine.execResetNRise mode1 mode0 s
  | .resetNFall => Sys2Proof.Machine.execResetNFall s
  | .vholdGood => Sys2Proof.Machine.execVholdGood s
  | .seedMirrorReady => Sys2Proof.Machine.execSeedMirrorReady s
  | .trainingDone t => Sys2Proof.Machine.execTrainingDone t s
  | .bootImageCheck => Sys2Proof.Machine.execBootImageCheck s
  | .bootCmdGo ag => Sys2Proof.Machine.execBootCmdGo ag s
  | .perstNAssert => Sys2Proof.Machine.execPerstNAssert s
  | .beatEdge ticks arrived ins bad => Sys2Proof.Machine.execBeatEdge ticks arrived ins bad s
  | .cfgcrcPassEnd => Sys2Proof.Machine.execCfgcrcPassEnd s
  | .cfgcrcHoldExpire => Sys2Proof.Machine.execCfgcrcHoldExpire s
  | .beatPeriodWrite ag value => Sys2Proof.Machine.execBeatPeriodWrite ag value s
  | .beatNowRead => Sys2Proof.Machine.execBeatNowRead s
  | .amclkLost => Sys2Proof.Machine.execAmclkLost s
  | .holdoverExit => Sys2Proof.Machine.execHoldoverExit s
  | .fallowOpen => Sys2Proof.Machine.execFallowOpen s
  | .pickFinish sq slot => Sys2Proof.Machine.execPickFinish sq slot s
  | .pickBudgetExpire sq slot => Sys2Proof.Machine.execPickBudgetExpire sq slot s
  | .preemptRelease sq slot after => Sys2Proof.Machine.execPreemptRelease sq slot after s
  | .clusterOverstay sq slot k => Sys2Proof.Machine.execClusterOverstay sq slot k s
  | .engineReset e => Sys2Proof.Machine.execEngineReset e s
  | .channelReset c reason => Sys2Proof.Machine.execChannelReset c reason s
  | .deviceReset ag => Sys2Proof.Machine.execDeviceReset ag s
  | .passOverrun sq => Sys2Proof.Machine.execPassOverrun sq s
  | .overrunGraceExpire sq => Sys2Proof.Machine.execOverrunGraceExpire sq s
  | .pldTimeout sq => Sys2Proof.Machine.execPldTimeout sq s
  | .waitbWake sq => Sys2Proof.Machine.execWaitbWake sq s
  | .waitfReturn sq tick => Sys2Proof.Machine.execWaitfReturn sq tick s
  | .rayQueryEnd sq slot => Sys2Proof.Machine.execRayQueryEnd sq slot s
  | .seqIllegal sq why => Sys2Proof.Machine.execSeqIllegal sq why s
  | .csqLoadGo ag q => Sys2Proof.Machine.execCsqLoadGo ag q s
  | .imageVerifyDone q => Sys2Proof.Machine.execImageVerifyDone q s
  | .csqRestart ag q => Sys2Proof.Machine.execCsqRestart ag q s
  | .csqRun ag q run => Sys2Proof.Machine.execCsqRun ag q run s
  | .csqMail ag q value => Sys2Proof.Machine.execCsqMail ag q value s
  | .csqVote ag c value => Sys2Proof.Machine.execCsqVote ag c value s
  | .doorbell idx n value => Sys2Proof.Machine.execDoorbell idx n value s
  | .descriptorAdmit idx => Sys2Proof.Machine.execDescriptorAdmit idx s
  | .hrvWriteFaultClear idx => Sys2Proof.Machine.execHrvWriteFaultClear idx s
  | .hrvIrqAge idx => Sys2Proof.Machine.execHrvIrqAge idx s
  | .instQCfgWrite idx n value => Sys2Proof.Machine.execInstQCfgWrite idx n value s
  | .instHrvCfgWrite idx value => Sys2Proof.Machine.execInstHrvCfgWrite idx value s
  | .hrvConsWrite idx value => Sys2Proof.Machine.execHrvConsWrite idx value s
  | .fence idx n => Sys2Proof.Machine.execFence idx n s
  | .seedItem idx n => Sys2Proof.Machine.execSeedItem idx n s
  | .powerWithdraw idx n => Sys2Proof.Machine.execPowerWithdraw idx n s
  | .powerHold idx n => Sys2Proof.Machine.execPowerHold idx n s
  | .powerDrop idx n => Sys2Proof.Machine.execPowerDrop idx n s
  | .nop u => Sys2Proof.Machine.execNop u s
  | .state u => Sys2Proof.Machine.execState u s
  | .passBegin u => Sys2Proof.Machine.execPassBegin u s
  | .attach u => Sys2Proof.Machine.execAttach u s
  | .draw u cover => Sys2Proof.Machine.execDraw u cover s
  | .drawIndirect u covers => Sys2Proof.Machine.execDrawIndirect u covers s
  | .dispatch u => Sys2Proof.Machine.execDispatch u s
  | .dispatchIndirect u => Sys2Proof.Machine.execDispatchIndirect u s
  | .passEnd u => Sys2Proof.Machine.execPassEnd u s
  | .cache u => Sys2Proof.Machine.execCache u s
  | .barrier u => Sys2Proof.Machine.execBarrier u s
  | .bind u => Sys2Proof.Machine.execBind u s
  | .timestamp u => Sys2Proof.Machine.execTimestamp u s
  | .endC u => Sys2Proof.Machine.execEndC u s
  | .ctxLimitExpire c => Sys2Proof.Machine.execCtxLimitExpire c s
  | .rasPinLoad ch value => Sys2Proof.Machine.execRasPinLoad ch value s
  | .rpjLeadPoint h => Sys2Proof.Machine.execRpjLeadPoint h s
  | .rpjPassEnd h after => Sys2Proof.Machine.execRpjPassEnd h after s
  | .waveStart u k what => Sys2Proof.Machine.execWaveStart u k what s
  | .vecIllegal w => Sys2Proof.Machine.execVecIllegal w s
  | .commitCheckEnd h => Sys2Proof.Machine.execCommitCheckEnd h s
  | .take h idx n => Sys2Proof.Machine.execTake h idx n s
  | .headCutoff h => Sys2Proof.Machine.execHeadCutoff h s
  | .vrrLineInsert h => Sys2Proof.Machine.execVrrLineInsert h s
  | .headLatchLine h => Sys2Proof.Machine.execHeadLatchLine h s
  | .headClockLocked h after => Sys2Proof.Machine.execHeadClockLocked h after s
  | .headStart h after => Sys2Proof.Machine.execHeadStart h after s
  | .retireRecordWrite c idx => Sys2Proof.Machine.execRetireRecordWrite c idx s
  | .composeLine h => Sys2Proof.Machine.execComposeLine h s
  | .underrun h col => Sys2Proof.Machine.execUnderrun h col s
  | .writebackFrameDone h => Sys2Proof.Machine.execWritebackFrameDone h s
  | .rectCheckResult h k => Sys2Proof.Machine.execRectCheckResult h k s
  | .timingChk h => Sys2Proof.Machine.execTimingChk h s
  | .clearFallback h => Sys2Proof.Machine.execClearFallback h s
  | .clearBlank h => Sys2Proof.Machine.execClearBlank h s
  | .genlockInPulse tick => Sys2Proof.Machine.execGenlockInPulse tick s
  | .dpApply p sink => Sys2Proof.Machine.execDpApply p sink s
  | .dpLinkLost p hpd => Sys2Proof.Machine.execDpLinkLost p hpd s
  | .hpdIrq p => Sys2Proof.Machine.execHpdIrq p s
  | .tchEnable n => Sys2Proof.Machine.execTchEnable n s
  | .touchReady n cal => Sys2Proof.Machine.execTouchReady n cal s
  | .touchFrameEnd n m tick => Sys2Proof.Machine.execTouchFrameEnd n m tick s
  | .contactHoldExpire n id => Sys2Proof.Machine.execContactHoldExpire n id s
  | .baselineStoreTimer n => Sys2Proof.Machine.execBaselineStoreTimer n s
  | .tchStoreNow n => Sys2Proof.Machine.execTchStoreNow n s
  | .roGateEnd n count tick => Sys2Proof.Machine.execRoGateEnd n count tick s
  | .roHoldExpire n => Sys2Proof.Machine.execRoHoldExpire n s
  | .hapSample n m => Sys2Proof.Machine.execHapSample n m s
  | .effectEnd n => Sys2Proof.Machine.execEffectEnd n s
  | .spliceStart n after => Sys2Proof.Machine.execSpliceStart n after s
  | .cutVolt n low => Sys2Proof.Machine.execCutVolt n low s
  | .cutTime n => Sys2Proof.Machine.execCutTime n s
  | .restEnd n => Sys2Proof.Machine.execRestEnd n s
  | .hapCalGo n => Sys2Proof.Machine.execHapCalGo n s
  | .hapCalDone n f0 q re => Sys2Proof.Machine.execHapCalDone n f0 q re s
  | .trigEdge t rising tick => Sys2Proof.Machine.execTrigEdge t rising tick s
  | .trigHoldExpire t => Sys2Proof.Machine.execTrigHoldExpire t s
  | .audSwapReq ag ramp => Sys2Proof.Machine.execAudSwapReq ag ramp s
  | .swapRampEnd => Sys2Proof.Machine.execSwapRampEnd s
  | .audCopy => Sys2Proof.Machine.execAudCopy s
  | .audCopyDone => Sys2Proof.Machine.execAudCopyDone s
  | .audBankWrite ag addr value => Sys2Proof.Machine.execAudBankWrite ag addr value s
  | .audStore => Sys2Proof.Machine.execAudStore s
  | .genFinish n => Sys2Proof.Machine.execGenFinish n s
  | .tdmClkLost p => Sys2Proof.Machine.execTdmClkLost p s
  | .tdmLock p => Sys2Proof.Machine.execTdmLock p s
  | .tdmSlip p => Sys2Proof.Machine.execTdmSlip p s
  | .scAccess input pa n data what chk link => Sys2Proof.Machine.execScAccess input pa n data what chk link s
  | .scFill b => Sys2Proof.Machine.execScFill b s
  | .arbiterGrant b new => Sys2Proof.Machine.execArbiterGrant b new s
  | .tierBPromote b input => Sys2Proof.Machine.execTierBPromote b input s
  | .quotaWindow => Sys2Proof.Machine.execQuotaWindow s
  | .controllerIssue b => Sys2Proof.Machine.execControllerIssue b s
  | .rowClose b bank => Sys2Proof.Machine.execRowClose b bank s
  | .refreshDue b bank rfm => Sys2Proof.Machine.execRefreshDue b bank rfm s
  | .neighbourRefresh b => Sys2Proof.Machine.execNeighbourRefresh b s
  | .pnrReseed => Sys2Proof.Machine.execPnrReseed s
  | .dqsCheck b drift => Sys2Proof.Machine.execDqsCheck b drift s
  | .copyChainStart n => Sys2Proof.Machine.execCopyChainStart n s
  | .copyChainEnd n whole pages => Sys2Proof.Machine.execCopyChainEnd n whole pages s
  | .medCall code => Sys2Proof.Machine.execMedCall code s
  | .setup => Sys2Proof.Machine.execSetup s
  | .start => Sys2Proof.Machine.execStart s
  | .share => Sys2Proof.Machine.execShare s
  | .inval => Sys2Proof.Machine.execInval s
  | .freeze => Sys2Proof.Machine.execFreeze s
  | .freezeDone idx => Sys2Proof.Machine.execFreezeDone idx s
  | .save => Sys2Proof.Machine.execSave s
  | .restore => Sys2Proof.Machine.execRestore s
  | .thaw => Sys2Proof.Machine.execThaw s
  | .reset => Sys2Proof.Machine.execReset s
  | .resetDrainDone idx => Sys2Proof.Machine.execResetDrainDone idx s
  | .cancel => Sys2Proof.Machine.execCancel s
  | .dlog => Sys2Proof.Machine.execDlog s
  | .headvec => Sys2Proof.Machine.execHeadvec s
  | .functionLevelReset fn => Sys2Proof.Machine.execFunctionLevelReset fn s
  | .enclaveCfgWrite ag e value => Sys2Proof.Machine.execEnclaveCfgWrite ag e value s
  | .wldDbgWrite ag value => Sys2Proof.Machine.execWldDbgWrite ag value s
  | .handoverStart ag kind unit secure => Sys2Proof.Machine.execHandoverStart ag kind unit secure s
  | .handoverDone kind unit => Sys2Proof.Machine.execHandoverDone kind unit s
  | .lockAcquire ag k => Sys2Proof.Machine.execLockAcquire ag k s
  | .lockRelease ag k => Sys2Proof.Machine.execLockRelease ag k s
  | .lockForceRelease ag k => Sys2Proof.Machine.execLockForceRelease ag k s
  | .hostAtsInval fn pasid page pages => Sys2Proof.Machine.execHostAtsInval fn pasid page pages s
  | .seedRegisterWrite how => Sys2Proof.Machine.execSeedRegisterWrite how s
  | .rwpWrite ag addr value => Sys2Proof.Machine.execRwpWrite ag addr value s
  | .powerFailTrip pin chunks => Sys2Proof.Machine.execPowerFailTrip pin chunks s
  | .mramPark sec t75 t90 => Sys2Proof.Machine.execMramPark sec t75 t90 s
  | .pfailRecover => Sys2Proof.Machine.execPfailRecover s
  | .scrubPass corrected bad => Sys2Proof.Machine.execScrubPass corrected bad s
  | .recordWrite => Sys2Proof.Machine.execRecordWrite s
  | .seedRecCmd ag => Sys2Proof.Machine.execSeedRecCmd ag s
  | .hourMeterWrite t75 t90 => Sys2Proof.Machine.execHourMeterWrite t75 t90 s
  | .logRoomRefill => Sys2Proof.Machine.execLogRoomRefill s
  | .cfgcrcCommit ag => Sys2Proof.Machine.execCfgcrcCommit ag s
  | .compositorWatchdog c => Sys2Proof.Machine.execCompositorWatchdog c s
  | .lockstepMismatch => Sys2Proof.Machine.execLockstepMismatch s
  | .bridgeReplay up spared => Sys2Proof.Machine.execBridgeReplay up spared s
  | .dieHeartbeatLost lost => Sys2Proof.Machine.execDieHeartbeatLost lost s
  | .domainUpDone k => Sys2Proof.Machine.execDomainUpDone k s
  | .domainDownDone k => Sys2Proof.Machine.execDomainDownDone k s
  | .pwrVoteWrite ag c value => Sys2Proof.Machine.execPwrVoteWrite ag c value s
  | .supplyLost k sec t75 t90 => Sys2Proof.Machine.execSupplyLost k sec t75 t90 s
  | .dvfsRequest ag n mhz => Sys2Proof.Machine.execDvfsRequest ag n mhz s
  | .thermalOver => Sys2Proof.Machine.execThermalOver s
  | .thermalShutdown sec t75 t90 => Sys2Proof.Machine.execThermalShutdown sec t75 t90 s
  | .stateRequest ag st => Sys2Proof.Machine.execStateRequest ag st s
  | .stateEntry => Sys2Proof.Machine.execStateEntry s
  | .wakeEvent src => Sys2Proof.Machine.execWakeEvent src s
  | .wakeExit => Sys2Proof.Machine.execWakeExit s
  | .i3c0Write addr bs => Sys2Proof.Machine.execI3c0Write addr bs s
  | .i3c0Read addr n => Sys2Proof.Machine.execI3c0Read addr n s
  | .i3c1Transfer ag value => Sys2Proof.Machine.execI3c1Transfer ag value s
  | .i3c1TransferDone nack data => Sys2Proof.Machine.execI3c1TransferDone nack data s
  | .wftLinkTrain n latency right => Sys2Proof.Machine.execWftLinkTrain n latency right s
  | .wftLaneFail n pair => Sys2Proof.Machine.execWftLaneFail n pair s
  | .flitReceive n bs member => Sys2Proof.Machine.execFlitReceive n bs member s
  | .wftLinkFail n => Sys2Proof.Machine.execWftLinkFail n s
  | .linkDown n idx bad => Sys2Proof.Machine.execLinkDown n idx bad s
  | .wftRetrain ag n => Sys2Proof.Machine.execWftRetrain ag n s
  | .numbering n node sizeX sizeY => Sys2Proof.Machine.execNumbering n node sizeX sizeY s
  | .beatBlock n number samples delay hops accum tick => Sys2Proof.Machine.execBeatBlock n number samples delay hops accum tick s
  | .beatBlockMissing => Sys2Proof.Machine.execBeatBlockMissing s
  | .frameTimer => Sys2Proof.Machine.execFrameTimer s
  | .frameBlock n frame hops accum tick => Sys2Proof.Machine.execFrameBlock n frame hops accum tick s
  | .wakeBlock n => Sys2Proof.Machine.execWakeBlock n s
  | .windowAccess o n data => Sys2Proof.Machine.execWindowAccess o n data s
  | .windowTimeout tag => Sys2Proof.Machine.execWindowTimeout tag s
  | .event n inst vec => Sys2Proof.Machine.execEvent n inst vec s
  | .bcastGo ag => Sys2Proof.Machine.execBcastGo ag s
  | .bcastEnd acked discarded => Sys2Proof.Machine.execBcastEnd acked discarded s
  | .registerWrite ag addr be values => Sys2Proof.Machine.execRegisterWrite ag addr be values s
  | .setAlias ag addr value => Sys2Proof.Machine.execSetAlias ag addr value s
  | .clearAlias ag addr value => Sys2Proof.Machine.execClearAlias ag addr value s
  | .toggleAlias ag addr value => Sys2Proof.Machine.execToggleAlias ag addr value s
  | .postedWrite ag addr value => Sys2Proof.Machine.execPostedWrite ag addr value s
  | .postedWriteDone k => Sys2Proof.Machine.execPostedWriteDone k s
  | .guardedWrite ag value twin => Sys2Proof.Machine.execGuardedWrite ag value twin s
  | .guardTwinWrite ag value => Sys2Proof.Machine.execGuardTwinWrite ag value s
  | .guardTimeout => Sys2Proof.Machine.execGuardTimeout s
  | .headFrameRead h flip => Sys2Proof.Machine.execHeadFrameRead h flip s
  | .lpwAccess o n data => Sys2Proof.Machine.execLpwAccess o n data s
  | .udcWrite a be value => Sys2Proof.Machine.execUdcWrite a be value s
  | .udcWriteLand => Sys2Proof.Machine.execUdcWriteLand s
  | .udcUpdate h => Sys2Proof.Machine.execUdcUpdate h s
  | .udcResetAll => Sys2Proof.Machine.execUdcResetAll s
  | .udcResetHead h => Sys2Proof.Machine.execUdcResetHead h s
  | .udcHeadOff off => Sys2Proof.Machine.execUdcHeadOff off s
  | .udcClkdiv code => Sys2Proof.Machine.execUdcClkdiv code s
  | .udcStandby on => Sys2Proof.Machine.execUdcStandby on s
  | .udcBlitGo => Sys2Proof.Machine.execUdcBlitGo s
  | .udcBlitEnd => Sys2Proof.Machine.execUdcBlitEnd s
  | .udcMixApply => Sys2Proof.Machine.execUdcMixApply s
  | .mixedSwapRequest value => Sys2Proof.Machine.execMixedSwapRequest value s
  | .udcChimeGo c => Sys2Proof.Machine.execUdcChimeGo c s
  | .udcChimeStop c => Sys2Proof.Machine.execUdcChimeStop c s
  | .udcTchFifoRead p => Sys2Proof.Machine.execUdcTchFifoRead p s
  | .udcVsync h => Sys2Proof.Machine.execUdcVsync h s
  | .refclkLost => Sys2Proof.Machine.execRefclkLost s
  | .pllUnlock sclk => Sys2Proof.Machine.execPllUnlock sclk s
  | .supplyReturn k => Sys2Proof.Machine.execSupplyReturn k s
  | .vhapGood => Sys2Proof.Machine.execVhapGood s
  | .thermalRecover => Sys2Proof.Machine.execThermalRecover s
  | .thermalRestart => Sys2Proof.Machine.execThermalRestart s
  | .saveDone idx => Sys2Proof.Machine.execSaveDone idx s
  | .restoreDone idx => Sys2Proof.Machine.execRestoreDone idx s
  | .pmeTurnOffHandshake => Sys2Proof.Machine.execPmeTurnOffHandshake s
  | .pcieLinkL0 => Sys2Proof.Machine.execPcieLinkL0 s
  | .pcieReplayLimit => Sys2Proof.Machine.execPcieReplayLimit s
  | .configurationRequest fn op => Sys2Proof.Machine.execConfigurationRequest fn op s
  | .dynamicAddressing setdasa static addr => Sys2Proof.Machine.execDynamicAddressing setdasa static addr s
  | .debugPortAccess op => Sys2Proof.Machine.execDebugPortAccess op s
  | .jtagInstruction op => Sys2Proof.Machine.execJtagInstruction op s

end Sys2Proof.Machine
end

