-- ==== Sys2Proof/Machine/Step.lean ====
section
/-!
DEFINITION. One step: the command at the front of the queue with its effect on the rest of the machine, or a tick of FCLK
when no command waits.
-/

namespace Sys2Proof.Machine

open Sys2Proof

/-- One tick of FCLK with no command: beat time goes on and nothing else changes (log entry 4). -/
def State.idle (s : State) : State := { s with dev := { s.dev with out := [] }.atTick (s.dev.beat.stick + 1) }

/-- One step. -/
def step (s : State) : Host.Outcome State Fault Refusal :=
  match s.pending with
  | [] => .next s.idle
  | c :: cs => exec c { s with pending := cs }

/-- `s` with the command that a word spells at the front of its queue; the opcode table gives its rows no bits, so no word
spells one. -/
def State.withFetchWord (s : State) (nbits w : Nat) : State :=
  match decodeTableWord nbits w with
  | some c => { s with pending := c :: s.pending }
  | none => s

end Sys2Proof.Machine
end

