-- ==== Sys2Proof/WellFormed.lean ====
section
/-!
DEFINITION. When a command's operands name things that the D8 has: every register, sequencer, channel, head, port and unit
number lies in its range.
-/

namespace Sys2Proof

/-- A sequencer: CSQ0 to CSQ3 or the SSQ (R46). -/
def okSq (x : Nat) : Bool := decide (x ≤ 4)

/-- A general register g0 to g15 (R46). -/
def okReg (x : Nat) : Bool := decide (x < 16)

/-- A shift amount of an immediate shift (R51). -/
def okShift (x : Nat) : Bool := decide (x < 32)

/-- A condition code of `B` (R53). -/
def okCond (x : Nat) : Bool := decide (x < 16)

/-- A post slot (R61). -/
def okPost (x : Nat) : Bool := decide (x < 8)

/-- A ray query slot (R69). -/
def okQuery (x : Nat) : Bool := decide (x < 4)

/-- A shader cluster of a channel (R13). -/
def okCluster (x : Nat) : Bool := decide (x < 12)

/-- A channel CH0 to CH3 (R13). -/
def okChan (x : Nat) : Bool := decide (x < 4)

/-- A retire ring: one of an instance, or that of the secure world (R176). -/
def okRing (x : Nat) : Bool := decide (x ≤ 32)

/-- An instance or PCIe function (R80). -/
def okInst (x : Nat) : Bool := decide (x < 32)

/-- A queue of an instance (R80). -/
def okQueue (x : Nat) : Bool := decide (x < 16)

/-- A head H0 to H7 (R17). -/
def okHead (x : Nat) : Bool := decide (x < 8)

/-- A head of the UDC-4 map (R429). -/
def okLegacyhead (x : Nat) : Bool := decide (x < 4)

/-- A checked region of a head: a rectangle set, or a region of a legacy head (R191, R437). -/
def okRect (x : Nat) : Bool := decide (x < 20)

/-- A display port DP0 to DP7 (R17). -/
def okPort (x : Nat) : Bool := decide (x < 8)

/-- A touch front end T0 to T3 (R17). -/
def okFront (x : Nat) : Bool := decide (x < 4)

/-- A relaxation channel, haptic channel, trigger pin or generator, of eight each (R17). -/
def okEight (x : Nat) : Bool := decide (x < 8)

/-- A TDM port AUD_0 to AUD_5 (R17). -/
def okTdm (x : Nat) : Bool := decide (x < 6)

/-- A bank of the system cache with its controller (R13). -/
def okBank (x : Nat) : Bool := decide (x < 16)

/-- An input of the bank arbiters (R267). -/
def okInput (x : Nat) : Bool := decide (x < 12)

/-- A copy engine (R13). -/
def okEngine (x : Nat) : Bool := decide (x < 4)

/-- An enclave (R309). -/
def okEnclave (x : Nat) : Bool := decide (x < 16)

/-- A lock cell (R316). -/
def okLock (x : Nat) : Bool := decide (x < 64)

/-- A power domain (R368). -/
def okDomain (x : Nat) : Bool := decide (x ≤ 10)

/-- A vote client (R369). -/
def okVoter (x : Nat) : Bool := decide (x < 8)

/-- A wake source by its bit of PWR_WAKE_EN (R382). -/
def okWake (x : Nat) : Bool := decide (x ≤ 21) || x == 31

/-- A code of PWR_STATE.req (R382). -/
def okDevstate (x : Nat) : Bool := decide (x < 4)

/-- A Weft link W0 to W3 (R17). -/
def okLink (x : Nat) : Bool := decide (x < 4)

/-- A link of the mesh as the fault map numbers it (R392). -/
def okMesh (x : Nat) : Bool := decide (x < 112)

/-- A chime of the UDC-4 (R441). -/
def okChime (x : Nat) : Bool := decide (x < 4)

/-- A touch panel of the UDC-4 (R442). -/
def okPanel (x : Nat) : Bool := decide (x < 2)

/-- An offset of the UDC-4 map (R430). -/
def okUdcmap (x : Nat) : Bool := decide (x < 0x10000)

/-- A code of UDC_PWR.clkdiv (R445). -/
def okDivcode (x : Nat) : Bool := decide (x < 4)

/-- A mask of heads in UDC_PWR (R445). -/
def okHeadmask (x : Nat) : Bool := decide (x < 16)

/-- An offset in the LP5X window (R424). -/
def okWindow (x : Nat) : Bool := decide (x < 2 ^ 30)

/-- A posted block by bits [27:20] of its base (R414). -/
def okPosted (x : Nat) : Bool := [0, 2, 4, 0xB, 0xC, 0xD].contains x

/-- An address on an I3C bus (R381). -/
def okBusaddr (x : Nat) : Bool := decide (x < 128)

/-- A code of a mediated call (R299). -/
def okByte (x : Nat) : Bool := decide (x < 256)

/-- Whether a debug port request names sequencers that the D8 has (R312). -/
def okDebug : DebugOp → Bool
  | .halt q => okSq q
  | .step q => okSq q
  | .go q => okSq q
  | .trace q => okSq q
  | .load q _ _ _ => okSq q
  | _ => true

/-- Whether an engine is one that the D8 has (R13, R345). -/
def okEngineOf : Engine → Bool
  | .cluster c k => okChan c && okCluster k
  | .traversal c t => okChan c && decide (t < 2)
  | .compositor c => okChan c
  | .front n => okFront n
  | .bridge n => okEight n
  | .controller b => okBank b

/-- A well-formed command. -/
def Instr.wf : Instr → Bool
  | .resetNRise _ _ => true
  | .resetNFall => true
  | .vholdGood => true
  | .seedMirrorReady => true
  | .trainingDone _ => true
  | .bootImageCheck => true
  | .bootCmdGo _ => true
  | .perstNAssert => true
  | .beatEdge _ _ _ _ => true
  | .cfgcrcPassEnd => true
  | .cfgcrcHoldExpire => true
  | .beatPeriodWrite _ _ => true
  | .beatNowRead => true
  | .amclkLost => true
  | .holdoverExit => true
  | .fallowOpen => true
  | .pickFinish sq slot => okSq sq && okPost slot
  | .pickBudgetExpire sq slot => okSq sq && okPost slot
  | .preemptRelease sq slot _ => okSq sq && okPost slot
  | .clusterOverstay sq slot k => okSq sq && okPost slot && okCluster k
  | .engineReset e => okEngineOf e
  | .channelReset c _ => okChan c
  | .deviceReset _ => true
  | .passOverrun sq => okSq sq
  | .overrunGraceExpire sq => okSq sq
  | .add sq rd ra rb => okSq sq && okReg rd && okReg ra && okReg rb
  | .sub sq rd ra rb => okSq sq && okReg rd && okReg ra && okReg rb
  | .andR sq rd ra rb => okSq sq && okReg rd && okReg ra && okReg rb
  | .orR sq rd ra rb => okSq sq && okReg rd && okReg ra && okReg rb
  | .xor sq rd ra rb => okSq sq && okReg rd && okReg ra && okReg rb
  | .shl sq rd ra rb => okSq sq && okReg rd && okReg ra && okReg rb
  | .shr sq rd ra rb => okSq sq && okReg rd && okReg ra && okReg rb
  | .sra sq rd ra rb => okSq sq && okReg rd && okReg ra && okReg rb
  | .mul sq rd ra rb => okSq sq && okReg rd && okReg ra && okReg rb
  | .mulhu sq rd ra rb => okSq sq && okReg rd && okReg ra && okReg rb
  | .mulh sq rd ra rb => okSq sq && okReg rd && okReg ra && okReg rb
  | .divu sq rd ra rb => okSq sq && okReg rd && okReg ra && okReg rb
  | .remu sq rd ra rb => okSq sq && okReg rd && okReg ra && okReg rb
  | .min sq rd ra rb => okSq sq && okReg rd && okReg ra && okReg rb
  | .max sq rd ra rb => okSq sq && okReg rd && okReg ra && okReg rb
  | .minu sq rd ra rb => okSq sq && okReg rd && okReg ra && okReg rb
  | .maxu sq rd ra rb => okSq sq && okReg rd && okReg ra && okReg rb
  | .cmp sq ra rb => okSq sq && okReg ra && okReg rb
  | .addi sq rd ra _ => okSq sq && okReg rd && okReg ra
  | .andi sq rd ra _ => okSq sq && okReg rd && okReg ra
  | .ori sq rd ra _ => okSq sq && okReg rd && okReg ra
  | .xori sq rd ra _ => okSq sq && okReg rd && okReg ra
  | .shli sq rd ra k => okSq sq && okReg rd && okReg ra && okShift k
  | .shri sq rd ra k => okSq sq && okReg rd && okReg ra && okShift k
  | .srai sq rd ra k => okSq sq && okReg rd && okReg ra && okShift k
  | .cmpi sq ra _ => okSq sq && okReg ra
  | .lui sq rd _ => okSq sq && okReg rd
  | .ldw sq rd ra _ _ => okSq sq && okReg rd && okReg ra
  | .ldh sq rd ra _ _ => okSq sq && okReg rd && okReg ra
  | .ldhu sq rd ra _ _ => okSq sq && okReg rd && okReg ra
  | .ldb sq rd ra _ _ => okSq sq && okReg rd && okReg ra
  | .ldbu sq rd ra _ _ => okSq sq && okReg rd && okReg ra
  | .stw sq rd ra _ => okSq sq && okReg rd && okReg ra
  | .sth sq rd ra _ => okSq sq && okReg rd && okReg ra
  | .stb sq rd ra _ => okSq sq && okReg rd && okReg ra
  | .pld sq rd ra _ _ _ => okSq sq && okReg rd && okReg ra
  | .pldTimeout sq => okSq sq
  | .pst sq rd ra _ => okSq sq && okReg rd && okReg ra
  | .mfs sq rd _ => okSq sq && okReg rd
  | .mts sq ra _ => okSq sq && okReg ra
  | .br sq cond _ => okSq sq && okCond cond
  | .jal sq rd _ => okSq sq && okReg rd
  | .jalr sq rd ra _ => okSq sq && okReg rd && okReg ra
  | .postPick sq rd ra => okSq sq && okReg rd && okReg ra
  | .postCtx sq rd ra => okSq sq && okReg rd && okReg ra
  | .postCopy sq rd ra => okSq sq && okReg rd && okReg ra
  | .postHap sq rd ra => okSq sq && okReg rd && okReg ra
  | .postAud sq rd ra => okSq sq && okReg rd && okReg ra
  | .waitb sq ra => okSq sq && okReg ra
  | .waitbWake sq => okSq sq
  | .waitf sq rd ra rb => okSq sq && okReg rd && okReg ra && okReg rb
  | .waitfReturn sq _ => okSq sq
  | .commit sq rd ra rb => okSq sq && okReg rd && okReg ra && okReg rb
  | .aswap sq rd ra rb => okSq sq && okReg rd && okReg ra && okReg rb
  | .seedw sq rd ra rb => okSq sq && okReg rd && okReg ra && okReg rb
  | .locka sq rd ra => okSq sq && okReg rd && okReg ra
  | .lockr sq rd ra => okSq sq && okReg rd && okReg ra
  | .rayq sq rd ra => okSq sq && okReg rd && okReg ra
  | .rayQueryEnd sq slot => okSq sq && okQuery slot
  | .trap sq _ => okSq sq
  | .eret sq => okSq sq
  | .seqIllegal sq _ => okSq sq
  | .csqLoadGo _ q => okSq q
  | .imageVerifyDone q => okSq q
  | .csqRestart _ q => okSq q
  | .csqRun _ q _ => okSq q
  | .csqMail _ q _ => okSq q
  | .csqVote _ c _ => okChan c
  | .doorbell i n _ => okInst i && okQueue n
  | .descriptorAdmit i => okInst i
  | .hrvWriteFaultClear i => okInst i
  | .hrvIrqAge i => okInst i
  | .instQCfgWrite i n _ => okInst i && okQueue n
  | .instHrvCfgWrite i _ => okInst i
  | .hrvConsWrite i _ => okInst i
  | .fence i n => okInst i && okQueue n
  | .seedItem i n => okInst i && okQueue n
  | .powerWithdraw i n => okInst i && okQueue n
  | .powerHold i n => okInst i && okQueue n
  | .powerDrop i n => okInst i && okQueue n
  | .nop _ => true
  | .state _ => true
  | .passBegin _ => true
  | .attach _ => true
  | .draw _ _ => true
  | .drawIndirect _ _ => true
  | .dispatch _ => true
  | .dispatchIndirect _ => true
  | .passEnd _ => true
  | .cache _ => true
  | .barrier _ => true
  | .bind _ => true
  | .timestamp _ => true
  | .endC _ => true
  | .ctxLimitExpire c => okChan c
  | .rasPinLoad ch _ => okChan ch
  | .rpjLeadPoint h => okHead h
  | .rpjPassEnd h _ => okHead h
  | .waveStart _ k _ => okCluster k
  | .fadd _ _ => true
  | .fsub _ _ => true
  | .fmul _ _ => true
  | .ffma _ _ => true
  | .fmin _ _ => true
  | .fmax _ _ => true
  | .frnd _ _ => true
  | .fflr _ _ => true
  | .fceil _ _ => true
  | .ftrunc _ _ => true
  | .ffract _ _ => true
  | .fcmpEq _ _ => true
  | .fcmpNe _ _ => true
  | .fcmpLt _ _ => true
  | .fcmpLe _ _ => true
  | .fcmpGt _ _ => true
  | .fcmpGe _ _ => true
  | .fcmpOrd _ _ => true
  | .fcmpUnord _ _ => true
  | .frcp _ _ => true
  | .frsq _ _ => true
  | .fsqrt _ _ => true
  | .fexp2 _ _ => true
  | .flog2 _ _ => true
  | .fsinr _ _ => true
  | .fcosr _ _ => true
  | .f2i _ _ => true
  | .f2u _ _ => true
  | .i2f _ _ => true
  | .u2f _ _ => true
  | .f2h _ _ => true
  | .h2f _ _ => true
  | .f2h2 _ _ => true
  | .hadd2 _ _ => true
  | .hmul2 _ _ => true
  | .hfma2 _ _ => true
  | .hmin2 _ _ => true
  | .hmax2 _ _ => true
  | .iadd _ _ => true
  | .isub _ _ => true
  | .imul _ _ => true
  | .imulhu _ _ => true
  | .imulh _ _ => true
  | .imad _ _ => true
  | .vecAnd _ _ => true
  | .vecOr _ _ => true
  | .vecXor _ _ => true
  | .vecShl _ _ => true
  | .vecShr _ _ => true
  | .vecSra _ _ => true
  | .imin _ _ => true
  | .imax _ _ => true
  | .umin _ _ => true
  | .umax _ _ => true
  | .bfe _ _ => true
  | .bfi _ _ => true
  | .popc _ _ => true
  | .fmsb _ _ => true
  | .icmpEq _ _ => true
  | .icmpNe _ _ => true
  | .icmpLt _ _ => true
  | .icmpLe _ _ => true
  | .icmpGt _ _ => true
  | .icmpGe _ _ => true
  | .icmpLtu _ _ => true
  | .icmpGeu _ _ => true
  | .mov _ _ => true
  | .sel _ _ => true
  | .lget _ _ => true
  | .shuf _ _ => true
  | .vinterp _ _ => true
  | .ddx _ _ => true
  | .ddy _ _ => true
  | .sadd _ _ => true
  | .ssub _ _ => true
  | .smul _ _ => true
  | .sand _ _ => true
  | .sor _ _ => true
  | .sxor _ _ => true
  | .sbic _ _ => true
  | .sshl _ _ => true
  | .sshr _ _ => true
  | .ssra _ _ => true
  | .smov _ _ => true
  | .spopc _ _ => true
  | .slsb _ _ => true
  | .scmpEq _ _ => true
  | .scmpNe _ _ => true
  | .scmpLt _ _ => true
  | .scmpLe _ _ => true
  | .scmpGt _ _ => true
  | .scmpGe _ _ => true
  | .scmpLtu _ _ => true
  | .scmpGeu _ _ => true
  | .ssel _ _ => true
  | .bra _ _ => true
  | .bq1 _ _ => true
  | .bq0 _ _ => true
  | .baz _ _ => true
  | .banz _ _ => true
  | .wgbar _ => true
  | .membar _ _ => true
  | .vecNop _ => true
  | .vecEnd _ => true
  | .vecIllegal _ => true
  | .sld _ _ => true
  | .bld _ _ => true
  | .bst _ _ => true
  | .batomAdd _ _ => true
  | .batomSmin _ _ => true
  | .batomSmax _ _ => true
  | .batomUmin _ _ => true
  | .batomUmax _ _ => true
  | .batomAnd _ _ => true
  | .batomOr _ _ => true
  | .batomXor _ _ => true
  | .batomXchg _ _ => true
  | .batomCmpxchg _ _ => true
  | .wld _ _ => true
  | .wst _ _ => true
  | .watomAdd _ _ => true
  | .watomSmin _ _ => true
  | .watomSmax _ _ => true
  | .watomUmin _ _ => true
  | .watomUmax _ _ => true
  | .watomAnd _ _ => true
  | .watomOr _ _ => true
  | .watomXor _ _ => true
  | .watomXchg _ _ => true
  | .watomCmpxchg _ _ => true
  | .sample _ _ => true
  | .sampleL _ _ => true
  | .sampleB _ _ => true
  | .fetch _ _ => true
  | .query _ _ => true
  | .trace _ _ => true
  | .expc _ _ => true
  | .expz _ _ => true
  | .expp _ _ => true
  | .expa _ _ => true
  | .kill _ => true
  | .commitCheckEnd h => okHead h
  | .take h i n => okHead h && okInst i && okQueue n
  | .headCutoff h => okHead h
  | .vrrLineInsert h => okHead h
  | .headLatchLine h => okHead h
  | .headClockLocked h _ => okHead h
  | .headStart h _ => okHead h
  | .retireRecordWrite c i => okChan c && okRing i
  | .composeLine h => okHead h
  | .underrun h _ => okHead h
  | .writebackFrameDone h => okHead h
  | .rectCheckResult h k => okHead h && okRect k
  | .timingChk h => okHead h
  | .clearFallback h => okHead h
  | .clearBlank h => okHead h
  | .genlockInPulse _ => true
  | .dpApply p _ => okPort p
  | .dpLinkLost p _ => okPort p
  | .hpdIrq p => okPort p
  | .tchEnable n => okFront n
  | .touchReady n _ => okFront n
  | .touchFrameEnd n _ _ => okFront n
  | .contactHoldExpire n _ => okFront n
  | .baselineStoreTimer n => okFront n
  | .tchStoreNow n => okFront n
  | .roGateEnd n _ _ => okEight n
  | .roHoldExpire n => okEight n
  | .hapSample n _ => okEight n
  | .effectEnd n => okEight n
  | .spliceStart n _ => okEight n
  | .cutVolt n _ => okEight n
  | .cutTime n => okEight n
  | .restEnd n => okEight n
  | .hapCalGo n => okEight n
  | .hapCalDone n _ q _ => okEight n && okSq q
  | .trigEdge t _ _ => okEight t
  | .trigHoldExpire t => okEight t
  | .audSwapReq _ _ => true
  | .swapRampEnd => true
  | .audCopy => true
  | .audCopyDone => true
  | .audBankWrite _ _ _ => true
  | .audStore => true
  | .genFinish n => okEight n
  | .tdmClkLost p => okTdm p
  | .tdmLock p => okTdm p
  | .tdmSlip p => okTdm p
  | .scAccess input _ _ _ _ _ _ => okInput input
  | .scFill b => okBank b
  | .arbiterGrant b _ => okBank b
  | .tierBPromote b input => okBank b && okInput input
  | .quotaWindow => true
  | .controllerIssue b => okBank b
  | .rowClose b _ => okBank b
  | .refreshDue b _ _ => okBank b
  | .neighbourRefresh b => okBank b
  | .pnrReseed => true
  | .dqsCheck b _ => okBank b
  | .copyChainStart n => okEngine n
  | .copyChainEnd n _ _ => okEngine n
  | .medCall code => okByte code
  | .setup => true
  | .start => true
  | .share => true
  | .inval => true
  | .freeze => true
  | .freezeDone i => okInst i
  | .save => true
  | .restore => true
  | .thaw => true
  | .reset => true
  | .resetDrainDone i => okInst i
  | .cancel => true
  | .dlog => true
  | .headvec => true
  | .functionLevelReset fn => okInst fn
  | .enclaveCfgWrite _ e _ => okEnclave e
  | .wldDbgWrite _ _ => true
  | .handoverStart _ _ _ _ => true
  | .handoverDone _ _ => true
  | .lockAcquire _ k => okLock k
  | .lockRelease _ k => okLock k
  | .lockForceRelease _ k => okLock k
  | .hostAtsInval _ _ _ _ => true
  | .seedRegisterWrite _ => true
  | .rwpWrite _ _ _ => true
  | .powerFailTrip _ _ => true
  | .mramPark _ _ _ => true
  | .pfailRecover => true
  | .scrubPass _ _ => true
  | .recordWrite => true
  | .seedRecCmd _ => true
  | .hourMeterWrite _ _ => true
  | .logRoomRefill => true
  | .cfgcrcCommit _ => true
  | .compositorWatchdog c => okChan c
  | .lockstepMismatch => true
  | .bridgeReplay _ _ => true
  | .dieHeartbeatLost _ => true
  | .domainUpDone k => okDomain k
  | .domainDownDone k => okDomain k
  | .pwrVoteWrite _ c _ => okVoter c
  | .supplyLost _ _ _ _ => true
  | .dvfsRequest _ n _ => okChan n
  | .thermalOver => true
  | .thermalShutdown _ _ _ => true
  | .stateRequest _ st => okDevstate st
  | .stateEntry => true
  | .wakeEvent src => okWake src
  | .wakeExit => true
  | .i3c0Write addr _ => okBusaddr addr
  | .i3c0Read addr _ => okBusaddr addr
  | .i3c1Transfer _ _ => true
  | .i3c1TransferDone _ _ => true
  | .wftLinkTrain n _ _ => okLink n
  | .wftLaneFail n _ => okLink n
  | .flitReceive n _ _ => okLink n
  | .wftLinkFail n => okLink n
  | .linkDown n i _ => okLink n && okMesh i
  | .wftRetrain _ n => okLink n
  | .numbering n _ _ _ => okLink n
  | .beatBlock n _ _ _ _ _ _ => okLink n
  | .beatBlockMissing => true
  | .frameTimer => true
  | .frameBlock n _ _ _ _ => okLink n
  | .wakeBlock n => okLink n
  | .windowAccess o _ _ => okWindow o
  | .windowTimeout _ => true
  | .event n inst _ => okLink n && okInst inst
  | .bcastGo _ => true
  | .bcastEnd _ _ => true
  | .registerWrite _ _ _ _ => true
  | .setAlias _ _ _ => true
  | .clearAlias _ _ _ => true
  | .toggleAlias _ _ _ => true
  | .postedWrite _ _ _ => true
  | .postedWriteDone k => okPosted k
  | .guardedWrite _ _ _ => true
  | .guardTwinWrite _ _ => true
  | .guardTimeout => true
  | .headFrameRead h _ => okHead h
  | .lpwAccess o _ _ => okWindow o
  | .udcWrite a _ _ => okUdcmap a
  | .udcWriteLand => true
  | .udcUpdate h => okLegacyhead h
  | .udcResetAll => true
  | .udcResetHead h => okLegacyhead h
  | .udcHeadOff off => okHeadmask off
  | .udcClkdiv code => okDivcode code
  | .udcStandby _ => true
  | .udcBlitGo => true
  | .udcBlitEnd => true
  | .udcMixApply => true
  | .mixedSwapRequest _ => true
  | .udcChimeGo c => okChime c
  | .udcChimeStop c => okChime c
  | .udcTchFifoRead p => okPanel p
  | .udcVsync h => okLegacyhead h
  | .refclkLost => true
  | .pllUnlock _ => true
  | .supplyReturn _ => true
  | .vhapGood => true
  | .thermalRecover => true
  | .thermalRestart => true
  | .saveDone i => okInst i
  | .restoreDone i => okInst i
  | .pmeTurnOffHandshake => true
  | .pcieLinkL0 => true
  | .pcieReplayLimit => true
  | .configurationRequest fn _ => okInst fn
  | .dynamicAddressing _ _ addr => okBusaddr addr
  | .debugPortAccess op => okDebug op
  | .jtagInstruction _ => true

end Sys2Proof
end

