-- ==== Sys2Proof/Safety.lean ====
section
/-!
DEFINITION. What counts as a safe run, in the terms that statements use: commands that name what the D8 has, a command that goes
on with an effect on the device and none on the queue, and a sequencer or a wave that is ready for an instruction.
-/

namespace Sys2Proof

open Sys2Proof.Machine

/-- Command `i` in `s` answers a next state: the queue is as it was, and the device is as `P` says. -/
def Gives (i : Instr) (s : State) (P : Device → Prop) : Prop :=
  ∃ d, exec i s = .next { s with dev := d } ∧ P d

/-- A step that ends in a next state. -/
def Goes (s : State) : Prop := ∃ t, step s = .next t

/-- Every waiting command names what the D8 has. -/
def QueueWf (s : State) : Prop := ∀ c ∈ s.pending, c.wf = true

/-- Sequencer `q` executes an instruction (R34, R48, R312): its pass runs, does not wait, and the debug port does not hold it. -/
def Executes (s : State) (q : Nat) : Prop :=
  q ≤ 4 ∧ (s.dev.seq q).running = true ∧ (s.dev.seq q).wait = .running ∧ s.dev.boot.halts = []

/-- `d` differs from `d0` in nothing but its sequencers, the time and what it shows to the outside. -/
def OnlySeqs (d0 d : Device) : Prop := { d with seqs := d0.seqs, beat := d0.beat, out := d0.out } = d0

/-- `d` differs from `d0` in no sequencer but `q`. -/
def OnlySeq (d0 d : Device) (q : Nat) : Prop := OnlySeqs d0 d ∧ ∀ p, p ≠ q → d.seq p = d0.seq p

/-- `d` differs from `d0` in nothing but its registers and what it shows to the outside. -/
def OnlyRegs (d0 d : Device) : Prop := { d with csr := d0.csr, out := d0.out } = d0

/-- Every register but those at the offsets `as` holds in `d` what it held in `d0`. -/
def RegsBut (d0 d : Device) (as : List Nat) : Prop := ∀ a, a ∉ as → d.reg a = d0.reg a

end Sys2Proof
end

