-- ==== Sys2Proof/Certificates/Slice0/Obligations.lean ====
section
/-!
DEFINITION. The statements about this model, each with the rules of the manual that it formalises, and the tables that they
quantify over. A statement about a command says under which conditions on the state and the operands it completes, what the
device then holds, and what it leaves alone.
-/

namespace Sys2Proof.Claims

open Sys2Proof Sys2Proof.Machine

/-! ### Words that the statements share -/

/-- The device as a command finds it: what the last command showed is gone. -/
def found (s : State) : Device := { s.dev with out := [] }

/-- Memory of every kind, translations included, is as it was. -/
def SameMem (s : State) (d : Device) : Prop := d.mems = s.dev.mems

/-! ### Scalar arithmetic -/

/-- A row of R54 in format R: its constructor, its counted cycles, its result, and c and v after it by R52. -/
structure AluRow where
  make : Nat → Nat → Nat → Nat → Instr
  cycles : Nat
  result : Word → Word → Word
  c : Bool → Word → Word → Bool
  v : Bool → Word → Word → Bool

/-- A flag that an instruction does not name is unchanged (R52). -/
def keep (x : Bool) (_ _ : Word) : Bool := x

/-- c after a shift by `b` mod 32: the last bit shifted out, unchanged for a count of 0 (R52). -/
def lastOut (bit : Word → Nat → Bool) (x : Bool) (a b : Word) : Bool :=
  if b.toNat % 32 = 0 then x else bit a (b.toNat % 32)

/-- The carry out of bit 31 of a sum. -/
def sumCarry (_ : Bool) (a b : Word) : Bool := decide (2 ^ 32 ≤ a.toNat + b.toNat)

/-- A sum that is not the sum of the operands read with their signs. -/
def sumOver (_ : Bool) (a b : Word) : Bool := decide ((a + b).toInt ≠ a.toInt + b.toInt)

/-- A borrow: `a` below `b`, both unsigned. -/
def diffBorrow (_ : Bool) (a b : Word) : Bool := decide (a.toNat < b.toNat)

/-- A difference that is not the difference of the operands read with their signs. -/
def diffOver (_ : Bool) (a b : Word) : Bool := decide ((a - b).toInt ≠ a.toInt - b.toInt)

/-- The bit that a left shift by `k` shifts out last. -/
def outLeft (a : Word) (k : Nat) : Bool := a.toNat.testBit (32 - k)

/-- The bit that a right shift by `k` shifts out last. -/
def outRight (a : Word) (k : Nat) : Bool := a.toNat.testBit (k - 1)

/-- v of a division: set for a zero divisor (R54). -/
def byZero (_ : Bool) (_ b : Word) : Bool := b == 0#32

/-- The register arithmetic of R54. -/
def aluRows : List AluRow :=
  [⟨.add, 1, fun a b => a + b, sumCarry, sumOver⟩,
   ⟨.sub, 1, fun a b => a - b, diffBorrow, diffOver⟩,
   ⟨.andR, 1, fun a b => a &&& b, keep, keep⟩,
   ⟨.orR, 1, fun a b => a ||| b, keep, keep⟩,
   ⟨.xor, 1, fun a b => a ^^^ b, keep, keep⟩,
   ⟨.shl, 1, fun a b => a <<< (b.toNat % 32), lastOut outLeft, keep⟩,
   ⟨.shr, 1, fun a b => a >>> (b.toNat % 32), lastOut outRight, keep⟩,
   ⟨.sra, 1, fun a b => a.sshiftRight (b.toNat % 32), lastOut outRight, keep⟩,
   ⟨.mul, 2, fun a b => a * b, keep, keep⟩,
   ⟨.mulhu, 2, fun a b => BitVec.ofNat 32 (a.toNat * b.toNat / 2 ^ 32), keep, keep⟩,
   ⟨.mulh, 2, fun a b => BitVec.ofInt 32 (a.toInt * b.toInt / 2 ^ 32), keep, keep⟩,
   ⟨.divu, 18, fun a b => if b = 0#32 then 0xFFFFFFFF#32 else BitVec.ofNat 32 (a.toNat / b.toNat), keep, byZero⟩,
   ⟨.remu, 18, fun a b => if b = 0#32 then a else BitVec.ofNat 32 (a.toNat % b.toNat), keep, byZero⟩,
   ⟨.min, 1, fun a b => if a.toInt ≤ b.toInt then a else b, keep, keep⟩,
   ⟨.max, 1, fun a b => if a.toInt ≤ b.toInt then b else a, keep, keep⟩,
   ⟨.minu, 1, fun a b => if a.toNat ≤ b.toNat then a else b, keep, keep⟩,
   ⟨.maxu, 1, fun a b => if a.toNat ≤ b.toNat then b else a, keep, keep⟩]

/-- A row of R54 in format I with an immediate as its second operand, which `second` gives. -/
structure ImmRow where
  make : Nat → Nat → Nat → BitVec 18 → Instr
  second : BitVec 18 → Word
  result : Word → Word → Word
  c : Bool → Word → Word → Bool
  v : Bool → Word → Word → Bool

/-- The immediate arithmetic of R54; the count of a shift is imm18[4:0]. -/
def immRows : List ImmRow :=
  [⟨.addi, fun i => i.signExtend 32, fun a b => a + b, sumCarry, sumOver⟩,
   ⟨.andi, fun i => i.setWidth 32, fun a b => a &&& b, keep, keep⟩,
   ⟨.ori, fun i => i.setWidth 32, fun a b => a ||| b, keep, keep⟩,
   ⟨.xori, fun i => i.setWidth 32, fun a b => a ^^^ b, keep, keep⟩,
   ⟨fun q rd ra i => .shli q rd ra (i.toNat % 32), fun i => BitVec.ofNat 32 (i.toNat % 32), fun a b => a <<< (b.toNat % 32), lastOut outLeft, keep⟩,
   ⟨fun q rd ra i => .shri q rd ra (i.toNat % 32), fun i => BitVec.ofNat 32 (i.toNat % 32), fun a b => a >>> (b.toNat % 32), lastOut outRight, keep⟩,
   ⟨fun q rd ra i => .srai q rd ra (i.toNat % 32), fun i => BitVec.ofNat 32 (i.toNat % 32), fun a b => a.sshiftRight (b.toNat % 32), lastOut outRight,
     keep⟩]

/-- What an arithmetic instruction of sequencer `q` does: rd takes `r` (nothing, when rd is g0), z and n follow `r`, c and v are as
given, the pc moves on, the cycles count, and nothing else of the device changes but the time. -/
def AluDoes (i : Instr) (s : State) (q rd cycles : Nat) (reads : List Nat) (r : Word) (c v : Bool) : Prop :=
  Gives i s (fun d =>
    let x := s.dev.seq q
    let y := d.seq q
    OnlySeq s.dev d q ∧ (∀ k, y.gr k = if k = rd ∧ rd ≠ 0 then r else x.gr k) ∧ y.z = (r == 0#32) ∧ y.n = r.msb ∧ y.c = c ∧ y.v = v
      ∧ y.spass = x.spass + cycles + (if x.loadRd != 0 && reads.contains x.loadRd then 1 else 0)
      ∧ y = { x with g := y.g, pc := x.pc + 4, z := y.z, n := y.n, c := y.c, v := y.v, now := y.now, spass := y.spass, loadRd := 0 })

/-! ### DMEM -/

/-- A byte of the DMEM of a sequencer. -/
def dbyte (x : Seq) (a : Nat) : Nat := bits (x.dword (a / 4)).toNat (8 * (a % 4) + 7) (8 * (a % 4))

/-- The `n` bytes of the DMEM from `a` on, as a little-endian number (R46). -/
def dnum (x : Seq) (a : Nat) : Nat → Nat
  | 0 => 0
  | n + 1 => dbyte x a + 256 * dnum x (a + 1) n

/-- A load of R54: its constructor, its size, and what it makes of the bytes read. -/
structure LoadRow where
  make : Nat → Nat → Nat → BitVec 18 → Ecc → Instr
  size : Nat
  value : Nat → Word

/-- The loads of R54. -/
def loadRows : List LoadRow :=
  [⟨.ldw, 4, fun n => BitVec.ofNat 32 n⟩,
   ⟨.ldh, 2, fun n => (BitVec.ofNat 16 n).signExtend 32⟩,
   ⟨.ldhu, 2, fun n => BitVec.ofNat 32 n⟩,
   ⟨.ldb, 1, fun n => (BitVec.ofNat 8 n).signExtend 32⟩,
   ⟨.ldbu, 1, fun n => BitVec.ofNat 32 n⟩]

/-- The stores of R54, with their sizes. -/
def storeRows : List ((Nat → Nat → Nat → BitVec 18 → Instr) × Nat) := [(.stw, 4), (.sth, 2), (.stb, 1)]

/-- The effective address ra + sext(imm18) (R54). -/
def effAddr (s : State) (q ra : Nat) (imm : BitVec 18) : Word := (s.dev.seq q).gr ra + imm.signExtend 32

/-- The size of a DMEM (R55). -/
def dmemBytes (q : Nat) : Nat := if q = 4 then 0x10000 else 0x8000

/-! ### Traps -/

/-- Sequencer `q` is ready to take a trap to a handler: it is not in one, and stvec names one below 0x1_0000. -/
def CanTrap (s : State) (q : Nat) : Prop :=
  (s.dev.seq q).inTrap = false ∧ (s.dev.seq q).stvec ≠ 0#32 ∧ (s.dev.seq q).stvec.toNat < 0x10000

/-- Sequencer `q` has taken the trap `cause` (R70): z, n, c and v saved, scause, stval and sepc written, in_trap set, the pc at
stvec, and its general registers and its DMEM as they were; no other sequencer and no memory changed. -/
def TookTrap (s : State) (d : Device) (q cause : Nat) (stval epc : Word) : Prop :=
  let x := s.dev.seq q
  let y := d.seq q
  y.saved = (if x.z then 1 else 0) + (if x.n then 2 else 0) + (if x.c then 4 else 0) + (if x.v then 8 else 0)
    ∧ y.scause = cause ∧ y.stval = stval ∧ y.sepc = epc ∧ y.inTrap = true ∧ y.pc = x.stvec.toNat / 4 * 4
    ∧ y = { x with saved := y.saved, scause := y.scause, stval := y.stval, sepc := y.sepc, inTrap := true, pc := y.pc, now := y.now,
                   spass := y.spass, loadRd := y.loadRd }
    ∧ (∀ p, p ≠ q → d.seq p = s.dev.seq p) ∧ SameMem s d

/-! ### Special registers, branches, results -/

/-- The special registers that `MFS` reads (R49): the number, and the value in the state in which the instruction runs; spass counts
the instruction itself, and stick is that of its issue. -/
def specialRows : List (Nat × (State → Nat → Word)) :=
  [(0x00, fun s _ => BitVec.ofNat 32 s.dev.beat.sbeat),
   (0x01, fun s q => BitVec.ofNat 32 (s.dev.seq q).sbeatCap),
   (0x02, fun s q => BitVec.ofNat 32 (max s.dev.beat.stick (s.dev.seq q).now % 2 ^ 22)),
   (0x03, fun s q => BitVec.ofNat 32 (q + (if q = 4 then 8 else 0)
     + 256 * (if s.dev.on Reg.WFT_STATUS_numbered then s.dev.rd Reg.WFT_MESH_node else 0))),
   (0x04, fun _ q => if q = 4 then 1#32 else 0#32),
   (0x05, fun s q =>
     let x := s.dev.seq q
     BitVec.ofNat 32 ((if x.z then 1 else 0) + (if x.n then 2 else 0) + (if x.c then 4 else 0) + (if x.v then 8 else 0)
       + (if x.inTrap then 16 else 0) + 256 * x.saved)),
   (0x06, fun s q => BitVec.ofNat 32 (s.dev.seq q).sevent),
   (0x07, fun s q => BitVec.ofNat 32 ((s.dev.seq q).spass + 1)),
   (0x08, fun s q => BitVec.ofNat 32 (s.dev.seq q).sbudget),
   (0x09, fun s _ => BitVec.ofNat 32 (s.dev.rd Reg.BEAT_FALLOW_start)),
   (0x0A, fun s q => (s.dev.seq q).sepc),
   (0x0B, fun s q => BitVec.ofNat 32 (s.dev.seq q).scause),
   (0x0C, fun s q => (s.dev.seq q).stval),
   (0x0D, fun s q => (s.dev.seq q).stvec),
   (0x0E, fun s q => (s.dev.seq q).sscratch)]

/-- The conditions of `B` (R53), by number. -/
def condRows : List (Nat × (Seq → Bool)) :=
  [(0x0, fun _ => true), (0x1, fun x => x.z), (0x2, fun x => !x.z), (0x3, fun x => x.n != x.v), (0x4, fun x => x.n == x.v),
   (0x5, fun x => x.z || x.n != x.v), (0x6, fun x => !x.z && x.n == x.v), (0x7, fun x => x.c), (0x8, fun x => !x.c),
   (0x9, fun x => x.c || x.z), (0xA, fun x => !x.c && !x.z), (0xB, fun x => x.n), (0xC, fun x => !x.n), (0xD, fun x => x.v),
   (0xE, fun x => !x.v)]

/-- The target of a branch: pc + 4 × the offset with its sign, as an integer. -/
def target (s : State) (q : Nat) (off : BitVec 22) : Int := ((s.dev.seq q).pc : Int) + 4 * off.toInt

/-- Sequencer `q` of `d` differs from that of `s` in its pc, which is `pc`, in general register rd, which is `r` (unless it is g0),
and in its counted time; nothing else of the device changes but the time. -/
def JumpedTo (s : State) (d : Device) (q pc rd : Nat) (r : Word) : Prop :=
  let x := s.dev.seq q
  let y := d.seq q
  OnlySeq s.dev d q ∧ y.pc = pc ∧ (∀ k, y.gr k = if k = rd ∧ rd ≠ 0 then r else x.gr k)
    ∧ y = { x with g := y.g, pc := pc, now := y.now, spass := y.spass, loadRd := 0 }

/-- The result word of R59. -/
def resultWord (code slot serial : Nat) : Word := BitVec.ofNat 32 (code + slot * 2 ^ 8 + serial * 2 ^ 16)

/-- Sequencer `q` has the result `code` in rd, and z tells of OK or OK_ABANDONED (R52, R59); its other general registers and flags are as
they were, and the pc moves on. -/
def Answered (s : State) (d : Device) (q rd code slot serial : Nat) : Prop :=
  let x := s.dev.seq q
  let y := d.seq q
  (∀ k, y.gr k = if k = rd ∧ rd ≠ 0 then resultWord code slot serial else x.gr k) ∧ y.z = decide (code ≤ 1) ∧ y.n = x.n ∧ y.c = x.c
    ∧ y.v = x.v ∧ y.pc = x.pc + 4 ∧ y.inTrap = x.inTrap ∧ y.sepc = x.sepc ∧ y.stvec = x.stvec

/-- Cell `k` is no cell of a hand-over that runs. -/
def Settled (s : State) (k : Nat) : Prop := s.dev.handovers.find? (fun h => h.kind == 3 && h.unit == k) = none

/-- Cell `k` is free, and belongs to the world of the sequencer or the manager of owner code `c` (R316). -/
def FreeCell (s : State) (k c : Nat) : Prop :=
  k ≤ 63 ∧ Settled s k ∧ s.dev.on (Reg.WLD_LOCK_STAT_secure k) = decide (c = 5) ∧ s.dev.on (Reg.WLD_LOCK_STAT_held k) = false

/-- Nothing but lock cell `k` and sequencer `q` changes: no other register, no memory, no other sequencer. -/
def OnlyCell (s : State) (d : Device) (k q : Nat) : Prop :=
  RegsBut s.dev d [Reg.WLD_LOCK_STAT k] ∧ SameMem s d ∧ ∀ p, p ≠ q → d.seq p = s.dev.seq p

/-- Cell `k` is held by owner code `c`. -/
def HeldBy (d : Device) (k c : Nat) : Prop :=
  d.on (Reg.WLD_LOCK_STAT_held k) = true ∧ d.rd (Reg.WLD_LOCK_STAT_owner k) = c

/-- The stick at which the next instruction of sequencer `q` issues. -/
def issueStick (s : State) (q : Nat) : Nat := max s.dev.beat.stick (s.dev.seq q).now

/-- The device as an instruction of `cycles` cycles that reads the registers `reads` acts on it: at its issue, with its cycles
counted. -/
def atIssue (s : State) (q cycles : Nat) (reads : List Nat) : Device :=
  let x := s.dev.seq q
  let k := cycles + (if x.loadRd != 0 && reads.contains x.loadRd then 1 else 0)
  ((found s).atTick x.now).setSeq q { x with now := issueStick s q + k, spass := x.spass + k, loadRd := 0 }

/-- The command block at DMEM address `a` can be posted: in range and aligned (R61). -/
def BlockAt (s : State) (q ra : Nat) : Prop :=
  ((s.dev.seq q).gr ra).toNat < dmemBytes q ∧ ((s.dev.seq q).gr ra).toNat % 16 = 0

/-- The five classes of `POST` (R61, R62): the constructor, the class, and what the engine answers to the words of the block. -/
def postRows : List ((Nat → Nat → Nat → Instr) × Nat × (Nat → Device → Nat → Nat → Nat → Nat → Nat → Nat × Device)) :=
  [(.postPick, 1, fun q d k a => d.pickPost q k a),
   (.postCtx, 2, fun q d k a => d.ctxPost q k a),
   (.postCopy, 3, fun q d k a w0 w1 w2 =>
     if 4 ≤ w0 then (resInvalid, d)
     else match d.copySubmit w0 { src := .post q k a, addr := w2 * 2 ^ 32 + w1 } with
       | some d => (resOk, d)
       | none => (resBusy, d)),
   (.postHap, 4, fun q d k _ w0 w1 w2 => d.hapPost q k w0 w1 w2),
   (.postAud, 5, fun q d k a w0 w1 w2 =>
     if 8 ≤ w0 || 2 ≤ w1 || 65536 ≤ w2 then (resInvalid, d.modSeq q (fun x => x.setDword (a / 4 + 3) 4#32))
     else let (code, d) := d.genPost q w0 (w1 == 1) w2; (resOk, d.endPost q k code))]

/-- The device as `POST` gives it to the engine: at its issue, with the serial counted and slot `k` taken. -/
def posted (s : State) (q ra cls k : Nat) : Device :=
  let x := s.dev.seq q
  let cycles := 6 + (if x.loadRd != 0 && x.loadRd == ra then 1 else 0)
  ((((found s).atTick x.now).setSeq q
      { x with now := issueStick s q + cycles, spass := x.spass + cycles, loadRd := 0, postSerial := (x.postSerial + 1) % 65536 })).takePost
    q k { cls := cls, block := (x.gr ra).toNat, stale := false }

/-! ### Encodings -/

/-- The sequencer that an instruction names; 0 for any other command. -/
def seqOf : Instr → Nat
  | .add q _ _ _ | .sub q _ _ _ | .andR q _ _ _ | .orR q _ _ _ | .xor q _ _ _ | .shl q _ _ _ | .shr q _ _ _ | .sra q _ _ _ => q
  | .mul q _ _ _ | .mulhu q _ _ _ | .mulh q _ _ _ | .divu q _ _ _ | .remu q _ _ _ | .min q _ _ _ | .max q _ _ _ => q
  | .minu q _ _ _ | .maxu q _ _ _ | .cmp q _ _ | .addi q _ _ _ | .andi q _ _ _ | .ori q _ _ _ | .xori q _ _ _ => q
  | .shli q _ _ _ | .shri q _ _ _ | .srai q _ _ _ | .cmpi q _ _ | .lui q _ _ => q
  | .ldw q _ _ _ _ | .ldh q _ _ _ _ | .ldhu q _ _ _ _ | .ldb q _ _ _ _ | .ldbu q _ _ _ _ => q
  | .stw q _ _ _ | .sth q _ _ _ | .stb q _ _ _ | .pld q _ _ _ _ _ | .pst q _ _ _ | .mfs q _ _ | .mts q _ _ => q
  | .br q _ _ | .jal q _ _ | .jalr q _ _ _ | .postPick q _ _ | .postCtx q _ _ | .postCopy q _ _ | .postHap q _ _ => q
  | .postAud q _ _ | .waitb q _ | .waitf q _ _ _ | .commit q _ _ _ | .aswap q _ _ _ | .seedw q _ _ _ => q
  | .locka q _ _ | .lockr q _ _ | .rayq q _ _ | .trap q _ | .eret q => q
  | _ => 0

/-- The wave that an instruction names; 0 for any other command. -/
def waveOf : Instr → Nat
  | .fadd u _ | .fsub u _ | .fmul u _ | .ffma u _ | .fmin u _ | .fmax u _ | .frnd u _ | .fflr u _ | .fceil u _ | .ftrunc u _ => u
  | .ffract u _ | .fcmpEq u _ | .fcmpNe u _ | .fcmpLt u _ | .fcmpLe u _ | .fcmpGt u _ | .fcmpGe u _ | .fcmpOrd u _ | .fcmpUnord u _ | .frcp u _ => u
  | .frsq u _ | .fsqrt u _ | .fexp2 u _ | .flog2 u _ | .fsinr u _ | .fcosr u _ | .f2i u _ | .f2u u _ | .i2f u _ | .u2f u _ => u
  | .f2h u _ | .h2f u _ | .f2h2 u _ | .hadd2 u _ | .hmul2 u _ | .hfma2 u _ | .hmin2 u _ | .hmax2 u _ | .iadd u _ | .isub u _ => u
  | .imul u _ | .imulhu u _ | .imulh u _ | .imad u _ | .vecAnd u _ | .vecOr u _ | .vecXor u _ | .vecShl u _ | .vecShr u _ | .vecSra u _ => u
  | .imin u _ | .imax u _ | .umin u _ | .umax u _ | .bfe u _ | .bfi u _ | .popc u _ | .fmsb u _ | .icmpEq u _ | .icmpNe u _ => u
  | .icmpLt u _ | .icmpLe u _ | .icmpGt u _ | .icmpGe u _ | .icmpLtu u _ | .icmpGeu u _ | .mov u _ | .sel u _ | .lget u _ | .shuf u _ => u
  | .vinterp u _ | .ddx u _ | .ddy u _ | .sadd u _ | .ssub u _ | .smul u _ | .sand u _ | .sor u _ | .sxor u _ | .sbic u _ => u
  | .sshl u _ | .sshr u _ | .ssra u _ | .smov u _ | .spopc u _ | .slsb u _ | .scmpEq u _ | .scmpNe u _ | .scmpLt u _ | .scmpLe u _ => u
  | .scmpGt u _ | .scmpGe u _ | .scmpLtu u _ | .scmpGeu u _ | .ssel u _ | .sld u _ | .bld u _ | .bst u _ | .batomAdd u _ | .batomSmin u _ => u
  | .batomSmax u _ | .batomUmin u _ | .batomUmax u _ | .batomAnd u _ | .batomOr u _ | .batomXor u _ | .batomXchg u _ | .batomCmpxchg u _ | .wld u _ | .wst u _ => u
  | .watomAdd u _ | .watomSmin u _ | .watomSmax u _ | .watomUmin u _ | .watomUmax u _ | .watomAnd u _ | .watomOr u _ | .watomXor u _ | .watomXchg u _ | .watomCmpxchg u _ => u
  | .sample u _ | .sampleL u _ | .sampleB u _ | .fetch u _ | .query u _ | .trace u _ | .expc u _ | .expz u _ | .expp u _ | .expa u _ => u
  | .bra u _ | .bq1 u _ | .bq0 u _ | .baz u _ | .banz u _ | .membar u _ => u
  | .kill u | .wgbar u | .vecNop u | .vecEnd u => u
  | _ => 0

/-- An instruction as its word alone gives it: an access that ends cleanly and promptly stands for what the outside supplies. -/
def plainOutcome : Instr → Instr
  | .ldw q rd ra imm _ => .ldw q rd ra imm .clean
  | .ldh q rd ra imm _ => .ldh q rd ra imm .clean
  | .ldhu q rd ra imm _ => .ldhu q rd ra imm .clean
  | .ldb q rd ra imm _ => .ldb q rd ra imm .clean
  | .ldbu q rd ra imm _ => .ldbu q rd ra imm .clean
  | .pld q rd ra imm _ _ => .pld q rd ra imm 8 .word
  | .pst q rd ra p => .pst q rd ra ⟨p.imm, 0⟩
  | i => i

/-- The arithmetic operands of an instruction, if it has them. -/
def arithOf : Instr → Option VArith
  | .fadd _ a | .fsub _ a | .fmul _ a | .ffma _ a | .fmin _ a | .fmax _ a | .frnd _ a | .fflr _ a | .fceil _ a | .ftrunc _ a => some a
  | .ffract _ a | .fcmpEq _ a | .fcmpNe _ a | .fcmpLt _ a | .fcmpLe _ a | .fcmpGt _ a | .fcmpGe _ a | .fcmpOrd _ a | .fcmpUnord _ a | .frcp _ a => some a
  | .frsq _ a | .fsqrt _ a | .fexp2 _ a | .flog2 _ a | .fsinr _ a | .fcosr _ a | .f2i _ a | .f2u _ a | .i2f _ a | .u2f _ a => some a
  | .f2h _ a | .h2f _ a | .f2h2 _ a | .hadd2 _ a | .hmul2 _ a | .hfma2 _ a | .hmin2 _ a | .hmax2 _ a | .iadd _ a | .isub _ a => some a
  | .imul _ a | .imulhu _ a | .imulh _ a | .imad _ a | .vecAnd _ a | .vecOr _ a | .vecXor _ a | .vecShl _ a | .vecShr _ a | .vecSra _ a => some a
  | .imin _ a | .imax _ a | .umin _ a | .umax _ a | .bfe _ a | .bfi _ a | .popc _ a | .fmsb _ a | .icmpEq _ a | .icmpNe _ a => some a
  | .icmpLt _ a | .icmpLe _ a | .icmpGt _ a | .icmpGe _ a | .icmpLtu _ a | .icmpGeu _ a | .mov _ a | .sel _ a | .lget _ a | .shuf _ a => some a
  | .vinterp _ a | .ddx _ a | .ddy _ a | .sadd _ a | .ssub _ a | .smul _ a | .sand _ a | .sor _ a | .sxor _ a | .sbic _ a => some a
  | .sshl _ a | .sshr _ a | .ssra _ a | .smov _ a | .spopc _ a | .slsb _ a | .scmpEq _ a | .scmpNe _ a | .scmpLt _ a | .scmpLe _ a => some a
  | .scmpGt _ a | .scmpGe _ a | .scmpLtu _ a | .scmpGeu _ a | .ssel _ a => some a
  | _ => none

/-- Command `i` leaves the device `d` and the queue as it was. -/
def Becomes (i : Instr) (s : State) (d : Device) : Prop := exec i s = .next { s with dev := d }

end Sys2Proof.Claims

open Sys2Proof Sys2Proof.Machine Sys2Proof.Claims

/-! ### The queue -/

/-- A step with a command in front of the queue is that command's effect, with the rest of the queue waiting. -/
def Obligations.StepTakesFront : Prop :=
  ∀ (s : State) (c : Instr) (cs : List Instr), s.pending = c :: cs → step s = exec c { s with pending := cs }

/-- With no command waiting a step is one tick of FCLK: the model's choice (log entry 4). Nothing but the time moves. -/
def Sys2Proof.Claims.IdleStepIsATick : Prop :=
  ∀ s : State, s.pending = [] → ∃ d, step s = .next { s with dev := d } ∧ d.beat.stick = s.dev.beat.stick + 1
    ∧ d.beat.clock = s.dev.beat.clock + 1
    ∧ { d with out := s.dev.out, beat := { d.beat with stick := s.dev.beat.stick, clock := s.dev.beat.clock } } = s.dev

/-- Every command of every family answers a next state, whatever the state and the operands, and leaves the queue as it was. -/
def Obligations.EveryCommandGoesOn : Prop :=
  ∀ (i : Instr) (s : State), ∃ d, exec i s = .next { s with dev := d }

/-! ### Encodings -/

/-- Every well-formed scalar instruction decodes from its word (R51, R54, R61): no bit of an operand is lost. -/
def Obligations.ScalarDecodeOfEncode : Prop :=
  ∀ (i : Instr) (w : Word), i.wf = true → encodeScalar i = some w → decodeScalar (seqOf i) w = some (plainOutcome i)

/-- Every vector instruction decodes from its word (R138, R146, R147, R151, R153, R154), when an immediate leaves room for its
operands. -/
def Obligations.VectorDecodeOfEncode : Prop :=
  ∀ (i : Instr) (w : BitVec 64), encodeVec i = some w → (∀ a, arithOf i = some a → VArith.fits a = true) →
    decodeVec (waveOf i) w = some i

/-- The worked examples of R54 and of the vector chapter, and the two words that R51 names, decode as the manual says. -/
def Obligations.WordsOfTheManual : Prop :=
  decodeScalar 0 0x04C7FFFC#32 = some (.addi 0 3 1 (-4)) ∧ decodeScalar 0 0xF159C400#32 = some (.commit 0 5 6 7)
    ∧ decodeScalar 3 0#32 = some (.add 3 0 0 0) ∧ decodeScalar 3 0xFFFFFFFF#32 = none
    ∧ decodeVec 1 0x0030400C0BA20000#64 =
        some (.ffma 1 { imm := none, dst := 4, src0 := 0x001, src1 := 0x102, src2 := 0x1D1, neg := 0, abs := 0, sat := false })

/-! ### Sequencers: arithmetic -/

/-- Register arithmetic of a running pass (R47, R51, R52, R54): every row of format R but `CMP`, with its result, flags and cycles. -/
def Obligations.RegisterArithmetic : Prop :=
  ∀ r ∈ aluRows, ∀ (s : State) (q rd ra rb : Nat), Executes s q → (s.dev.seq q).pc < 0xFFFC →
    let a := (s.dev.seq q).gr ra
    let b := (s.dev.seq q).gr rb
    AluDoes (r.make q rd ra rb) s q rd r.cycles [ra, rb] (r.result a b) (r.c (s.dev.seq q).c a b) (r.v (s.dev.seq q).v a b)

/-- Immediate arithmetic of a running pass (R47, R51, R52, R54): `ADDI`, `ANDI`, `ORI`, `XORI`, `SHLI`, `SHRI`, `SRAI`. -/
def Obligations.ImmediateArithmetic : Prop :=
  ∀ r ∈ immRows, ∀ (s : State) (q rd ra : Nat) (imm : BitVec 18), Executes s q → (s.dev.seq q).pc < 0xFFFC →
    let a := (s.dev.seq q).gr ra
    let b := r.second imm
    AluDoes (r.make q rd ra imm) s q rd 1 [ra] (r.result a b) (r.c (s.dev.seq q).c a b) (r.v (s.dev.seq q).v a b)

/-- `CMP`, `CMPI` and `LUI` (R52, R54): the compares write the flags of the difference and no register, `LUI` writes imm22 << 10 to rd
and no flag. -/
def Obligations.ComparesAndLui : Prop :=
  ∀ (s : State) (q : Nat), Executes s q → (s.dev.seq q).pc < 0xFFFC →
    let x := s.dev.seq q
    (∀ (i : Instr) (a b : Word),
      ((∃ ra rb, i = .cmp q ra rb ∧ a = x.gr ra ∧ b = x.gr rb) ∨ (∃ ra imm, i = .cmpi q ra imm ∧ a = x.gr ra ∧ b = imm.signExtend 32)) →
      Gives i s (fun d =>
        let y := d.seq q
        OnlySeq s.dev d q ∧ y.z = decide (a = b) ∧ y.n = (a - b).msb ∧ y.c = diffBorrow x.c a b ∧ y.v = diffOver x.v a b
          ∧ y = { x with pc := x.pc + 4, z := y.z, n := y.n, c := y.c, v := y.v, now := y.now, spass := y.spass, loadRd := 0 }))
    ∧ ∀ (rd : Nat) (imm : BitVec 22),
      Gives (.lui q rd imm) s (fun d => JumpedTo s d q (x.pc + 4) rd (BitVec.ofNat 32 (imm.toNat * 2 ^ 10)))

/-- g0 reads as zero, and a write to it is discarded, in the one operation that reads and the one that writes general registers;
the flags of an arithmetic instruction with rd = g0 still change (R47). -/
def Obligations.RegisterZero : Prop :=
  (∀ x : Seq, x.gr 0 = 0#32) ∧ (∀ (x : Seq) (w : Word), x.setGr 0 w = x)
    ∧ ∀ r ∈ aluRows, ∀ (s : State) (q ra rb : Nat), Executes s q → (s.dev.seq q).pc < 0xFFFC →
      Gives (r.make q 0 ra rb) s (fun d =>
        let v := r.result ((s.dev.seq q).gr ra) ((s.dev.seq q).gr rb)
        (d.seq q).g = (s.dev.seq q).g ∧ (d.seq q).z = (v == 0#32) ∧ (d.seq q).n = v.msb)

/-! ### Sequencers: data memory -/

/-- A load from a DMEM address in range and aligned, with no error (R47, R54, R55): rd takes the bytes at ra + sext(imm18), and no flag
and no memory changes. -/
def Obligations.Loads : Prop :=
  ∀ r ∈ loadRows, ∀ (s : State) (q rd ra : Nat) (imm : BitVec 18), Executes s q → (s.dev.seq q).pc < 0xFFFC →
    (effAddr s q ra imm).toNat < dmemBytes q → (effAddr s q ra imm).toNat % r.size = 0 →
    Gives (r.make q rd ra imm .clean) s (fun d =>
      let x := s.dev.seq q
      let y := d.seq q
      OnlySeq s.dev d q
        ∧ (∀ k, y.gr k = if k = rd ∧ rd ≠ 0 then r.value (dnum x (effAddr s q ra imm).toNat r.size) else x.gr k)
        ∧ y = { x with g := y.g, pc := x.pc + 4, now := y.now, spass := y.spass, loadRd := rd })

/-- A store to a DMEM address in range and aligned (R54, R55, R56): the bytes at ra + sext(imm18) take the low bytes of rd; every
other byte of the DMEM, every register and every flag is as it was. -/
def Obligations.Stores : Prop :=
  ∀ r ∈ storeRows, ∀ (s : State) (q rd ra : Nat) (imm : BitVec 18), Executes s q → (s.dev.seq q).pc < 0xFFFC →
    (effAddr s q ra imm).toNat < dmemBytes q → (effAddr s q ra imm).toNat % r.2 = 0 →
    Gives (r.1 q rd ra imm) s (fun d =>
      let x := s.dev.seq q
      let y := d.seq q
      let a := (effAddr s q ra imm).toNat
      OnlySeq s.dev d q ∧ dnum y a r.2 = (x.gr rd).toNat % 2 ^ (8 * r.2) ∧ (∀ b, b < a ∨ a + r.2 ≤ b → dbyte y b = dbyte x b)
        ∧ y = { x with dmem := y.dmem, pc := x.pc + 4, now := y.now, spass := y.spass, loadRd := 0 })

/-- Where a DMEM access traps (R55, R70): DMEM_RANGE for an effective address outside the DMEM, DMEM_ALIGN for one inside that its
size does not divide, and DMEM_ECC for an uncorrectable error of a load. -/
def Obligations.DataMemoryTraps : Prop :=
  ∀ (s : State) (q rd ra : Nat) (imm : BitVec 18), Executes s q → CanTrap s q →
    let ea := effAddr s q ra imm
    let pc : Word := BitVec.ofNat 32 (s.dev.seq q).pc
    (∀ r ∈ loadRows, ∀ e : Ecc,
      (dmemBytes q ≤ ea.toNat → Gives (r.make q rd ra imm e) s (fun d => TookTrap s d q 0x04 ea pc))
      ∧ (ea.toNat < dmemBytes q → ea.toNat % r.size ≠ 0 → Gives (r.make q rd ra imm e) s (fun d => TookTrap s d q 0x05 ea pc))
      ∧ (ea.toNat < dmemBytes q → ea.toNat % r.size = 0 →
          Gives (r.make q rd ra imm .uncorrectable) s (fun d => TookTrap s d q 0x06 ea pc)))
    ∧ ∀ r ∈ storeRows,
      (dmemBytes q ≤ ea.toNat → Gives (r.1 q rd ra imm) s (fun d => TookTrap s d q 0x04 ea pc))
      ∧ (ea.toNat < dmemBytes q → ea.toNat % r.2 ≠ 0 → Gives (r.1 q rd ra imm) s (fun d => TookTrap s d q 0x05 ea pc))

/-! ### Sequencers: control -/

/-- `MFS` and `MTS` (R49, R50, R52): the value of each special register, the capture that a read of sbeat[31:0] makes, the four
registers that software writes, and the ILLEGAL trap for every other number. -/
def Obligations.SpecialRegisters : Prop :=
  ∀ (s : State) (q : Nat), Executes s q → (s.dev.seq q).pc < 0xFFFC →
    let x := s.dev.seq q
    (∀ r ∈ specialRows, ∀ rd, Gives (.mfs q rd (BitVec.ofNat 18 r.1)) s (fun d =>
      let y := d.seq q
      OnlySeq s.dev d q ∧ (∀ k, y.gr k = if k = rd ∧ rd ≠ 0 then r.2 s q else x.gr k)
        ∧ y.sbeatCap = (if r.1 = 0 then s.dev.beat.sbeat / 2 ^ 32 % 2 ^ 16 else x.sbeatCap)
        ∧ y = { x with g := y.g, sbeatCap := y.sbeatCap, pc := x.pc + 4, now := y.now, spass := y.spass, loadRd := 0 }))
    ∧ (∀ ra,
        Gives (.mts q ra 0x05) s (fun d =>
          let y := d.seq q
          OnlySeq s.dev d q ∧ y.z = (x.gr ra).getLsbD 0 ∧ y.n = (x.gr ra).getLsbD 1 ∧ y.c = (x.gr ra).getLsbD 2 ∧ y.v = (x.gr ra).getLsbD 3
            ∧ y = { x with z := y.z, n := y.n, c := y.c, v := y.v, pc := x.pc + 4, now := y.now, spass := y.spass, loadRd := 0 })
        ∧ Gives (.mts q ra 0x0A) s (fun d => OnlySeq s.dev d q ∧ d.seq q =
            { x with sepc := x.gr ra, pc := x.pc + 4, now := (d.seq q).now, spass := (d.seq q).spass, loadRd := 0 })
        ∧ Gives (.mts q ra 0x0D) s (fun d => OnlySeq s.dev d q ∧ d.seq q =
            { x with stvec := x.gr ra, pc := x.pc + 4, now := (d.seq q).now, spass := (d.seq q).spass, loadRd := 0 })
        ∧ Gives (.mts q ra 0x0E) s (fun d => OnlySeq s.dev d q ∧ d.seq q =
            { x with sscratch := x.gr ra, pc := x.pc + 4, now := (d.seq q).now, spass := (d.seq q).spass, loadRd := 0 }))
    ∧ (CanTrap s q → ∀ n : BitVec 18,
        (0x0F ≤ n.toNat → ∀ rd, Gives (.mfs q rd n) s (fun d => TookTrap s d q 0x01 (encI 0x1A rd 0 n) (BitVec.ofNat 32 x.pc)))
        ∧ (n.toNat ∉ [0x05, 0x0A, 0x0D, 0x0E] → ∀ ra,
            Gives (.mts q ra n) s (fun d => TookTrap s d q 0x01 (encI 0x1B 0 ra n) (BitVec.ofNat 32 x.pc))))

/-- `B`, `JAL` and `JALR` (R53, R54): where the pc goes, and what rd takes, for targets inside the IMEM; condition 0xF takes an ILLEGAL
trap, and a target of `JALR` at or above 0x1_0000 an IMEM_RANGE trap. -/
def Obligations.Branches : Prop :=
  ∀ (s : State) (q : Nat), Executes s q →
    let x := s.dev.seq q
    (∀ c ∈ condRows, ∀ off : BitVec 22, c.2 x = true → 0 ≤ target s q off → target s q off < 0x10000 →
      Gives (.br q c.1 off) s (fun d => JumpedTo s d q (target s q off).toNat 0 0#32))
    ∧ (∀ c ∈ condRows, ∀ off : BitVec 22, c.2 x = false → x.pc < 0xFFFC →
      Gives (.br q c.1 off) s (fun d => JumpedTo s d q (x.pc + 4) 0 0#32))
    ∧ (CanTrap s q → ∀ off : BitVec 22,
      Gives (.br q 0xF off) s (fun d => TookTrap s d q 0x01 (encU 0x20 0xF off) (BitVec.ofNat 32 x.pc)))
    ∧ (∀ (rd : Nat) (off : BitVec 22), 0 ≤ target s q off → target s q off < 0x10000 →
      Gives (.jal q rd off) s (fun d => JumpedTo s d q (target s q off).toNat rd (BitVec.ofNat 32 (x.pc + 4))))
    ∧ (∀ (rd ra : Nat) (imm : BitVec 18), (effAddr s q ra imm).toNat < 0x10000 →
      Gives (.jalr q rd ra imm) s (fun d => JumpedTo s d q ((effAddr s q ra imm).toNat / 4 * 4) rd (BitVec.ofNat 32 (x.pc + 4))))
    ∧ (∀ (rd ra : Nat) (imm : BitVec 18), CanTrap s q → 0x10000 ≤ (effAddr s q ra imm).toNat →
      Gives (.jalr q rd ra imm) s (fun d =>
        TookTrap s d q 0x02 (BitVec.ofNat 32 ((effAddr s q ra imm).toNat / 4 * 4)) (BitVec.ofNat 32 x.pc)))

/-- Traps and their return (R51, R70, R71, R72): `TRAP` with its code, an ILLEGAL word and an IMEM error enter the handler; `ERET` goes
back to sepc with the saved flags; a trap inside a trap, or with stvec 0, halts the sequencer, and the halted pass is left. -/
def Obligations.TrapEntryAndReturn : Prop :=
  ∀ (s : State) (q : Nat), Executes s q →
    let x := s.dev.seq q
    (CanTrap s q → ∀ code : BitVec 22,
      Gives (.trap q code) s (fun d => TookTrap s d q 0x0B (code.setWidth 32) (BitVec.ofNat 32 (x.pc + 4))))
    ∧ (CanTrap s q → ∀ w : Word, decodeScalar q w = none →
      Gives (.seqIllegal q (.illegal w)) s (fun d => TookTrap s d q 0x01 w (BitVec.ofNat 32 x.pc)))
    ∧ (CanTrap s q →
      Gives (.seqIllegal q .imemEcc) s (fun d => TookTrap s d q 0x03 (BitVec.ofNat 32 x.pc) (BitVec.ofNat 32 x.pc)))
    ∧ (x.inTrap = true → x.sepc.toNat < 0x10000 → Gives (.eret q) s (fun d =>
        let y := d.seq q
        OnlySeq s.dev d q ∧ y.pc = x.sepc.toNat / 4 * 4 ∧ y.inTrap = false ∧ y.z = x.saved.testBit 0 ∧ y.n = x.saved.testBit 1
          ∧ y.c = x.saved.testBit 2 ∧ y.v = x.saved.testBit 3
          ∧ y = { x with pc := y.pc, inTrap := false, z := y.z, n := y.n, c := y.c, v := y.v, now := y.now, spass := y.spass, loadRd := 0 }))
    ∧ (x.inTrap = false → x.stvec.toNat < 0x10000 → x.stvec ≠ 0#32 →
        Gives (.eret q) s (fun d => TookTrap s d q 0x01 0xF8000000#32 (BitVec.ofNat 32 x.pc)))
    ∧ (x.inTrap = true → ∀ code : BitVec 22, Gives (.trap q code) s (fun d =>
        (d.seq q).halted = true ∧ (d.seq q).running = false ∧ (d.seq q).sepc = x.sepc ∧ (d.seq q).scause = x.scause
          ∧ (d.seq q).stval = x.stval ∧ (d.seq q).saved = x.saved))
    ∧ (x.inTrap = false → x.stvec = 0#32 → ∀ code : BitVec 22, Gives (.trap q code) s (fun d =>
        (d.seq q).halted = true ∧ (d.seq q).running = false ∧ (d.seq q).scause = 0x0B ∧ (d.seq q).stval = code.setWidth 32))

/-- `WAITB` and `WAITF`, and what ends their waits (R63, R64, R71). -/
def Sys2Proof.Claims.Waits : Prop :=
  ∀ (s : State) (q : Nat),
    let x := s.dev.seq q
    (Executes s q → x.pc < 0xFFFC →
      (∀ ra,
        (x.gr ra = 0#32 → Gives (.waitb q ra) s (fun d =>
          (d.seq q).running = false ∧ (d.seq q).inTrap = false ∧ (d.seq q).g = x.g ∧ (d.seq q).dmem = x.dmem ∧ SameMem s d))
        ∧ (x.gr ra ≠ 0#32 → (x.gr ra).toNat ≤ issueStick s q →
            Gives (.waitb q ra) s (fun d => JumpedTo s d q (x.pc + 4) 0 0#32))
        ∧ (issueStick s q < (x.gr ra).toNat → Gives (.waitb q ra) s (fun d =>
            OnlySeq s.dev d q ∧ (d.seq q).wait = .tick (x.gr ra).toNat ∧ (d.seq q).pc = x.pc ∧ (d.seq q).g = x.g)))
      ∧ ∀ rd ra rb,
        let m := x.sevent &&& (x.gr ra).toNat
        (m ≠ 0 → Gives (.waitf q rd ra rb) s (fun d =>
          OnlySeq s.dev d q ∧ (rd ≠ 0 → (d.seq q).gr rd = BitVec.ofNat 32 m) ∧ (d.seq q).sevent = x.sevent ^^^ m
            ∧ (d.seq q).z = false ∧ (d.seq q).wait = .running))
        ∧ (m = 0 → x.gr rb ≠ 0#32 → (x.gr rb).toNat ≤ issueStick s q → Gives (.waitf q rd ra rb) s (fun d =>
            OnlySeq s.dev d q ∧ (rd ≠ 0 → (d.seq q).gr rd = 0#32) ∧ (d.seq q).sevent = x.sevent ∧ (d.seq q).z = true
              ∧ (d.seq q).wait = .running))
        ∧ (m = 0 → x.gr rb = 0#32 ∨ issueStick s q < (x.gr rb).toNat → Gives (.waitf q rd ra rb) s (fun d =>
            OnlySeq s.dev d q ∧ (d.seq q).wait = .event rd (x.gr ra).toNat (x.gr rb).toNat ∧ (d.seq q).g = x.g
              ∧ (d.seq q).sevent = x.sevent)))
    ∧ (∀ wake, x.wait = .tick wake → x.pc < 0xFFFC → Gives (.waitbWake q) s (fun d =>
        OnlySeq s.dev d q ∧ (d.seq q).wait = .running ∧ d.beat.stick = max s.dev.beat.stick wake ∧ (d.seq q).g = x.g
          ∧ (d.seq q).pc = x.pc + 4))
    ∧ ∀ rd mask dl tick, x.wait = .event rd mask dl → x.pc < 0xFFFC →
      (x.sevent &&& mask ≠ 0 → Gives (.waitfReturn q tick) s (fun d =>
        OnlySeq s.dev d q ∧ (d.seq q).wait = .running ∧ (rd ≠ 0 → (d.seq q).gr rd = BitVec.ofNat 32 (x.sevent &&& mask))
          ∧ (d.seq q).sevent = x.sevent ^^^ (x.sevent &&& mask) ∧ (d.seq q).z = false))
      ∧ (x.sevent &&& mask = 0 → dl ≠ 0 → dl ≤ max s.dev.beat.stick tick → Gives (.waitfReturn q tick) s (fun d =>
        OnlySeq s.dev d q ∧ (d.seq q).wait = .running ∧ (rd ≠ 0 → (d.seq q).gr rd = 0#32) ∧ (d.seq q).sevent = x.sevent
          ∧ (d.seq q).z = true))

/-! ### Sequencers: engine commands -/

/-- Lock cells (R68, R316 to R318): `LOCKA` and a command of the manager take a free cell of their world, with OK_ABANDONED after an
abandonment; the owner's `LOCKR` or release frees it; a force release of a held normal cell abandons it and counts its epoch. -/
def Obligations.LockCells : Prop :=
  (∀ (s : State) (q rd ra : Nat), Executes s q → (s.dev.seq q).pc < 0xFFFC →
    let k := ((s.dev.seq q).gr ra).toNat
    (FreeCell s k (q + 1) → Gives (.locka q rd ra) s (fun d =>
      HeldBy d k (q + 1) ∧ d.on (Reg.WLD_LOCK_STAT_abandoned k) = false ∧ OnlyCell s d k q
        ∧ d.rd (Reg.WLD_LOCK_STAT_epoch k) = s.dev.rd (Reg.WLD_LOCK_STAT_epoch k)
        ∧ Answered s d q rd (if s.dev.on (Reg.WLD_LOCK_STAT_abandoned k) then 1 else 0) 0 0))
    ∧ (63 < k → Gives (.locka q rd ra) s (fun d => Answered s d q rd 4 0 0 ∧ OnlySeq s.dev d q))
    ∧ (k ≤ 63 → Settled s k → s.dev.on (Reg.WLD_LOCK_STAT_secure k) ≠ decide (q = 4) → Gives (.locka q rd ra) s (fun d =>
        Answered s d q rd 3 0 0 ∧ OnlySeq s.dev d q))
    ∧ (k ≤ 63 → Settled s k → s.dev.on (Reg.WLD_LOCK_STAT_secure k) = decide (q = 4) → ∀ c, HeldBy s.dev k c →
        Gives (.locka q rd ra) s (fun d => Answered s d q rd (if c = q + 1 then 0 else 2) 0 0 ∧ OnlySeq s.dev d q))
    ∧ (k ≤ 63 → ∀ h ∈ s.dev.handovers.find? (fun h => h.kind == 3 && h.unit == k), ∀ i ∈ [Instr.locka q rd ra, .lockr q rd ra],
        Gives i s (fun d => Answered s d q rd (if h.secure = decide (q = 4) then 2 else 3) 0 0 ∧ OnlySeq s.dev d q))
    ∧ (k ≤ 63 → Settled s k → HeldBy s.dev k (q + 1) → Gives (.lockr q rd ra) s (fun d =>
        d.on (Reg.WLD_LOCK_STAT_held k) = false ∧ OnlyCell s d k q ∧ Answered s d q rd 0 0 0
          ∧ d.rd (Reg.WLD_LOCK_STAT_epoch k) = s.dev.rd (Reg.WLD_LOCK_STAT_epoch k)
          ∧ d.on (Reg.WLD_LOCK_STAT_abandoned k) = s.dev.on (Reg.WLD_LOCK_STAT_abandoned k)))
    ∧ (63 < k ∨ (Settled s k ∧ s.dev.on (Reg.WLD_LOCK_STAT_held k) = false) → Gives (.lockr q rd ra) s (fun d =>
        Answered s d q rd 3 0 0 ∧ OnlySeq s.dev d q))
    ∧ (k ≤ 63 → Settled s k → (∃ c, c ≠ q + 1 ∧ HeldBy s.dev k c) → Gives (.lockr q rd ra) s (fun d =>
        Answered s d q rd 3 0 0 ∧ OnlySeq s.dev d q)))
  ∧ ∀ (s : State) (k : Nat),
    (FreeCell s k 0x10 → Gives (.lockAcquire .manager k) s (fun d =>
      HeldBy d k 0x10 ∧ d.rd (Reg.WLD_LOCK_CMD_result k) = (if s.dev.on (Reg.WLD_LOCK_STAT_abandoned k) then 1 else 0)
        ∧ d.on (Reg.WLD_LOCK_STAT_abandoned k) = false ∧ OnlyRegs s.dev d ∧ RegsBut s.dev d [Reg.WLD_LOCK_STAT k, Reg.WLD_LOCK_CMD k]))
    ∧ (k ≤ 63 → Settled s k → HeldBy s.dev k 0x10 → Gives (.lockRelease .manager k) s (fun d =>
        d.on (Reg.WLD_LOCK_STAT_held k) = false ∧ d.rd (Reg.WLD_LOCK_CMD_result k) = 0 ∧ OnlyRegs s.dev d
          ∧ RegsBut s.dev d [Reg.WLD_LOCK_STAT k, Reg.WLD_LOCK_CMD k]))
    ∧ (k ≤ 63 → Settled s k → s.dev.on (Reg.WLD_LOCK_STAT_secure k) = false → s.dev.on (Reg.WLD_LOCK_STAT_held k) = true →
        Gives (.lockForceRelease .manager k) s (fun d =>
          d.on (Reg.WLD_LOCK_STAT_held k) = false ∧ d.on (Reg.WLD_LOCK_STAT_abandoned k) = true
            ∧ d.rd (Reg.WLD_LOCK_CMD_result k) = 0
            ∧ d.rd (Reg.WLD_LOCK_STAT_epoch k) = (s.dev.rd (Reg.WLD_LOCK_STAT_epoch k) + 1) % 2 ^ 16
            ∧ d = { found s with csr := d.csr, guards := d.guards } ∧ RegsBut s.dev d [Reg.WLD_LOCK_STAT k, Reg.WLD_LOCK_CMD k]))

/-- `POST` of every class (R59, R61): BUSY when all eight slots are taken; else the lowest free slot, with the engine's answer as the
result code, OK with the slot and the serial of the post, and word 3 and the event left to the post's end. -/
def Sys2Proof.Claims.Posts : Prop :=
  ∀ r ∈ postRows, ∀ (s : State) (q rd ra : Nat), Executes s q → (s.dev.seq q).pc < 0xFFFC → BlockAt s q ra →
    let x := s.dev.seq q
    let a := (x.gr ra).toNat
    let n := (x.postSerial + 1) % 65536
    (x.freePost = none → Gives (r.1 q rd ra) s (fun d => Answered s d q rd 2 0 n ∧ (d.seq q).posts = x.posts ∧ SameMem s d))
    ∧ ∀ k, x.freePost = some k →
      let e := r.2.2 q (posted s q ra r.2.1 k) k a (x.dword (a / 4)).toNat (x.dword (a / 4 + 1)).toNat (x.dword (a / 4 + 2)).toNat
      Gives (r.1 q rd ra) s (fun d => Answered s d q rd e.1 (if e.1 = 0 then k else 0) n)

/-- `COMMIT`, `ASWAP`, `SEEDW` and `RAYQ` (R41, R59, R65 to R67, R69): the result of each, and what an accepted one leaves with its
engine. -/
def Sys2Proof.Claims.EngineCommands : Prop :=
  ∀ (s : State) (q rd ra rb : Nat), Executes s q → (s.dev.seq q).pc < 0xFFFC →
    let x := s.dev.seq q
    let a := (x.gr ra).toNat
    let b := (x.gr rb).toNat
    (7 < a ∨ b = 0 ∨ 2 ^ 18 ≤ b → Gives (.commit q rd ra rb) s (fun d =>
      Answered s d q rd 4 0 ((x.commitSerial + 1) % 65536) ∧ d.disp = s.dev.disp))
    ∧ (a ≤ 7 → 0 < b → b < 2 ^ 18 → q = a / 2 ∨ q = 4 → (b.testBit 17 = true → q = 4) → b.testBit 0 = false →
        Gives (.commit q rd ra rb) s (fun d =>
          Answered s d q rd 0 0 ((x.commitSerial + 1) % 65536)
            ∧ ∃ c, c.groups = b ∧ c.sq = q ∧ c.serial = (x.commitSerial + 1) % 65536
                ∧ ((d.head a).checks = (s.dev.head a).checks ++ [c]
                  ∨ ∃ e e', (s.dev.head a).checks.getLast? = some e ∧ e.sq = 4 ∧ q ≠ 4
                      ∧ (s.dev.head a).portAt = some (s.dev.beat.clock + (x.now - s.dev.beat.stick))
                      ∧ (d.head a).checks = (s.dev.head a).checks.dropLast ++ [c, e'] ∧ e'.sq = 4 ∧ e'.serial = e.serial ∧ e'.groups = e.groups)))
    ∧ (s.dev.mode = .native → 4096 < b → Gives (.aswap q rd ra rb) s (fun d => Answered s d q rd 4 0 0 ∧ d.aud = s.dev.aud))
    ∧ (s.dev.mode = .native → b ≤ 4096 → a = 0 → s.dev.aud.swap = none →
        ¬ (s.dev.beat.started = true ∧ s.dev.rd Reg.BEAT_FALLOW_start ≤ issueStick s q) →
        Gives (.aswap q rd ra rb) s (fun d =>
          Answered s d q rd 0 0 0 ∧ d.aud.swap = some ⟨s.dev.beat.sbeat + 1, b, some q⟩ ∧ d.on Reg.AUD_STATUS_pending = true))
    ∧ (x.seedBusy = false → 4095 < a → Gives (.seedw q rd ra rb) s (fun d => Answered s d q rd 4 0 0 ∧ d.seed.queue = s.dev.seed.queue))
    ∧ (x.seedBusy = false → (found s).seedCheck (.seq q) a b = 0 → Gives (.seedw q rd ra rb) s (fun d =>
        Answered s d q rd 0 0 0 ∧ (d.seq q).seedBusy = true
          ∧ d.seed.queue = s.dev.seed.queue ++ [{ src := .seq q, reg := a, value := b }]))
    ∧ (a + 128 ≤ dmemBytes q → a % 64 = 0 → (∀ k, k < 4 → (x.rayq k).isSome = true) → Gives (.rayq q rd ra) s (fun d =>
        Answered s d q rd 2 0 ((x.raySerial + 1) % 65536) ∧ (d.seq q).rays = x.rays))
    ∧ ∀ k, a + 128 ≤ dmemBytes q → a % 64 = 0 → k < 4 → (x.rayq k) = none → (∀ j, j < k → (x.rayq j).isSome = true) →
        ((found s).rayqCode q ((List.range 20).map (fun j => x.dword (a / 4 + j)))).1 = 0 →
        Gives (.rayq q rd ra) s (fun d =>
          Answered s d q rd 0 k ((x.raySerial + 1) % 65536) ∧ ∃ r, (d.seq q).rayq k = some r ∧ r.block = a)

/-- Overruns (R34, R35, R37, R73): a pass that has used its budget is counted; under SKIP it goes on, under STOP it ends at once, and
otherwise, as always on the SSQ, it takes the OVERRUN trap, after which 2,000 counted cycles end it. -/
def Sys2Proof.Claims.Overruns : Prop :=
  ∀ (s : State) (q : Nat), Executes s q →
    let x := s.dev.seq q
    let policy := s.dev.rdAct (Reg.BEAT_SQ_BUDGET_policy q)
    (x.overrun = none → x.sbudget ≤ x.spass →
      (q ≠ 4 → policy = 0 → Gives (.passOverrun q) s (fun d =>
        (d.seq q).running = true ∧ (d.seq q).overrun = some x.spass ∧ (d.seq q).pc = x.pc
          ∧ d.rd (Reg.BEAT_SQ_OVR_overruns q) = min 0xFFFF (s.dev.rd (Reg.BEAT_SQ_OVR_overruns q) + 1)))
      ∧ (q ≠ 4 → policy = 2 → Gives (.passOverrun q) s (fun d =>
          (d.seq q).running = false ∧ d.rd (Reg.BEAT_SQ_OVR_overruns q) = min 0xFFFF (s.dev.rd (Reg.BEAT_SQ_OVR_overruns q) + 1)))
      ∧ (q = 4 ∨ policy = 1 ∨ policy = 3 → CanTrap s q → Gives (.passOverrun q) s (fun d =>
          (d.seq q).scause = 0x0A ∧ (d.seq q).stval = BitVec.ofNat 32 x.spass ∧ (d.seq q).sepc = BitVec.ofNat 32 x.pc
            ∧ (d.seq q).inTrap = true ∧ (d.seq q).pc = x.stvec.toNat / 4 * 4 ∧ (d.seq q).overrun = some x.spass
            ∧ (d.seq q).ovr = .taken)))
    ∧ ∀ t, x.overrun = some t → t + 2000 ≤ x.spass → x.ovr = .taken →
      Gives (.overrunGraceExpire q) s (fun d => (d.seq q).running = false ∧ d.csr = s.dev.csr ∧ SameMem s d)

/-- The grace of an overrun (R73): a pass that has taken its OVERRUN trap takes no second one, is left alone for 2,000 counted cycles,
and is then stopped at once; a `WAITB` in that time ends it. -/
def Obligations.OverrunGrace : Prop :=
  ∀ (s : State) (q t : Nat), Executes s q → (s.dev.seq q).overrun = some t →
    let x := s.dev.seq q
    x.ovr = .taken →
    Gives (.passOverrun q) s (fun d => d = found s)
    ∧ (x.spass < t + 2000 → Gives (.overrunGraceExpire q) s (fun d => d = found s)
        ∧ (x.pc < 0xFFFC → ∀ ra, x.gr ra = 0#32 → Gives (.waitb q ra) s (fun d => (d.seq q).running = false)))
    ∧ (t + 2000 ≤ x.spass → Gives (.overrunGraceExpire q) s (fun d =>
        (d.seq q).running = false ∧ d.csr = s.dev.csr ∧ SameMem s d ∧ ∀ p, p ≠ q → d.seq p = s.dev.seq p))

/-- `PLD` and `PST` (R54, R57, R58, R414): PORT_RANGE for an address with bits [31:26] or [1:0] set, PORT_DENIED where R58 permits no
access; a read that needs no wait takes the register's value, one of a block that answers with an error takes PORT_ERROR, as does one
that no one answers; a write takes effect in its block, is accepted by a posted block that is idle, and stalls while that is busy. -/
def Obligations.PortAccess : Prop :=
  (∀ (s : State) (q rd ra : Nat) (imm : BitVec 18), Executes s q →
    let x := s.dev.seq q
    let a := effAddr s q ra imm
    (CanTrap s q → (2 ^ 26 ≤ a.toNat ∨ a.toNat % 4 ≠ 0) → ∀ lat ans,
      Gives (.pld q rd ra imm lat ans) s (fun d => TookTrap s d q 0x07 a (BitVec.ofNat 32 x.pc))
      ∧ Gives (.pst q rd ra ⟨imm, lat⟩) s (fun d => TookTrap s d q 0x07 a (BitVec.ofNat 32 x.pc)))
    ∧ (CanTrap s q → a.toNat < 2 ^ 26 → a.toNat % 4 = 0 → ∀ lat,
        (∀ ans, portOk q false a.toNat = false →
          Gives (.pld q rd ra imm lat ans) s (fun d => TookTrap s d q 0x08 a (BitVec.ofNat 32 x.pc)))
        ∧ (portOk q true a.toNat = false →
          Gives (.pst q rd ra ⟨imm, lat⟩) s (fun d => TookTrap s d q 0x08 a (BitVec.ofNat 32 x.pc)))
        ∧ (portOk q false a.toNat = true → (s.dev.flt.lostMixed = true ∧ (postedOf a.toNat).isSome = true) →
          Gives (.pld q rd ra imm lat .word) s (fun d => TookTrap s d q 0x09 a (BitVec.ofNat 32 x.pc)))
        ∧ (portOk q false a.toNat = true →
          Gives (.pld q rd ra imm lat .error) s (fun d => TookTrap s d q 0x09 a (BitVec.ofNat 32 x.pc))))
    ∧ (x.pc < 0xFFFC → portTrap q false a = none → s.dev.readWaits a.toNat = false →
        (s.dev.flt.lostMixed = false ∨ postedOf a.toNat = none) → ∀ lat,
        let v := ((atIssue s q (pldCycles a.toNat lat) [ra]).regRead (q == 4) a.toNat).1
        Gives (.pld q rd ra imm lat .word) s (fun d =>
          (∀ k, (d.seq q).gr k = if k = rd ∧ rd ≠ 0 then v else x.gr k) ∧ SameMem s d
            ∧ d.seq q = { x with g := (d.seq q).g, pc := x.pc + 4, now := (d.seq q).now, spass := (d.seq q).spass, loadRd := rd }
            ∧ ∀ p, p ≠ q → d.seq p = s.dev.seq p))
    ∧ (x.pc < 0xFFFC → a.toNat = Reg.BEAT_PERIOD → ∀ lat,
        Gives (.pld q rd ra imm lat .word) s (fun d =>
          OnlySeq s.dev d q ∧ (∀ k, (d.seq q).gr k = if k = rd ∧ rd ≠ 0 then s.dev.reg Reg.BEAT_PERIOD else x.gr k)
            ∧ d.seq q = { x with g := (d.seq q).g, pc := x.pc + 4, now := (d.seq q).now, spass := (d.seq q).spass, loadRd := rd }))
    ∧ (x.pc < 0xFFFC → portTrap q true a = none → ∀ lat,
        let d0 := (atIssue s q 1 [rd, ra]).flyRoom q
        (postedOf a.toNat = none →
          Gives (.pst q rd ra ⟨imm, lat⟩) s (fun d => d = ((d0.fly q lat).perform (.seq q) a.toNat (x.gr rd)).advance q))
        ∧ (∀ k, postedOf a.toNat = some k → s.dev.flt.lostMixed = true → Gives (.pst q rd ra ⟨imm, lat⟩) s (fun d =>
            d = (d0.fly q lat).advance q))
        ∧ (∀ k, postedOf a.toNat = some k → s.dev.flt.lostMixed = false → s.dev.busy k = false → Gives (.pst q rd ra ⟨imm, lat⟩) s (fun d =>
            d.postedAt k = some { agent := .seq q, addr := a.toNat, value := x.gr rd } ∧ d.busy k = true
              ∧ (∀ j, j ≠ k → d.postedAt j = s.dev.postedAt j) ∧ SameMem s d ∧ (∀ p, p ≠ q → d.seq p = s.dev.seq p)
              ∧ RegsBut s.dev d [Reg.GLB_BUSY, Reg.PWR_BUSY, Reg.SEED_BUSY, Reg.AUD_BUSY, Reg.TCH_BUSY, Reg.HAP_BUSY]
              ∧ d.seq q = { x with pc := x.pc + 4, now := (d.seq q).now, spass := (d.seq q).spass, loadRd := 0, flight := (d.seq q).flight }))
        ∧ (∀ k, postedOf a.toNat = some k → s.dev.flt.lostMixed = false → s.dev.busy k = true → Gives (.pst q rd ra ⟨imm, lat⟩) s (fun d =>
            OnlySeq s.dev d q ∧ (d.seq q).wait = .post a.toNat (x.gr rd) ∧ (d.seq q).pc = x.pc ∧ (d.seq q).g = x.g))))
  ∧ (∀ (s : State) (q rd a : Nat), (s.dev.seq q).wait = .port rd a → (s.dev.seq q).pc < 0x10000 → CanTrap s q →
      Gives (.pldTimeout q) s (fun d =>
        (d.seq q).scause = 0x09 ∧ (d.seq q).stval = BitVec.ofNat 32 a ∧ (d.seq q).wait = .running ∧ (d.seq q).g = (s.dev.seq q).g
          ∧ (d.seq q).sepc = BitVec.ofNat 32 (s.dev.seq q).pc ∧ (s.dev.seq q).pldBy ≤ d.beat.stick))

namespace Sys2Proof.Claims

/-! ### Waves -/

/-- Wave `w` is `x`, it can issue (R128, R155), and its pc lies in its text. -/
def WaveRuns (s : State) (w : Nat) (x : Wave) : Prop :=
  s.dev.wave w = some x ∧ s.dev.canIssue x = true ∧ x.pc < x.text

/-- Wave `w` becomes `y`, and nothing else of the device changes. -/
def WaveBecomes (s : State) (d : Device) (w : Nat) (y : Wave) : Prop :=
  d.wave w = some y ∧ (∀ v, v ≠ w → d.wave v = s.dev.wave v)
    ∧ { d with ras := { d.ras with waves := s.dev.ras.waves }, out := s.dev.out } = s.dev

/-- What the scalar destination `o` of a wave holds: a scalar register, a predicate mask, or the active mask (R139). -/
def sdstOf (x : Wave) (o : Nat) : Word := if o < 0x80 then x.sr o else if o = 0x84 then x.amask else x.pr (o - 0x80)

/-- A row of R146 with a vector destination: its constructor, its operands, and the result of its operands in a lane. -/
abbrev VecRow := (Nat → VArith → Instr) × VOp × (Word → Word → Word → Word)

/-- Floating-point instructions of one to three binary32 operands. -/
def fl1 (f : Word → Word) : VOp × (Word → Word → Word → Word) := (⟨1, true, .single, .single⟩, fun a _ _ => f a)
def fl2 (f : Nat → Nat → Nat) : VOp × (Word → Word → Word → Word) :=
  (⟨2, true, .single, .single⟩, fun a b _ => BitVec.ofNat 32 (f a.toNat b.toNat))

/-- Integer instructions. -/
def in1 (f : Word → Word) : VOp × (Word → Word → Word → Word) := (⟨1, false, .int, .int⟩, fun a _ _ => f a)
def in2 (f : Word → Word → Word) : VOp × (Word → Word → Word → Word) := (⟨2, false, .int, .int⟩, fun a b _ => f a b)
def in3 (f : Word → Word → Word → Word) : VOp × (Word → Word → Word → Word) := (⟨3, false, .int, .int⟩, f)

/-- The two halves of a packed result. -/
def halves (lo hi : Nat) : Word := BitVec.ofNat 32 (lo + hi * 2 ^ 16)

/-- The low and the high half of a word. -/
def loHalf (a : Word) : Nat := a.toNat % 2 ^ 16
def hiHalf (a : Word) : Nat := a.toNat / 2 ^ 16

/-- A packed binary16 instruction of two operands. -/
def ha2 (f : Nat → Nat → Nat) : VOp × (Word → Word → Word → Word) :=
  (⟨2, true, .halves, .halves⟩, fun a b _ => halves (f (loHalf a) (loHalf b)) (f (hiHalf a) (hiHalf b)))

/-- The floating-point rows (R142 to R146): the operations of IEEE 754 that they name, rounded to nearest, ties to even. -/
def floatRows : List VecRow :=
  [(.fadd, fl2 (f32.addR .near)),
   (.fsub, fl2 (fun a b => f32.addR .near a (f32.negate b))),
   (.fmul, fl2 (f32.mulR .near)),
   (.ffma, (⟨3, true, .single, .single⟩, fun a b c => BitVec.ofNat 32 (f32.fmaR .near a.toNat b.toNat c.toNat))),
   (.fmin, fl2 f32.minR),
   (.fmax, fl2 f32.maxR),
   (.frnd, fl1 (fun a => BitVec.ofNat 32 (f32.integral .near a.toNat))),
   (.fflr, fl1 (fun a => BitVec.ofNat 32 (f32.integral .down a.toNat))),
   (.fceil, fl1 (fun a => BitVec.ofNat 32 (f32.integral .up a.toNat))),
   (.ftrunc, fl1 (fun a => BitVec.ofNat 32 (f32.integral .zero a.toNat))),
   (.ffract, fl1 (fun a => BitVec.ofNat 32 (f32.addR .near a.toNat (f32.negate (f32.integral .down a.toNat))))),
   (.frcp, fl1 fRcp), (.frsq, fl1 fRsq),
   (.fsqrt, fl1 (fun a => BitVec.ofNat 32 (f32.sqrtR a.toNat))),
   (.fexp2, fl1 fExp2), (.flog2, fl1 fLog2), (.fsinr, fl1 (fTrig false)), (.fcosr, fl1 (fTrig true)),
   (.f2i, (⟨1, true, .single, .int⟩, fun a _ _ => BitVec.ofInt 32 (f32.toInt (-2 ^ 31) (2 ^ 31 - 1) a.toNat))),
   (.f2u, (⟨1, true, .single, .int⟩, fun a _ _ => BitVec.ofInt 32 (f32.toInt 0 (2 ^ 32 - 1) a.toNat))),
   (.i2f, (⟨1, true, .int, .single⟩, fun a _ _ => BitVec.ofNat 32 (f32.roundInt .near a.toInt 0 false))),
   (.u2f, (⟨1, true, .int, .single⟩, fun a _ _ => BitVec.ofNat 32 (f32.roundInt .near a.toNat 0 false))),
   (.f2h, (⟨1, true, .single, .halves⟩, fun a _ _ => BitVec.ofNat 32 (f32.conv f16 a.toNat))),
   (.h2f, (⟨1, true, .halves, .single⟩, fun a _ _ => BitVec.ofNat 32 (f16.conv f32 (loHalf a)))),
   (.f2h2, (⟨2, true, .single, .halves⟩, fun a b _ => halves (f32.conv f16 a.toNat) (f32.conv f16 b.toNat))),
   (.hadd2, ha2 (f16.addR .near)), (.hmul2, ha2 (f16.mulR .near)),
   (.hfma2, (⟨3, true, .halves, .halves⟩, fun a b c =>
     halves (f16.fmaR .near (loHalf a) (loHalf b) (loHalf c)) (f16.fmaR .near (hiHalf a) (hiHalf b) (hiHalf c)))),
   (.hmin2, ha2 f16.minR), (.hmax2, ha2 f16.maxR)]

/-- The number of ones of a word. -/
def ones (a : Word) : Nat := ((List.range 32).filter (fun l => a.getLsbD l)).length

/-- The integer rows, and `MOV` (R146). -/
def intRows : List VecRow :=
  [(.iadd, in2 (fun a b => a + b)), (.isub, in2 (fun a b => a - b)), (.imul, in2 (fun a b => a * b)),
   (.imulhu, in2 (fun a b => BitVec.ofNat 32 (a.toNat * b.toNat / 2 ^ 32))),
   (.imulh, in2 (fun a b => BitVec.ofInt 32 (a.toInt * b.toInt / 2 ^ 32))),
   (.imad, in3 (fun a b c => a * b + c)),
   (.vecAnd, in2 (fun a b => a &&& b)), (.vecOr, in2 (fun a b => a ||| b)), (.vecXor, in2 (fun a b => a ^^^ b)),
   (.vecShl, in2 (fun a b => a <<< (b.toNat % 32))), (.vecShr, in2 (fun a b => a >>> (b.toNat % 32))),
   (.vecSra, in2 (fun a b => a.sshiftRight (b.toNat % 32))),
   (.imin, in2 (fun a b => if a.toInt ≤ b.toInt then a else b)), (.imax, in2 (fun a b => if a.toInt ≤ b.toInt then b else a)),
   (.umin, in2 (fun a b => if a.toNat ≤ b.toNat then a else b)), (.umax, in2 (fun a b => if a.toNat ≤ b.toNat then b else a)),
   (.bfe, in3 (fun a b c => BitVec.ofNat 32 (a.toNat / 2 ^ (b.toNat % 32) % 2 ^ (c.toNat % 32)))),
   (.bfi, in3 (fun a b c => a >>> (c.toNat % 32) <<< (c.toNat % 32) ||| BitVec.ofNat 32 (b.toNat % 2 ^ (c.toNat % 32)))),
   (.popc, in1 (fun a => BitVec.ofNat 32 (ones a))),
   (.fmsb, in1 (fun a => if a = 0#32 then 0xFFFFFFFF#32 else BitVec.ofNat 32 a.toNat.log2)),
   (.mov, in1 (fun a => a))]

/-- The compares of R146 that write a lane mask. -/
def maskRows : List ((Nat → VArith → Instr) × VOp × (Word → Word → Bool)) :=
  let fl : VOp := ⟨2, true, .single, .int⟩
  let int : VOp := ⟨2, false, .int, .int⟩
  [(.fcmpEq, fl, fun a b => f32.eq a.toNat b.toNat), (.fcmpNe, fl, fun a b => !f32.eq a.toNat b.toNat),
   (.fcmpLt, fl, fun a b => f32.lt a.toNat b.toNat), (.fcmpLe, fl, fun a b => f32.le a.toNat b.toNat),
   (.fcmpGt, fl, fun a b => f32.lt b.toNat a.toNat), (.fcmpGe, fl, fun a b => f32.le b.toNat a.toNat),
   (.fcmpOrd, fl, fun a b => !f32.isNan a.toNat && !f32.isNan b.toNat),
   (.fcmpUnord, fl, fun a b => f32.isNan a.toNat || f32.isNan b.toNat),
   (.icmpEq, int, fun a b => decide (a = b)), (.icmpNe, int, fun a b => decide (a ≠ b)),
   (.icmpLt, int, fun a b => decide (a.toInt < b.toInt)), (.icmpLe, int, fun a b => decide (a.toInt ≤ b.toInt)),
   (.icmpGt, int, fun a b => decide (b.toInt < a.toInt)), (.icmpGe, int, fun a b => decide (b.toInt ≤ a.toInt)),
   (.icmpLtu, int, fun a b => decide (a.toNat < b.toNat)), (.icmpGeu, int, fun a b => decide (b.toNat ≤ a.toNat))]

/-- The operands of a scalar instruction of a wave, by how many it has. -/
def scaOps (n : Nat) : VOp := ⟨n, false, .int, .int⟩

/-- q as it was. -/
def sameQ (q : Bool) (_ _ _ : Word) : Bool := q

/-- q tells of a result that is not zero. -/
def notZero (_ : Bool) (_ _ r : Word) : Bool := decide (r ≠ 0#32)

/-- The scalar instructions of R146: constructor, operands, result of q and the operands, and q of q, the operands and the result. -/
def scaRows : List ((Nat → VArith → Instr) × Nat × (Bool → Word → Word → Word) × (Bool → Word → Word → Word → Bool)) :=
  [(.sadd, 2, fun _ a b => a + b, fun _ a b _ => decide (2 ^ 32 ≤ a.toNat + b.toNat)),
   (.ssub, 2, fun _ a b => a - b, fun _ a b _ => decide (a.toNat < b.toNat)),
   (.smul, 2, fun _ a b => a * b, sameQ),
   (.sand, 2, fun _ a b => a &&& b, notZero), (.sor, 2, fun _ a b => a ||| b, notZero), (.sxor, 2, fun _ a b => a ^^^ b, notZero),
   (.sbic, 2, fun _ a b => a &&& ~~~b, notZero),
   (.sshl, 2, fun _ a b => a <<< (b.toNat % 32), notZero), (.sshr, 2, fun _ a b => a >>> (b.toNat % 32), notZero),
   (.ssra, 2, fun _ a b => a.sshiftRight (b.toNat % 32), notZero),
   (.smov, 1, fun _ a _ => a, sameQ),
   (.spopc, 1, fun _ a _ => BitVec.ofNat 32 (ones a), notZero),
   (.slsb, 1, fun _ a _ => match (List.range 32).find? (fun l => a.getLsbD l) with
      | some l => BitVec.ofNat 32 l | none => 0xFFFFFFFF#32, sameQ),
   (.ssel, 2, fun q a b => if q then a else b, sameQ)]

/-- The scalar compares of R146. -/
def scmpRows : List ((Nat → VArith → Instr) × (Word → Word → Bool)) :=
  [(.scmpEq, fun a b => decide (a = b)), (.scmpNe, fun a b => decide (a ≠ b)),
   (.scmpLt, fun a b => decide (a.toInt < b.toInt)), (.scmpLe, fun a b => decide (a.toInt ≤ b.toInt)),
   (.scmpGt, fun a b => decide (b.toInt < a.toInt)), (.scmpGe, fun a b => decide (b.toInt ≤ a.toInt)),
   (.scmpLtu, fun a b => decide (a.toNat < b.toNat)), (.scmpGeu, fun a b => decide (b.toNat ≤ a.toNat))]

/-- The branches of R146, with their conditions. -/
def braRows : List ((Nat → BitVec 32 → Instr) × (Wave → Bool)) :=
  [(.bra, fun _ => true), (.bq1, fun x => x.q), (.bq0, fun x => !x.q), (.baz, fun x => decide (x.amask = 0#32)),
   (.banz, fun x => decide (x.amask ≠ 0#32))]

/-- Lane `l` is active. -/
def act (x : Wave) (l : Nat) : Bool := decide (l < 32) && x.amask.getLsbD l

/-- A vector register write of `f` in the active lanes: the pc moves on, and every other register of the wave is as it was. -/
def LanesDo (s : State) (i : Instr) (w : Nat) (x : Wave) (r : Nat) (f : Nat → Word) : Prop :=
  Gives i s (fun d => ∃ y, WaveBecomes s d w y ∧ y = { x with pc := x.pc + 8, v := y.v }
    ∧ (∀ l, act x l = true → y.vr r l = f l) ∧ (∀ k l, l < 32 → (k ≠ r ∨ act x l = false) → y.vr k l = x.vr k l))

/-- A scalar destination takes `m`: the pc moves on, and every other scalar destination, and the rest of the wave but q, is as it
was. -/
def SdstDoes (s : State) (i : Instr) (w : Nat) (x : Wave) (o : Nat) (m : Word) (q : Bool) : Prop :=
  Gives i s (fun d => ∃ y, WaveBecomes s d w y ∧ y = { x with pc := x.pc + 8, s := y.s, p := y.p, amask := y.amask, q := q }
    ∧ sdstOf y o = m ∧ (∀ k, k ≤ 0x84 → k ≠ o → sdstOf y k = sdstOf x k))

/-- The result of a floating-point instruction with sat (R138). -/
def saturated (a : VArith) (o : VOp) (r : Word) : Word := if a.sat then satWord o.out r else r

/-! ### Memory instructions of waves -/

/-- The atomic operations of R147: what the old value `p` and the data `q` leave. -/
def atomRows : List ((Nat → VMem → Instr) × (Nat → VMem → Instr) × (Word → Word → Word)) :=
  [(.batomAdd, .watomAdd, fun p q => p + q),
   (.batomSmin, .watomSmin, fun p q => if p.toInt < q.toInt then p else q), (.batomSmax, .watomSmax, fun p q => if p.toInt < q.toInt then q else p),
   (.batomUmin, .watomUmin, fun p q => if p.toNat < q.toNat then p else q), (.batomUmax, .watomUmax, fun p q => if p.toNat < q.toNat then q else p),
   (.batomAnd, .watomAnd, fun p q => p &&& q), (.batomOr, .watomOr, fun p q => p ||| q), (.batomXor, .watomXor, fun p q => p ^^^ q),
   (.batomXchg, .watomXchg, fun _ q => q)]

/-- The byte address of a lane within its buffer or workgroup memory: vaddr plus the offset with its sign, cut to whole dwords (R147). -/
def laneAddr (x : Wave) (a : VMem) (l : Nat) : Nat := (x.vr a.vaddr.toNat l + a.offset.signExtend 32).toNat / 4 * 4

/-- A dword of workgroup memory: 0 out of range (R148). -/
def wgDword (x : Wave) (m : List (Nat × Byte)) (o : Nat) : Word := if x.wgmem < o + 4 then 0#32 else BitVec.ofNat 32 (leNat (rawRead m o 4))

/-- Workgroup memory with a dword written: out of range nothing changes (R148). -/
def wgPut (x : Wave) (m : List (Nat × Byte)) (o : Nat) (v : Word) : List (Nat × Byte) :=
  if x.wgmem < o + 4 then m else rawWrite m o (leBytes 4 v.toNat)

/-- Workgroup memory and the wave after an atomic of lane `l`. -/
def wgAtom (x : Wave) (a : VMem) (f : Nat → Word → Word) (z : List (Nat × Byte) × Wave) (l : Nat) : List (Nat × Byte) × Wave :=
  let old := wgDword x z.1 (laneAddr x a l)
  (wgPut x z.1 (laneAddr x a l) (f l old), if a.flags.toNat.testBit 0 then z.2.setVr a.data.toNat l old else z.2)

/-- The lanes that are active and no helpers, ascending. -/
def doing (x : Wave) : List Nat := (List.range 32).filter (fun l => x.amask.getLsbD l && x.live.getLsbD l)

/-- Wave `w` becomes `y` and the workgroup memory of its workgroup `m`; nothing else of the device changes. -/
def WaveAndGroup (s : State) (d : Device) (w g : Nat) (y : Wave) (m : List (Nat × Byte)) : Prop :=
  d.wave w = some y ∧ (∀ v, v ≠ w → d.wave v = s.dev.wave v) ∧ d.groupMem g = m ∧ (∀ h, h ≠ g → d.groupMem h = s.dev.groupMem h)
    ∧ { d with ras := { d.ras with waves := s.dev.ras.waves, groups := s.dev.ras.groups }, out := s.dev.out } = s.dev

/-- The context in which an instruction of wave `x` reaches memory. -/
def memCtx (s : State) (x : Wave) : RasCtx :=
  { c := x.ch, i := match s.dev.item x.uid with | some y => y.inst | none => 0, u := x.uid }

/-- A wave after the components `c` of a lane are written under a mask (R151). -/
def texels (a : VTex) (y : Wave) (p : Nat × List Nat) : Wave :=
  ((List.range 4).filter (fun k => a.mask.getLsbD k)).zipIdx.foldl
    (fun y e => y.setVr (a.dst.toNat + e.2) p.1 (BitVec.ofNat 32 (p.2.getD e.1 0))) y

end Sys2Proof.Claims

/-! ### Waves: arithmetic and control -/

/-- The source operands of R139: vector and scalar registers, integer and floating-point constants, the masks, q and the lane. -/
def Obligations.SourceOperands : Prop :=
  ∀ (x : Wave) (l : Nat),
    (∀ o, o ≤ 0xFF → x.src o l = x.vr o l) ∧ (∀ o, o ≤ 0x7F → x.src (0x100 + o) l = x.sr o)
    ∧ (∀ k, k ≤ 63 → x.src (0x180 + k) l = BitVec.ofNat 32 k) ∧ (∀ k, k ≤ 15 → x.src (0x1C0 + k) l = BitVec.ofInt 32 (-1 - k))
    ∧ (List.range 8).map (fun k => x.src (0x1D0 + k) l) =
        [0x3F000000#32, 0x3F800000#32, 0x40000000#32, 0x40800000#32, 0xBF000000#32, 0xBF800000#32, 0xC0000000#32, 0xC0800000#32]
    ∧ x.src 0x1E0 l = x.amask ∧ (∀ k, k ≤ 3 → x.src (0x1E1 + k) l = x.pr k) ∧ x.src 0x1E5 l = (if x.q then 1#32 else 0#32)
    ∧ x.src 0x1E6 l = BitVec.ofNat 32 l ∧ x.src 0x1E7 l = x.live

/-- Vector arithmetic (R131, R138, R142 to R146): a legal instruction of a wave that runs writes its result to the destination in
the active lanes, and nothing else but the pc. -/
def Obligations.VectorArithmetic : Prop :=
  ∀ r ∈ floatRows ++ intRows, ∀ (s : State) (w : Nat) (x : Wave) (a : VArith), WaveRuns s w x → vaOk a x true r.2.1 = true →
    a.dst.toNat < x.vregs →
    LanesDo s (r.1 w a) w x a.dst.toNat
      (fun l => saturated a r.2.1 (r.2.2 (vaArg a x r.2.1 l 0) (vaArg a x r.2.1 l 1) (vaArg a x r.2.1 l 2)))

/-- Compares that write a lane mask (R139, R146): an inactive lane's bit is 0. -/
def Obligations.VectorCompares : Prop :=
  ∀ r ∈ maskRows, ∀ (s : State) (w : Nat) (x : Wave) (a : VArith), WaveRuns s w x → vaOk a x true r.2.1 = true →
    x.sdstOk a.dst.toNat = true →
    ∃ m : Word, SdstDoes s (r.1 w a) w x a.dst.toNat m x.q
      ∧ ∀ l, l < 32 → m.getLsbD l = (x.amask.getLsbD l && r.2.2 (vaArg a x r.2.1 l 0) (vaArg a x r.2.1 l 1))

/-- The instructions that look across lanes, `SEL` and `VINTERP` (R146). -/
def Obligations.LaneInstructions : Prop :=
  ∀ (s : State) (w : Nat) (x : Wave) (a : VArith), WaveRuns s w x →
    let o3 : VOp := ⟨3, false, .int, .int⟩
    let o2 : VOp := ⟨2, false, .int, .int⟩
    let fi : VOp := ⟨3, true, .single, .single⟩
    let f1 : VOp := ⟨1, true, .single, .single⟩
    (vaOk a x true o3 = true → a.dst.toNat < x.vregs → 0x100 ≤ a.src2.toNat →
      LanesDo s (.sel w a) w x a.dst.toNat
        (fun l => if (x.src a.src2.toNat l).getLsbD l then vaArg a x o3 l 0 else vaArg a x o3 l 1))
    ∧ (vaOk a x true o2 = true → a.dst.toNat < x.vregs →
        LanesDo s (.shuf w a) w x a.dst.toNat
          (fun l =>
            let m := (vaArg a x o2 l 1).toNat % 32
            if x.amask.getLsbD m then vaArg a x o2 m 0 else 0#32))
    ∧ (vaOk a x true o2 = true → x.sdstOk a.dst.toNat = true →
        SdstDoes s (.lget w a) w x a.dst.toNat (vaArg a x o2 ((vaArg a x o2 0 1).toNat % 32) 0) x.q)
    ∧ (vaOk a x true fi = true → a.dst.toNat < x.vregs → 0x180 ≤ a.src0.toNat → a.src0.toNat ≤ 0x1BF →
        LanesDo s (.vinterp w a) w x a.dst.toNat (fun l => saturated a fi (
          let i := (vaArg a x fi l 1).toNat
          let j := (vaArg a x fi l 2).toNat
          let k := a.src0.toNat - 0x180
          match x.frags.find? (fun e => e.1 == l) with
          | none => interp 0 0 0 i j
          | some e => interp (s.dev.attrOf x.uid e.2.va k) (s.dev.attrOf x.uid e.2.vb k) (s.dev.attrOf x.uid e.2.vc k) i j)))
    ∧ (vaOk a x true f1 = true → a.dst.toNat < x.vregs → x.kind = 1 →
        LanesDo s (.ddx w a) w x a.dst.toNat (fun l => saturated a f1
          (BitVec.ofNat 32 (f32.addR .near (vaArg a x f1 (l / 2 * 2 + 1) 0).toNat (f32.negate (vaArg a x f1 (l / 2 * 2) 0).toNat))))
        ∧ LanesDo s (.ddy w a) w x a.dst.toNat (fun l => saturated a f1
          (BitVec.ofNat 32 (f32.addR .near (vaArg a x f1 (l / 4 * 4 + l % 2 + 2) 0).toNat
            (f32.negate (vaArg a x f1 (l / 4 * 4 + l % 2) 0).toNat)))))

/-- Scalar arithmetic and compares of a wave (R139, R146): the scalar destination and q; a compare writes q alone. -/
def Obligations.WaveScalars : Prop :=
  (∀ r ∈ scaRows, ∀ (s : State) (w : Nat) (x : Wave) (a : VArith), WaveRuns s w x → vaOk a x false (scaOps r.2.1) = true →
    x.sdstOk a.dst.toNat = true →
    let p := vaArg a x (scaOps r.2.1) 0 0
    let q := vaArg a x (scaOps r.2.1) 0 1
    SdstDoes s (r.1 w a) w x a.dst.toNat (r.2.2.1 x.q p q) (r.2.2.2 x.q p q (r.2.2.1 x.q p q)))
  ∧ ∀ r ∈ scmpRows, ∀ (s : State) (w : Nat) (x : Wave) (a : VArith), WaveRuns s w x → vaOk a x false (scaOps 2) = true →
    Gives (r.1 w a) s (fun d =>
      WaveBecomes s d w { x with pc := x.pc + 8, q := r.2 (vaArg a x (scaOps 2) 0 0) (vaArg a x (scaOps 2) 0 1) })

/-- Branches, barriers, `NOP` and `END` of a wave (R146, R150, R154), and an instruction that is ILLEGAL (R141). -/
def Obligations.WaveControl : Prop :=
  ∀ (s : State) (w : Nat) (x : Wave), WaveRuns s w x →
    (∀ r ∈ braRows, ∀ imm : Word, Gives (r.1 w imm) s (fun d => WaveBecomes s d w
      { x with pc := if r.2 x then (((x.pc : Int) + 8 + 8 * imm.toInt) % 2 ^ 48).toNat else x.pc + 8 }))
    ∧ Gives (.vecNop w) s (fun d => WaveBecomes s d w { x with pc := x.pc + 8 })
    ∧ (∀ imm : Word, imm.toNat ≤ 1 → Gives (.membar w imm) s (fun d => WaveBecomes s d w { x with pc := x.pc + 8 }))
    ∧ Gives (.membar w 2#32) s (fun d => d = ((found s).l2CleanItem x.uid).putWave { x with pc := x.pc + 8 })
    ∧ (x.kind = 2 → (∃ y ∈ s.dev.ras.waves, y.kind = 2 ∧ y.group = x.group ∧ y.id ≠ w ∧ y.barrier = false) →
        Gives (.wgbar w) s (fun d => WaveBecomes s d w { x with pc := x.pc + 8, barrier := true }))
    ∧ (x.kind = 2 → (∀ y ∈ s.dev.ras.waves, y.kind = 2 → y.group = x.group → y.id = w ∨ y.barrier = true) →
        Gives (.wgbar w) s (fun d => d.wave w = some { x with pc := x.pc + 8, barrier := false }
          ∧ ∀ y ∈ d.ras.waves, y.kind = 2 → y.group = x.group → y.barrier = false))
    ∧ (x.kind = 2 → Gives (.vecEnd w) s (fun d => d.wave w = none ∧ d.csr = s.dev.csr ∧ SameMem s d))
    ∧ (x.kind = 0 → ∀ r, s.dev.run x.uid = some r →
        let v := (lanesOf x.live).foldl (fun t l => tput t (x.base + l) (vtxOf x l)) r.vtx
        (∀ l, l < 32 → x.live.getLsbD l = true → v.find? (fun e => e.1 == x.base + l) = some (x.base + l, vtxOf x l))
        ∧ ∀ d', (goOn (memCtx s x)).run ((((found s).modRun x.uid (fun r => { r with vtx := v })).removeWave x).passBarrier x.group) =
            (.ok (), d') → Becomes (.vecEnd w) s d')
    ∧ (x.kind = 1 → ∀ d1 d2, (endFragWave (memCtx s x) x).run (found s) = (.ok (), d1) →
        (goOn (memCtx s x)).run ((d1.removeWave x).passBarrier x.group) = (.ok (), d2) → Becomes (.vecEnd w) s d2)
    ∧ (∀ word, decodeVec w word = none → Becomes (.vecIllegal ⟨w, word⟩) s ((found s).vecIllegal x))
    ∧ (∀ word i, decodeVec w word = some i → Becomes (.vecIllegal ⟨w, word⟩) s (found s))

/-! ### Waves: memory, textures, rays, exports -/

/-- Workgroup memory (R147, R148): loads, stores and every atomic of a legal instruction of a compute wave, in lane order; an access out
of range reads as 0 and changes nothing. -/
def Obligations.WorkgroupMemory : Prop :=
  ∀ (s : State) (w : Nat) (x : Wave) (a : VMem), WaveRuns s w x → (s.dev.ras.groups.find? (fun g => g.id == x.group)).isSome = true →
    let m := s.dev.groupMem x.group
    let next : Wave := { x with pc := x.pc + 8 }
    let n := a.count.toNat + 1
    (n ≤ 4 → wgOk a x n = true →
      (Gives (.wld w a) s (fun d => ∃ y, WaveBecomes s d w y ∧ y = { next with v := y.v }
          ∧ ∀ k l, l < 32 → y.vr k l =
              if act x l = true ∧ a.data.toNat ≤ k ∧ k < a.data.toNat + n then wgDword x m (laneAddr x a l + 4 * (k - a.data.toNat)) else x.vr k l))
      ∧ Gives (.wst w a) s (fun d => WaveAndGroup s d w x.group next
          ((doing x).foldl (fun m l => (List.range n).foldl (fun m j => wgPut x m (laneAddr x a l + 4 * j) (x.vr (a.data.toNat + j) l)) m) m)))
    ∧ (a.count = 0#3 → wgOk a x 1 = true → ∀ r ∈ atomRows,
        let e := (doing x).foldl (wgAtom x a (fun l old => r.2.2 old (x.vr a.data.toNat l))) (m, next)
        Gives (r.2.1 w a) s (fun d => WaveAndGroup s d w x.group e.2 e.1))
    ∧ (a.count = 0#3 → wgOk a x 2 = true →
        let e := (doing x).foldl (wgAtom x a (fun l old => if old = x.vr a.data.toNat l then x.vr (a.data.toNat + 1) l else old)) (m, next)
        Gives (.watomCmpxchg w a) s (fun d => WaveAndGroup s d w x.group e.2 e.1))

/-- Buffer memory (R135, R147 to R149): what a legal load, store or atomic that meets no fault leaves, lane by lane in order; `SLD`
writes the dwords at its address to consecutive scalar registers. -/
def Obligations.BufferMemory : Prop :=
  ∀ (s : State) (w : Nat) (x : Wave) (a : VMem), WaveRuns s w x →
    let next : Wave := { x with pc := x.pc + 8 }
    let n := a.count.toNat + 1
    let k := memCtx s x
    let b := x.buf a.desc.toNat
    (∀ bs d', a.count.toNat ≤ 4 → a.data.toNat + 2 ^ a.count.toNat ≤ x.sregs → a.desc.toNat % 2 = 0 → a.desc.toNat + 2 ≤ x.sregs →
      a.flags.getLsbD 1 = false → ∀ p : Nat, (p : Int) = ((x.pair a.desc.toNat : Int) + a.offset.toInt) % 2 ^ 64 → p % 4 = 0 →
      (rasRead k.c k.i p (4 * 2 ^ a.count.toNat) 1).run (found s) = (.ok bs, d') →
      Gives (.sld w a) s (fun d => ∃ y, d = d'.putWave y ∧ y = { next with s := y.s }
        ∧ ∀ r, y.sr r = if a.data.toNat ≤ r ∧ r < a.data.toNat + 2 ^ a.count.toNat
            then BitVec.ofNat 32 (leAt bs (4 * (r - a.data.toNat)) 4) else x.sr r))
    ∧ (n ≤ 4 → memOk a x n = true →
        (∀ y d', ((lanesOf x.amask).foldlM (fun y l => (List.range n).foldlM (fun y j => do
            let v ← bufLoad k next b (laneAddr x a l + 4 * j)
            pure (y.setVr (a.data.toNat + j) l v)) y) next : RasM Wave).run (found s) = (.ok y, d') →
          Gives (.bld w a) s (fun d => d = d'.putWave y ∧ y = { next with v := y.v }))
        ∧ (∀ d', ((doing x).forM (fun l => (List.range n).forM (fun j =>
            bufStore k b (laneAddr x a l + 4 * j) (x.vr (a.data.toNat + j) l))) : RasM Unit).run (found s) = (.ok (), d') →
          Gives (.bst w a) s (fun d => d = d'.putWave next))
        ∧ ((∀ l, act x l = true → b.size < laneAddr x a l + 4) →
            Gives (.bst w a) s (fun d => WaveBecomes s d w next)
            ∧ Gives (.bld w a) s (fun d => ∃ y, WaveBecomes s d w y ∧ y = { next with v := y.v }
              ∧ ∀ r l, l < 32 → y.vr r l = if act x l = true ∧ a.data.toNat ≤ r ∧ r < a.data.toNat + n then 0#32 else x.vr r l)))
    ∧ (∀ (f : Nat → Word → Word) (i : Instr) (c : Nat),
        ((∃ r ∈ atomRows, i = r.1 w a ∧ c = 1 ∧ f = fun l old => r.2.2 old (x.vr a.data.toNat l))
          ∨ (i = .batomCmpxchg w a ∧ c = 2 ∧ f = fun l old => if old = x.vr a.data.toNat l then x.vr (a.data.toNat + 1) l else old)) →
        a.count = 0#3 → memOk a x c = true →
        (∀ y d', ((doing x).foldlM (fun y l => do
            let old ← bufAtomic k b (laneAddr x a l) (f l)
            pure (if a.flags.getLsbD 0 then y.setVr a.data.toNat l old else y)) next : RasM Wave).run (found s) = (.ok y, d') →
          Gives i s (fun d => d = d'.putWave y))
        ∧ ((∀ l, act x l = true → b.size < laneAddr x a l + 4) → a.flags.getLsbD 0 = false →
            Gives i s (fun d => WaveBecomes s d w next)))

/-- Texture instructions and `TRACE` (R151 to R153): the components or the four result words of each active lane in order, when no
access faults; an invalid texture descriptor gives zeros, and `QUERY` the sizes of a level and the number of levels. -/
def Obligations.TexturesAndRays : Prop :=
  ∀ (s : State) (w : Nat) (x : Wave), WaveRuns s w x →
    let next : Wave := { x with pc := x.pc + 8 }
    let k := memCtx s x
    (∀ a : VTex,
      let t := x.tex a.tdesc.toNat
      let p := x.samp a.sdesc.toNat
      let r := a.coord.toNat
      let ou := a.offu.toInt
      let ov := a.offv.toInt
      let does := fun (i : Instr) (f : Nat → RasM (List Nat)) =>
        ∀ y d', ((lanesOf x.amask).foldlM (fun y l => do
            let c ← f l
            pure (texels a y (l, c))) next : RasM Wave).run (found s) = (.ok y, d') →
          Gives i s (fun d => d = d'.putWave y)
      (texOk a x 2 true = true → t.ok = true → does (.sample w a) (fun l => sampleImplicit k next r t p none l ou ov))
      ∧ (texOk a x 3 true = true → t.ok = true → does (.sampleL w a) (fun l =>
          sampleLod k (x.cluster.getD 0) t p (finalLod p (x.vr (r + 2) l).toNat none) (x.vr r l).toNat (x.vr (r + 1) l).toNat ou ov))
      ∧ (texOk a x 3 true = true → t.ok = true → does (.sampleB w a) (fun l =>
          sampleImplicit k next r t p (some (x.vr (r + 2) (if x.kind = 1 then l / 4 * 4 else l)).toNat) l ou ov))
      ∧ (texOk a x 3 false = true → t.ok = true → does (.fetch w a) (fun l =>
          let i : Int := (x.vr r l).toNat + ou
          let j : Int := (x.vr (r + 1) l).toNat + ov
          let n := (x.vr (r + 2) l).toNat
          if n < t.levels ∧ 0 ≤ i ∧ 0 ≤ j ∧ i < levelDim t.width n ∧ j < levelDim t.height n
          then texelFetch k (x.cluster.getD 0) t n i.toNat j.toNat else pure [0, 0, 0, 0]))
      ∧ (texOk a x 1 false = true → t.ok = true → Gives (.query w a) s (fun d => WaveBecomes s d w
          (((List.range 32).filter (fun l => x.amask.getLsbD l)).foldl (fun y l =>
            texels a y (l, [levelDim t.width (x.vr r l).toNat, levelDim t.height (x.vr r l).toNat, t.levels, 0])) next)))
      ∧ (t.ok = false → ∀ i n smp, ((i = .sample w a ∧ n = 2 ∧ smp = true) ∨ (i = .sampleL w a ∧ n = 3 ∧ smp = true)
            ∨ (i = .sampleB w a ∧ n = 3 ∧ smp = true) ∨ (i = .fetch w a ∧ n = 3 ∧ smp = false) ∨ (i = .query w a ∧ n = 1 ∧ smp = false)) →
          texOk a x n smp = true → Gives i s (fun d => WaveBecomes s d w
            (((List.range 32).filter (fun l => x.amask.getLsbD l)).foldl (fun y l => texels a y (l, [0, 0, 0, 0])) next))))
    ∧ ∀ (a : VRay) (y : Wave) (d' : Device), a.dst.toNat + 4 ≤ x.vregs → a.ray.toNat + 8 ≤ x.vregs → a.root.toNat % 2 = 0 →
        a.root.toNat + 2 ≤ x.sregs → a.omask.toNat < x.sregs → (found s).unitFree x.ch = true →
        ((lanesOf x.amask).foldlM (fun y l => traceLane k next a l y) next : RasM Wave).run (found s) = (.ok y, d') →
        Gives (.trace w a) s (fun d => d = d'.putWave y)

/-- Exports and `KILL` (R154): what a lane that is active and live has exported, which a later export of the same replaces. -/
def Obligations.Exports : Prop :=
  ∀ (s : State) (w : Nat) (x : Wave) (a : VExp), WaveRuns s w x →
    let next : Wave := { x with pc := x.pc + 8 }
    let c := ((List.range 4).filter (fun k => a.mask.getLsbD k))
    (x.kind = 1 → a.target.toNat ≤ 3 → a.src.toNat + c.length ≤ x.vregs →
      Gives (.expc w a) s (fun d => ∃ y, WaveBecomes s d w y ∧ y = { next with outs := y.outs } ∧ ∀ l ∈ doing x, ∀ k, k < 4 →
        y.out (256 * l + 4 * a.target.toNat + k) =
          (c.zipIdx.find? (fun e => e.1 == k)).map (fun e => x.vr (a.src.toNat + e.2) l)))
    ∧ (x.kind = 1 → x.wdepth = true → a.src.toNat < x.vregs →
        Gives (.expz w a) s (fun d => ∃ y, WaveBecomes s d w y ∧ y = { next with outs := y.outs } ∧ ∀ l ∈ doing x,
          y.out (256 * l + 16) = some (x.vr a.src.toNat l)))
    ∧ (x.kind = 0 → a.src.toNat + 4 ≤ x.vregs →
        Gives (.expp w a) s (fun d => ∃ y, WaveBecomes s d w y ∧ y = { next with outs := y.outs } ∧ ∀ l ∈ doing x, ∀ k, k < 4 →
          y.out (256 * l + 32 + k) = some (x.vr (a.src.toNat + k) l)))
    ∧ (x.kind = 0 → a.target.toNat < x.slots → a.src.toNat + c.length ≤ x.vregs →
        Gives (.expa w a) s (fun d => ∃ y, WaveBecomes s d w y ∧ y = { next with outs := y.outs } ∧ ∀ l ∈ doing x, ∀ k, k < 4 →
          y.out (256 * l + 64 + 4 * a.target.toNat + k) =
            (c.zipIdx.find? (fun e => e.1 == k)).map (fun e => x.vr (a.src.toNat + e.2) l)))
    ∧ (x.kind = 1 → x.kills = true →
        Gives (.kill w) s (fun d => WaveBecomes s d w { next with live := x.live &&& ~~~x.amask }))

namespace Sys2Proof.Claims

/-- Nothing of item `u` is left: its entry, its run and its waves are gone. -/
def Ended (d : Device) (u : Nat) : Prop := d.item u = none ∧ d.run u = none ∧ ∀ v ∈ d.ras.waves, v.uid ≠ u

/-- The engine of item `u`, with run `r`, stands at the packet `b` (R98, R99): the item executes, the packet was read through L2, and
`d` is the device with which the packet's work starts. -/
def AtPacket (s : State) (u : Nat) (x : Item) (r : Run) (b : List Byte) (d : Device) : Prop :=
  s.dev.item u = some x ∧ s.dev.run u = some r ∧ s.dev.executing u = true ∧ r.pos + 64 ≤ x.pay 0x28 4
    ∧ ∃ d0, (found s).l2Read r.ch x.inst (x.pay 0x20 8 + r.pos) 64 = (.ok b, d0)
      ∧ d = (if leAt b 0 1 = 2 ∨ leAt b 0 1 = 3 then d0
          else d0.modRun u (fun y => { y with pass := y.pass.map (fun p => { p with attaching := false }) }))

/-- The run of item `u` moves on to the packet after `r`'s. -/
def pastPacket (d : Device) (u : Nat) (r : Run) : Device := d.modRun u (fun y => { y with pos := r.pos + 64 })

/-- A packet of opcode `op` whose bytes beyond its fields are zero. -/
def IsPacket (b : List Byte) (op : Nat) : Prop := leAt b 0 1 = op ∧ packetZero b (packetRanges op) = true

/-- Command `i` executes packets of opcode `op` for item `u` (R98). -/
def PacketCommand (u : Nat) (i : Instr) (op : Nat) : Prop :=
  (i = .nop u ∧ op = 0) ∨ (i = .state u ∧ op = 1) ∨ (i = .passBegin u ∧ op = 2) ∨ (i = .attach u ∧ op = 3)
    ∨ (∃ ps, i = .draw u ps ∧ op = 4) ∨ (∃ ps, i = .drawIndirect u ps ∧ op = 5) ∨ (i = .dispatch u ∧ op = 6)
    ∨ (i = .dispatchIndirect u ∧ op = 7) ∨ (i = .passEnd u ∧ op = 8) ∨ (i = .cache u ∧ op = 9) ∨ (i = .barrier u ∧ op = 0xA)
    ∨ (i = .bind u ∧ op = 0xB) ∨ (i = .timestamp u ∧ op = 0xC) ∨ (i = .endC u ∧ op = 0xD)

/-- What `CACHE` with the bits `v` does in channel `c` to the lines of `n` bytes from `a` of instance `i`, or to every line for n = 0 (R98):
bit 0 empties the L1s, bit 2 cleans, bit 1 invalidates clean lines, the pinned ones only with bit 3. -/
def cached (d : Device) (c i v a n : Nat) : Device :=
  let e := if n = 0 then (([] : List Nat), d) else d.rangeKeys i a n
  let sel := fun (l : L2Line) => n == 0 || e.1.contains l.key
  let d := if v.testBit 0 then e.2.l1DropMask c 0xFFF else e.2
  let d := if v.testBit 2 then d.l2Clean c sel else d
  if v.testBit 1 then d.setL2 c ((d.l2 c).filter (fun l => !sel l || l.dirty != 0 || (l.pinned && !v.testBit 3))) else d

end Sys2Proof.Claims

/-! ### Work queues, picks and packets -/

/-- Doorbells and the queue page (R82, R96): an index that is in range and takes nothing back becomes the producer index, and any other
sets bad_doorbell; the configuration and consumer registers as R96 says. -/
def Obligations.QueueRegisters : Prop :=
  (∀ (s : State) (i n : Nat) (value : Word), s.dev.hostUp = true →
    let m := 2 ^ (s.dev.queueK i n + 1)
    let v := value.toNat % 2 ^ 17
    let new := ringDiff m v (s.dev.rd (Reg.INST_Q_CONS_cons i n))
    let good := s.dev.on (Reg.INST_Q_CFG_enable i n) = true ∧ v < m ∧ s.dev.waitingDescs i n ≤ new ∧ new ≤ 2 ^ s.dev.queueK i n
    (good → Gives (.doorbell i n value) s (fun d => d.prodOf i n = v ∧ d.q.items = s.dev.q.items ∧ SameMem s d))
    ∧ (¬ good → Gives (.doorbell i n value) s (fun d =>
        d.on (Reg.INST_Q_STATUS_bad_doorbell i n) = true ∧ d.q = s.dev.q ∧ OnlyRegs s.dev d
          ∧ RegsBut s.dev d [(Reg.INST_Q_STATUS_bad_doorbell i n).addr])))
  ∧ (∀ (s : State) (i n : Nat) (value : Word),
    let en := value.getLsbD 31
    let sz := value.toNat % 32
    (s.dev.on (Reg.INST_Q_CFG_enable i n) = false → Gives (.instQCfgWrite i n value) s (fun d =>
      d.on (Reg.INST_Q_CFG_enable i n) = en ∧ d.rd (Reg.INST_Q_CFG_log2_size i n) = sz
        ∧ (en = true → d.prodOf i n = s.dev.rd (Reg.INST_Q_CONS_cons i n)) ∧ d.q.items = s.dev.q.items
        ∧ RegsBut s.dev d [(Reg.INST_Q_CFG_enable i n).addr]))
    ∧ (s.dev.on (Reg.INST_Q_CFG_enable i n) = true → en = true → Gives (.instQCfgWrite i n value) s (fun d =>
        (d.on (Reg.INST_Q_STATUS_cfg_err i n) =
            (s.dev.on (Reg.INST_Q_STATUS_cfg_err i n) || decide (sz ≠ s.dev.rd (Reg.INST_Q_CFG_log2_size i n))))
          ∧ d.q = s.dev.q ∧ RegsBut s.dev d [(Reg.INST_Q_STATUS_cfg_err i n).addr]))
    ∧ (s.dev.on (Reg.INST_Q_CFG_enable i n) = true → en = false → sz = s.dev.rd (Reg.INST_Q_CFG_log2_size i n) →
        Becomes (.instQCfgWrite i n value) s ((((found s).wr (Reg.INST_Q_CFG_enable i n) 0).cancelQueue i n 2).showEntries i)))
  ∧ (∀ (s : State) (i : Nat) (value : Word),
    let en := value.getLsbD 31
    let sz := value.toNat % 32
    (s.dev.on (Reg.INST_HRV_CFG_enable i) = false → Gives (.instHrvCfgWrite i value) s (fun d =>
      d.on (Reg.INST_HRV_CFG_enable i) = en ∧ d.rd (Reg.INST_HRV_CFG_log2_size i) = sz ∧ d.q = s.dev.q))
    ∧ (s.dev.on (Reg.INST_HRV_CFG_enable i) = true → en = false → sz = s.dev.rd (Reg.INST_HRV_CFG_log2_size i) →
        Gives (.instHrvCfgWrite i value) s (fun d =>
          d.on (Reg.INST_HRV_CFG_enable i) = decide (s.dev.entries i ≠ 0)
            ∧ (s.dev.entries i ≠ 0 → d.on (Reg.INST_HRV_STATUS_cfg_err i) = true))))
  ∧ (∀ (s : State) (i : Nat) (value : Word),
    let m := 2 ^ (ringK 16 (s.dev.rd (Reg.INST_HRV_CFG_log2_size i)) + 1)
    let v := value.toNat % 2 ^ 17
    let c := s.dev.rd (Reg.INST_HRV_CONS_cons i)
    let good := v < m ∧ ringDiff m v c ≤ ringDiff m (s.dev.rd (Reg.INST_HRV_PROD_prod i)) c
    (good → Gives (.hrvConsWrite i value) s (fun d => d.rd (Reg.INST_HRV_CONS_cons i) = v ∧ d.q = s.dev.q))
    ∧ (¬ good → Gives (.hrvConsWrite i value) s (fun d =>
        d.on (Reg.INST_HRV_STATUS_bad_cons i) = true ∧ d.rd (Reg.INST_HRV_CONS_cons i) = c)))
  ∧ (∀ (s : State) (i : Nat), s.dev.q.held.all (fun h => h.inst != i) = true →
    Gives (.hrvWriteFaultClear i) s (fun d => d.on (Reg.INST_HRV_STATUS_write_fault i) = false ∧ d.q = s.dev.q))
  ∧ ∀ (s : State) (i : Nat),
    let u := tget (fun _ => (0, 0)) s.dev.q.unsig i
    let b := s.dev.rd (Reg.INST_HRV_IRQ_beats i)
    s.dev.on (Reg.INST_HRV_IRQ_enable i) = true → b ≠ 0 → u.1 ≠ 0 → b * 65536 ≤ s.dev.beatTime - u.2 →
    Gives (.hrvIrqAge i) s (fun d => d.out = [s.dev.notice i 0] ∧ tget (fun _ => (0, 0)) d.q.unsig i = (0, 0) ∧ d.csr = s.dev.csr)

/-- Admission and the items that the queue front end hands on (R83 to R87, R325, R372). -/
def Obligations.Admission : Prop :=
  (∀ (s : State) (i n : Nat) (b : List Byte) (d1 d2 : Device), s.dev.admits i = true → s.dev.lacksSlot i = false →
    s.dev.admitQueue i = some n →
    let c := s.dev.rd (Reg.INST_Q_CONS_cons i n)
    let k := s.dev.queueK i n
    let q := { s.dev.q with turn := tset (fun _ => 0) s.dev.q.turn i ((n + 1) % 16) }
    let d0 := Device.wr { s.dev with q := q, out := [] } (Reg.INST_Q_CONS_cons i n) ((c + 1) % 2 ^ (k + 1))
    d0.read (.inst i) 8 (s.dev.addr64 (Reg.INST_Q_BASE_LO i n) (Reg.INST_Q_BASE_HI i n) + c % 2 ^ k * 64) 64 = (.ok b, d1) →
    d1.checkDesc i b = none → d1.spendToken i = some d2 →
    Gives (.descriptorAdmit i) s (fun d =>
      ∃ x : Item, d.q.items = d2.q.items ++ [x] ∧ x.uid = d2.q.nextUid ∧ x.inst = i ∧ x.queue = n ∧ x.desc = b ∧ x.time = d2.beatTime
        ∧ x.started = false ∧ x.stage = 0))
  ∧ (∀ (s : State) (i n : Nat) (x : Item), s.dev.queueHead i n = some x → s.dev.item x.uid = some x →
    (x.cls = 5 → (s.dev.queueItems i n).any (fun y => decide (y.uid < x.uid)) = false →
      Gives (.fence i n) s (fun d => d.item x.uid = none))
    ∧ (x.cls = 6 → s.dev.mayStart x = true → (found s).seedCheck (.item x.uid) (x.pay 0x20 2 % 4096) (x.pay 0x24 4) = 0 →
        Gives (.seedItem i n) s (fun d =>
          d.item x.uid = some { x with stage := 6, started := true }
            ∧ d.seed.queue = s.dev.seed.queue ++ [{ src := .item x.uid, reg := x.pay 0x20 2 % 4096, value := x.pay 0x24 4 % 2 ^ 32 }]))
    ∧ ∀ r ∈ [(Instr.powerWithdraw i n, 0), (.powerHold i n, 1), (.powerDrop i n, 2)],
        x.cls = 7 → x.request = r.2 → s.dev.mayStart x = true →
        Gives r.1 s (fun d => d.item x.uid = some { x with stage := 6, started := true }
          ∧ d.pwr.votes = s.dev.pwr.votes ++ [.item x.uid] ∧ d.csr = s.dev.csr ∧ SameMem s d))

/-- The ends of picks and of the context (R28 to R32, R99, R111 to R113). -/
def Obligations.PicksEnd : Prop :=
  (∀ s : State, s.dev.beat.started = true → s.dev.beat.grants = true → Gives .fallowOpen s (fun d =>
    d.beat.grants = false ∧ d.beat.stick = max s.dev.beat.stick (s.dev.rd Reg.BEAT_FALLOW_start)
      ∧ (∀ p ∈ d.q.picks, p.held = false → p.preempt.isSome = true) ∧ d.csr = s.dev.csr))
  ∧ (∀ (s : State) (q k : Nat) (p : Pick), s.dev.pickAt q k = some p →
    (p.held = false → p.preempt = none → Gives (.pickBudgetExpire q k) s (fun d =>
      d.pickAt q k = some { p with preempt := some (1, max s.dev.beat.clock (p.start + p.budget)) }
        ∧ d.q.items = s.dev.q.items ∧ d.csr = s.dev.csr))
    ∧ (∀ code t after, p.preempt = some (code, t) → after ≤ 16000 → Gives (.preemptRelease q k after) s (fun d =>
        d.pickAt q k = none ∧ (d.seq q).post k = none
          ∧ ∀ x, s.dev.item p.item = some x → d.item p.item = some { x with stage := 0, preempted := true }))
    ∧ (∀ code t j x, p.preempt = some (code, t) → (s.dev.pickHolds p).testBit j = true → s.dev.item p.item = some x → s.dev.q.overs = [] →
        Gives (.clusterOverstay q k j) s (fun d => Ended d p.item ∧ ∃ o, d.q.overs = [o] ∧ o.ch = p.ch
          ∧ o.left = without (s.dev.pickHolds p) (2 ^ j) ∧ o.clock = max s.dev.beat.clock (t + 16000)))
    ∧ (∀ x r, s.dev.item p.item = some x → s.dev.run p.item = some r → s.dev.executing p.item = true → x.pay 0x28 4 < r.pos + 64 →
        s.dev.idleRun p.item = true → Gives (.pickFinish q k) s (fun d => Ended d p.item)))
  ∧ ∀ (s : State) (c t : Nat) (x : Ctx) (y : Item), s.dev.ctx c = some x → x.start = some t → s.dev.item x.item = some y →
    Gives (.ctxLimitExpire c) s (fun d => Ended d x.item)

/-- Packets (R97 to R99, R103, R104, R133): what a well-formed packet of each opcode leaves, and the end of an item at a malformed one. -/
def Obligations.Packets : Prop :=
  ∀ (s : State) (u : Nat) (x : Item) (r : Run) (b : List Byte) (d : Device), AtPacket s u x r b d →
    let k : RasCtx := { c := r.ch, i := x.inst, u := u }
    let cp := leAt r.bound.words 0x18 8
    (IsPacket b 0 → Becomes (.nop u) s (pastPacket d u r))
    ∧ (IsPacket b 1 → leAt b 0x20 4 % 4 ≤ 2 → (∀ n, n < 4 → blendOk (leAt b (0x2C + 4 * n) 4) = true) →
        Becomes (.state u) s (pastPacket (d.modRun u (fun y => { y with bound := { y.bound with words := b } })) u r))
    ∧ (IsPacket b 2 → r.pass = none → 1 ≤ leAt b 4 2 → leAt b 4 2 ≤ 8192 → 1 ≤ leAt b 6 2 → leAt b 6 2 ≤ 8192 → leAt b 8 1 ≤ 2 →
        let p : PassState := {
          width := leAt b 4 2, height := leAt b 6 2, samples := leAt b 8 1, atts := [], attaching := true, blocks := 0, lists := [],
          flushed := [], rendered := [], texels := [] }
        Becomes (.passBegin u) s (pastPacket (d.modRun u (fun y => { y with pass := some p })) u r))
    ∧ (∀ p, IsPacket b 3 → r.pass = some p → p.attaching = true → leAt b 4 1 ≤ 4 → p.atts.any (fun a => a.idx == leAt b 4 1) = false →
        (leAt b 4 1 = 4 → leAt b 5 1 ≤ 2) → (leAt b 4 1 ≠ 4 → leAt b 5 1 ≤ 7 ∧ leAt b 5 1 ≠ 3) → leAt b 6 1 % 4 ≤ 2 →
        leAt b 8 8 % 4096 = 0 → leAt b 0x18 8 % 4096 = 0 →
        Becomes (.attach u) s (pastPacket (d.modRun u (fun y => { y with pass := some { p with atts := p.atts ++
          [{ idx := leAt b 4 1, fmt := leAt b 5 1, load := leAt b 6 1 % 4, discard := (leAt b 6 1).testBit 2, addr := leAt b 8 8,
             clear := leAt b 0x10 8, spill := leAt b 0x18 8 }] } })) u r))
    ∧ (∀ cover h d1 d2, IsPacket b 4 → leAt b 4 1 % 16 ≤ 5 → leAt b 4 1 / 16 ≤ 2 → (drawChecks k r).run d = (.ok h, d1) →
        (goOn k).run (d1.modRun u (fun y => { y with draws := y.draws ++
          [{ topo := leAt b 4 1 % 16, idxSize := leAt b 4 1 / 16, count := leAt b 8 4, insts := leAt b 0x0C 4, first := leAt b 0x10 4,
             voff := (BitVec.ofNat 32 (leAt b 0x14 4)).toInt, firstInst := leAt b 0x18 4, idxAddr := leAt b 0x20 8, bound := r.bound,
             table := h.table, vhead := h.vhead, fhead := h.fhead, cover := cover, next := 0, taken := 0 }] })) = (.ok (), d2) →
        Becomes (.draw u cover) s (pastPacket d2 u r))
    ∧ (∀ covers h d1 d2 d3, IsPacket b 5 → leAt b 4 1 % 16 ≤ 5 → leAt b 4 1 / 16 ≤ 2 → (drawChecks k r).run d = (.ok h, d1) →
        (indirectDraws k r h b covers).run d1 = (.ok (), d2) → (goOn k).run d2 = (.ok (), d3) →
        Becomes (.drawIndirect u covers) s (pastPacket d3 u r))
    ∧ (∀ h d1, IsPacket b 6 → r.pass = none → (∀ o ∈ [8, 0x0C, 0x10], 1 ≤ leAt b o 4 ∧ leAt b o 4 ≤ 65535) → cp ≠ 0 →
        (readProg k 2 cp).run d = (.ok h, d1) →
        Becomes (.dispatch u) s (pastPacket (d1.modRun u (fun y => { y with disps := y.disps ++
          [{ nx := leAt b 8 4, ny := leAt b 0x0C 4, nz := leAt b 0x10 4, bound := y.bound, head := h, started := [] }] })) u r))
    ∧ (∀ a h d1 d2, IsPacket b 7 → cp ≠ 0 → (rasRead k.c k.i (leAt b 8 8) 12 1).run d = (.ok a, d1) →
        (readProg k 2 cp).run d1 = (.ok h, d2) →
        Becomes (.dispatchIndirect u) s (pastPacket (d2.modRun u (fun y => { y with disps := y.disps ++
          [{ nx := leAt a 0 4, ny := leAt a 4 4, nz := leAt a 8 4, bound := y.bound, head := h, started := [] }] })) u r))
    ∧ (∀ p d1, IsPacket b 8 → r.pass = some p → (found s).idleRun u = true → (endPass k p).run d = (.ok (), d1) →
        Becomes (.passEnd u) s (pastPacket (d1.modRun u (fun y => { y with pass := none, draws := [], vtx := [] })) u r))
    ∧ (IsPacket b 9 → Becomes (.cache u) s (pastPacket (cached d r.ch x.inst (leAt b 4 1) (leAt b 8 8) (leAt b 0x10 8)) u r))
    ∧ (IsPacket b 0xA → s.dev.idleRun u = true → Becomes (.barrier u) s (pastPacket d u r))
    ∧ (IsPacket b 0xB → Becomes (.bind u) s
        (pastPacket (d.modRun u (fun y => { y with
          bound := { y.bound with res := leAt b 8 8, vbuf := leAt b 0x10 8, consts := leAt b 0x18 8 } })) u r))
    ∧ (∀ d1, IsPacket b 0xC → s.dev.idleRun u = true → leAt b 8 8 % 8 = 0 →
        (rasWrite r.ch x.inst u (leAt b 8 8) (leBytes 8 d.beatTime)).run d = (.ok (), d1) →
        Becomes (.timestamp u) s (pastPacket d1 u r))
    ∧ (IsPacket b 0xD → s.dev.idleRun u = true → r.pass = none → Gives (.endC u) s (fun d => Ended d u))
    ∧ (s.dev.idleRun u = true → ∀ i op, PacketCommand u i op → leAt b 0 1 = op → packetZero b (packetRanges op) = false →
        Gives i s (fun d => Ended d u))
    ∧ (0xE ≤ leAt b 0 1 → Gives (.nop u) s (fun d => Ended d u))

/-- What the raster engine starts and ends by itself (R69, R78, R118, R121, R124 to R126, R130, R132). -/
def Obligations.RasterEvents : Prop :=
  (∀ (s : State) (u k : Nat) (x : Item) (r : Run), s.dev.item u = some x → s.dev.run u = some r → s.dev.executing u = true →
    s.dev.clusterFor r.ch k u = true →
    let c : RasCtx := { c := r.ch, i := x.inst, u := u }
    let id := s.dev.ras.nextWave
    (∀ n ws d1, (startVertex c r id k n).run (found s) = (.ok ws, d1) → ws ≠ [] → d1.fits r.ch k ws 0 = true →
      Gives (.waveStart u k (.vertex n)) s (fun d =>
        d.ras.waves = d1.ras.waves ++ bindIssue (d1.wavesOn r.ch k) ws ∧ d.ras.nextWave = d1.ras.nextWave + ws.length ∧ d.csr = d1.csr
          ∧ d.mems = d1.mems ∧ d.ras.runs = (d1.modRun u (fun r => { r with draws := modAt r.draws n (fun x =>
              { x with next := min x.verts (x.next + 32) }) })).ras.runs))
    ∧ (∀ quads ws r' d1 d2, (startFragment c r id k ((found s).shading u) quads).run (found s) = (.ok (ws, r'), d1) → ws ≠ [] →
        d1.fits r.ch k ws 0 = true →
        (goOn c).run ({ d1 with ras := { d1.ras with
          waves := d1.ras.waves ++ bindIssue (d1.wavesOn r.ch k) ws, nextWave := d1.ras.nextWave + ws.length } }.modRun u (fun _ => r')) =
          (.ok (), d2) →
      Becomes (.waveStart u k (.fragment quads)) s d2)
    ∧ (∀ n gx gy gz, (startGroup r id k n gx gy gz).1 ≠ [] →
        (found s).fits r.ch k (startGroup r id k n gx gy gz).1 (startGroup r id k n gx gy gz).2 = true →
      Gives (.waveStart u k (.workgroup n gx gy gz)) s (fun d =>
        d.ras.waves = s.dev.ras.waves ++ bindIssue (s.dev.wavesOn r.ch k) (startGroup r id k n gx gy gz).1
          ∧ d.ras.nextWave = id + (startGroup r id k n gx gy gz).1.length ∧ d.csr = s.dev.csr ∧ SameMem s d
          ∧ ∃ g, d.ras.groups = s.dev.ras.groups ++ [g] ∧ g.uid = r.uid ∧ g.size = (startGroup r id k n gx gy gz).2 ∧ g.mem = []))
    ∧ (∀ w y, s.dev.wave w = some y → y.uid = r.uid → y.cluster = none →
        s.dev.fits r.ch k (s.dev.ras.waves.filter (fun v => v.uid == y.uid && v.group == y.group))
          (match s.dev.ras.groups.find? (fun g => g.id == y.group) with | some g => g.size | none => 0) = true →
      Gives (.waveStart u k (.resume w)) s (fun d => d.csr = s.dev.csr ∧ SameMem s d
        ∧ ∀ v ∈ d.ras.waves, v.uid = y.uid → v.group = y.group → v.cluster = some k ∧ v.ch = r.ch)))
  ∧ (∀ (s : State) (q k : Nat) (r : RayQuery) (e : RayEnd) (d1 d2 : Device) (ws : List Word),
    (s.dev.seq q).rayq k = some r → s.dev.rayTurn q r = true → r.stale = false →
    (castRay r.ch r.inst (s.dev.rd (Reg.RAS_TRAV_LIMIT_seq_steps r.ch)) (blockRoot r.words) (blockRay r.words)).run (found s) = (.ok e, d1) →
    (rayWords e).run (d1.noteRay r.ch r.inst e) = (.ok ws, d2) →
    Gives (.rayQueryEnd q k) s (fun d => (d.seq q).rayq k = none ∧ (d.seq q).sevent = (d2.seq q).sevent ||| 2 ^ (evRay + k)
      ∧ (∀ j, j < ws.length → (d.seq q).dword (r.block / 4 + 20 + j) = ws.getD j 0#32) ∧ d.csr = d2.csr ∧ d.mems = d2.mems
      ∧ (∀ p, p ≠ q → d.seq p = s.dev.seq p) ∧ (∀ j, j ≠ k → (d.seq q).rayq j = (s.dev.seq q).rayq j)
      ∧ (∀ n, (d.seq q).gr n = (s.dev.seq q).gr n) ∧ (d.seq q).pc = (s.dev.seq q).pc))
  ∧ (∀ (s : State) (c : Nat) (value : Word), Becomes (.rasPinLoad c value) s ((found s).pinLoad c value))
  ∧ (∀ (s : State) (h : Nat), s.dev.hasLead h = true → (s.dev.head h).rpj = none →
    (s.dev.leadValid h = false → Gives (.rpjLeadPoint h) s (fun d =>
      d.on (Reg.RAS_RPJ_STAT_cfg_err (h / 2) (h % 2)) = true ∧ OnlyRegs s.dev d
        ∧ RegsBut s.dev d [(Reg.RAS_RPJ_STAT_cfg_err (h / 2) (h % 2)).addr]))
    ∧ (s.dev.leadValid h = true → Becomes (.rpjLeadPoint h) s
        ((((found s).atClock (s.dev.leadAt h)).leadPoint h).rpjKick (h / 2))))
  ∧ ∀ (s : State) (h after t : Nat) (r : RpjPass), (s.dev.head h).rpj = some r → r.start = some t →
    let l := layerOf r.words
    let n := clusterCount (s.dev.rpjOn (h / 2) r)
    0 < n → 2000 + ceilDiv (l.w * l.h) n ≤ after → t + after < s.dev.cutoffAt h →
    Becomes (.rpjPassEnd h after) s (((((found s).atClock (t + after)).rpjFinish h r).showRpj (h / 2)).rpjKick (h / 2))

namespace Sys2Proof.Claims

/-- A fault record of this beat with a class, a cause and a unit waits for the next beat edge (R365). -/
def Recorded (d : Device) (cls cause unit : Nat) : Prop :=
  ∃ r ∈ d.flt.raised, r.cls = cls ∧ r.cause = cause ∧ r.unit = unit

/-- Field `f` is set, and no other register changes; nothing else of the device changes. -/
def SetsOnly (s : State) (d : Device) (f : Fld) : Prop := d.on f = true ∧ OnlyRegs s.dev d ∧ RegsBut s.dev d [f.addr]

/-- Field `f` takes value `v`, and no other register changes; nothing else of the device changes. -/
def SetsTo (s : State) (d : Device) (f : Fld) (v : Nat) : Prop := d.rd f = v ∧ OnlyRegs s.dev d ∧ RegsBut s.dev d [f.addr]

/-- A write of register `a` by agent `ag` reaches the register interface at once (R410, R414, R476): the offset lies in the map, the
device runs, the agent's access reaches the block, and no posted block takes it. -/
def Reaches (s : State) (a : Nat) : Prop :=
  a < 0x4000000 ∧ a % 4 = 0 ∧ s.dev.reaches a = true ∧ s.dev.rd Reg.PWR_STATE_state = 0 ∧ s.dev.pwr.target = none

/-- The check of the commit at the front of head `h`: the device at its end, whether it is late for the coming frame, and its result. -/
def checked (s : State) (h : Nat) (c : Commit) (cs : List Commit) : Device × (Bool × Nat) × (Nat × Bool) :=
  let d := ((found s).atClock c.due).modHead h (fun x => { x with checks := cs })
  (d, d.lateFor h c.due, d.checkCode h c (d.lateFor h c.due).1)

/-- The pending set of head `h` that a commit lands in: of the coming frame, or of the frame after it when it is late (R42, R162). -/
def pendSet (d : Device) (h : Nat) (late : Bool) : List Pend := if late then (d.head h).after else (d.head h).coming

/-- Head `h` shows frames (R188 to R190). -/
def Shows (s : State) (h : Nat) : Prop :=
  h < 8 ∧ s.dev.on (Reg.HEAD_STATUS_running h) = true ∧ s.dev.on (Reg.HEAD_STATUS_restarting h) = false

end Sys2Proof.Claims

/-! ### The beat -/

/-- Clocks and the beat registers (R19, R20, R22, R45, R353): a loss of AMCLK enters holdover, which ends with the clock good again; the
period of a coming beat, and the capture of BEAT_NOW. -/
def Obligations.BeatRegisters : Prop :=
  ∀ s : State,
    let up := s.dev.rd Reg.GLB_BOOT_phase ≠ 0
    (up → s.dev.beat.clockGood = true → Gives .amclkLost s (fun d =>
      d.on Reg.BEAT_STATUS_holdover = true ∧ d.on Reg.BEAT_STATUS_amclk_lost = true ∧ d.beat.clockGood = false ∧ Recorded d 0x07 1 0
        ∧ SameMem s d))
    ∧ Gives .holdoverExit s (fun d => d.beat = { s.dev.beat with clockGood := true } ∧ d.csr = s.dev.csr ∧ SameMem s d)
    ∧ (up → s.dev.boot.refclk = true → Gives .refclkLost s (fun d =>
        d.boot.refclk = false ∧ d.boot.stopped = true ∧ d.phase = 0 ∧ d.released = false
          ∧ d = { ((found s).logNow (fault 0x07 2 0 0)).stopDevice with boot := d.boot }))
    ∧ (up → Gives (.pllUnlock none) s (fun d => Recorded d 0x07 3 0 ∧ d = (found s).resetFclk.raise (fault 0x07 3 0 0))
        ∧ ∀ c, c < 4 → Gives (.pllUnlock (some c)) s (fun d =>
            Recorded d 0x07 3 c ∧ d = ((found s).channelReset c).raise (fault 0x07 3 (Reg.RAS_STATUS c) c)))
    ∧ (∀ (ag : Agent) (v : Word), s.dev.mayWrite ag Reg.BEAT_PERIOD = true → s.dev.mode = .native → s.dev.followsWeft = false →
        let n := v.toNat % 256
        (n < 12 ∨ 192 < n → Gives (.beatPeriodWrite ag v) s (fun d => SetsOnly s d Reg.BEAT_STATUS_bad_period))
        ∧ (12 ≤ n → n ≤ 192 → Gives (.beatPeriodWrite ag v) s (fun d =>
            d.rd Reg.BEAT_PERIOD_samples = n ∧ RegsBut s.dev d [Reg.BEAT_PERIOD]
              ∧ d.beat = (if s.dev.fallow then { s.dev.beat with afterSamples := some n } else { s.dev.beat with nextSamples := some n }))))
    ∧ Gives .beatNowRead s (fun d => d.out = [.data (s.dev.beatTime % 2 ^ 32)]
        ∧ d.reg Reg.BEAT_NOW_HI = BitVec.ofNat 32 (s.dev.beatTime / 2 ^ 32) ∧ RegsBut s.dev d [Reg.BEAT_NOW_HI])

/-- The beat edge (R12, R23 to R25, R27, R35, R48): the number, the lengths and the fallow window that it leaves, and the passes that
start or are skipped at its tick 136. -/
def Obligations.BeatEdge : Prop :=
  (∀ (s : State) (ticks arrived : Nat) (ins : List (Nat × List Nat)) (bad : List Nat), s.dev.rd Reg.GLB_BOOT_phase ≠ 0 →
    s.dev.edgeFits ticks = true → Becomes (.beatEdge ticks arrived ins bad) s ((found s).beatEdge ticks arrived ins bad)
      ∧ Gives (.beatEdge ticks arrived ins bad) s (fun d =>
          d.beat.started = true ∧ (s.dev.beat.started = false → d.beat.sbeat = 0)
            ∧ (s.dev.beat.started = true → s.dev.linkEdge = none → d.beat.sbeat = s.dev.beat.sbeat + 1)
            ∧ (s.dev.rd Reg.PWR_STATE_state = 0 → s.dev.flt.lostCompute = false → d.beat.grants = true)))
  ∧ (∀ (d : Device) (ticks : Nat), d.linkEdge = none →
    (d.edgePlace ticks).1 = d.beat.clock - d.beat.stick + ticks ∧ (d.edgePlace ticks).2.1 = none
      ∧ (d.beat.samples * 50000 = ticks * 3 → d.edgeFits ticks = true)
      ∧ (d.beat.started = true → d.exitsHoldover = false → d.edgeFits ticks = true →
          d.beat.samples * 16600 ≤ ticks + 1 ∧ ticks ≤ d.beat.samples * 16734 + 1))
  ∧ (∀ (d : Device) (e : Nat) (regular : Bool),
    let n := d.edgeNumber e none regular
    let len := e - (d.beat.clock - d.beat.stick)
    n.beat.sbeat = (if d.beat.started then d.beat.sbeat + 1 else 0) ∧ n.beat.started = true ∧ n.beat.stick = max 40 (d.beat.clock - e)
      ∧ n.beat.clock = e + max 40 (d.beat.clock - e)
      ∧ n.beat.grants = false
      ∧ (d.beat.started = true → n.rd Reg.BEAT_LAST_TICKS_ticks = min 0x3FFFFF len)
      ∧ (d.beat.started = true → regular = true → n.beat.tRef = len ∧ n.beat.sRef = d.beat.samples)
      ∧ (d.mode = .native → n.beat.samples = d.beat.nextSamples.getD d.beat.samples)
      ∧ n.rd Reg.BEAT_PRED_ticks = n.beat.tRef * n.beat.samples / max 1 n.beat.sRef % 2 ^ 22
      ∧ n.rd Reg.BEAT_FALLOW_start = (n.beat.tRef * n.beat.samples / max 1 n.beat.sRef - 32000) % 2 ^ 22)
  ∧ ∀ (d : Device) (q : Nat),
    (d.passReady q = true →
      let x := (d.edgePass q).seq q
      x.running = true ∧ x.spass = 0 ∧ x.overrun = none ∧ x.inTrap = false ∧ x.sbudget = d.effBudget q
        ∧ x.pc = (if (d.seq q).fresh = true ∧ (d.seq q).entries.2 ≠ 0 then (d.seq q).entries.2 else (d.seq q).entries.1)
        ∧ x.z = false ∧ x.n = false ∧ x.c = false ∧ x.v = false ∧ x.g = (d.seq q).g ∧ x.sevent = (d.seq q).sevent)
    ∧ ((d.seq q).running = true → q ≠ 4 → d.rdAct (Reg.BEAT_SQ_BUDGET_policy q) = 0 →
        (d.edgePass q).rd (Reg.BEAT_SQ_OVR_skipped q) = min (Reg.BEAT_SQ_OVR_skipped q).max (d.rd (Reg.BEAT_SQ_OVR_skipped q) + 1)
          ∧ (d.edgePass q).seq q = d.seq q)

/-! ### Heads, compositors and ports -/

/-- The check of a commit (R42, R44, R162 to R165): a commit that fails leaves both pending sets and gives a receipt with its result; one
that passes lands every group in the pending set of its frame and gives a receipt with that frame. -/
def Obligations.CommitChecks : Prop :=
  ∀ (s : State) (h : Nat) (c : Commit) (cs : List Commit), (s.dev.head h).checks = c :: cs →
    let k := checked s h c cs
    let late := k.2.1.1
    let code := k.2.2.1
    (code ≠ 0 → c.flip = none → Gives (.commitCheckEnd h) s (fun d =>
      (d.head h).checks = cs ∧ (d.head h).coming = (s.dev.head h).coming ∧ (d.head h).after = (s.dev.head h).after
        ∧ Recorded d 0x0B 4 h
        ∧ ∃ r, (d.cmp (h / 2)).receipts = (s.dev.cmp (h / 2)).receipts ++ [r] ∧ r.commit = c.id ∧ r.result = code ∧ r.groups = 0))
    ∧ (code = 0 → (c.sets.map (·.1)).Nodup → Gives (.commitCheckEnd h) s (fun d =>
        (∀ g ∈ c.sets, g.1 ≠ 0 → ∃ p ∈ pendSet d h late, p.group = g.1 ∧ p.words = g.2 ∧ p.commit = c.id)
          ∧ ∃ r ∈ (d.cmp (h / 2)).receipts, r.commit = c.id ∧ r.result = 0 ∧ r.groups = c.groups
              ∧ r.frame = ((s.dev.head h).frame + (if late then 2 else 1)) % 2 ^ 48))

/-- The frame of a head (R183, R184, R187 to R190, R193, R197): cut-off, Adaptive-Sync, latch line, start, restart, and the commands on
its registers. -/
def Obligations.HeadFrames : Prop :=
  (∀ (s : State) (h : Nat), Shows s h →
    ((s.dev.head h).cut = false → s.dev.vrrHolds h = false → Gives (.headCutoff h) s (fun d =>
      (d.head h).cut = true ∧ (d.head h).rpj = none ∧ (d.head h).coming = (s.dev.head h).coming
        ∧ d.beat.clock = max s.dev.beat.clock (s.dev.cutoffAt h) ∧ SameMem s d))
    ∧ ((s.dev.head h).cut = false → s.dev.vrrHolds h = true → Gives (.vrrLineInsert h) s (fun d =>
        d.head h = { s.dev.head h with extra := (s.dev.head h).extra + 1 }
          ∧ d.beat.clock = max s.dev.beat.clock (s.dev.cutoffAt h) ∧ d.csr = s.dev.csr ∧ SameMem s d))
    ∧ ((s.dev.head h).cut = true → Becomes (.headLatchLine h) s (((found s).atClock (s.dev.latchAt h)).latch h false)))
  ∧ (∀ (s : State) (h after : Nat), h < 8 →
    ((s.dev.head h).starting = true → s.dev.on (Reg.HEAD_STATUS_running h) = false → after ≤ 1600 →
      let e := (found s).atClock ((s.dev.head h).checkEnd + after)
      (e.startCode h = 0 → Becomes (.headStart h after) s (e.latch h true))
      ∧ (e.startCode h = 1 → Gives (.headStart h after) s (fun d =>
          d.running h = false ∧ d.on (Reg.HEAD_STATUS_timing_bad h) = true ∧ (d.head h).starting = false
            ∧ (d.head h).coming = (s.dev.head h).coming.filter (fun p => p.group != 0) ∧ (d.head h).frame = (s.dev.head h).frame
            ∧ SameMem s d)))
    ∧ (s.dev.on (Reg.HEAD_STATUS_restarting h) = true → after ≤ 80000 → Gives (.headClockLocked h after) s (fun d =>
        d.on (Reg.HEAD_STATUS_restarting h) = false ∧ (d.head h).base = (s.dev.head h).base - 80000 + after
          ∧ (d.head h).lines = 0 ∧ SameMem s d)))
  ∧ (∀ (s : State) (h : Nat), h < 8 →
    Gives (.timingChk h) s (fun d =>
      d.on (Reg.HEAD_TIMING_CHK_done h) = true ∧ d.rd (Reg.HEAD_TIMING_CHK_result h) = s.dev.timingCode h (s.dev.shadowTiming h)
        ∧ RegsBut s.dev d [Reg.HEAD_TIMING_CHK h] ∧ OnlyRegs s.dev d)
    ∧ Gives (.clearFallback h) s (fun d => d.head h = { s.dev.head h with clearFall := true } ∧ d.csr = s.dev.csr
        ∧ ∀ k, k ≠ h → d.head k = s.dev.head k)
    ∧ Gives (.clearBlank h) s (fun d => d.head h = { s.dev.head h with clearBlank := true } ∧ d.csr = s.dev.csr
        ∧ ∀ k, k ≠ h → d.head k = s.dev.head k)
    ∧ Gives (.headFrameRead h false) s (fun d => d.out = [.data (s.dev.reg (Reg.HEAD_FRAME_LO h)).toNat]
        ∧ d.reg (Reg.HEAD_FRAME_HI h) = BitVec.ofNat 32 ((s.dev.head h).frame / 2 ^ 32) ∧ RegsBut s.dev d [Reg.HEAD_FRAME_HI h])
    ∧ Gives (.headFrameRead h true) s (fun d => d.out = [.data (s.dev.reg (Reg.HEAD_FLIP_LO h)).toNat]
        ∧ d.reg (Reg.HEAD_FLIP_HI h) = BitVec.ofNat 32 ((s.dev.head h).flip / 2 ^ 32) ∧ RegsBut s.dev d [Reg.HEAD_FLIP_HI h]))
  ∧ ∀ (s : State) (tick : Nat), Gives (.genlockInPulse tick) s (fun d =>
      d.disp.genlock = some d.beat.clock ∧ d.beat.stick = max s.dev.beat.stick tick ∧ d.csr = s.dev.csr ∧ SameMem s d)

/-- Lines, checks and records of a compositor (R172 to R176, R192, R194, R358). -/
def Obligations.CompositorEvents : Prop :=
  (∀ (s : State) (h y : Nat), s.dev.nextLine h = some y →
    let e := (found s).blendLine h y
    Gives (.composeLine h) s (fun d => d = e.1.sendLine h y e.2 ∧ (d.head h).line = y + 1
      ∧ (∀ p ∈ e.1.senders h, ∃ row, Out.pixels p row ∈ d.out ∧ row.length = e.2.length)
      ∧ ∀ p row, Out.pixels p row ∈ d.out → p ∈ e.1.senders h)
    ∧ ∀ col, col < (s.dev.activeSize h).1 → Gives (.underrun h col) s (fun d => (d.head h).line = y + 1 ∧ (d.head h).under = true
      ∧ ((s.dev.head h).under = false → Recorded d 0x0C 1 h)))
  ∧ (∀ (s : State) (h : Nat), h < 8 → (s.dev.head h).wb = true → (s.dev.activeSize h).2 ≤ (s.dev.head h).line →
    Gives (.writebackFrameDone h) s (fun d => d.on (Reg.CMP_WB_STAT_done h) = true
      ∧ d.reg (Reg.CMP_WB_FRAME h) = BitVec.ofNat 32 (s.dev.head h).frame ∧ (d.head h).wb = false
      ∧ (s.dev.rdAct (Reg.CMP_WB_CFG_mode h) = 1 → d.rd (Reg.CMP_WB_CFG_mode h) = 0 ∧ d.rdAct (Reg.CMP_WB_CFG_mode h) = 0)
      ∧ SameMem s d))
  ∧ (∀ (s : State) (h k : Nat), h < 8 → k < 20 → s.dev.rectReady h k = true →
    let r := s.dev.rect h k
    let v := crcEnd 32 true 0xFFFFFFFF (tget (fun _ => 0xFFFFFFFF) (s.dev.head h).crcs k)
    Becomes (.rectCheckResult h k) s (((found s).rectDecide h k).closeDue h)
    ∧ (s.dev.beat.clock < s.dev.vactiveAt h → Becomes (.rectCheckResult h k) s ((found s).rectDecide h k))
    ∧ (s.dev.beat.clock < s.dev.vactiveAt h → k < 16 → s.dev.legacyHead h = false → v = r.exp → Gives (.rectCheckResult h k) s (fun d =>
        d.on (Reg.HEAD_RC_STAT_mismatch h k) = false ∧ d.rd (Reg.HEAD_RC_STAT_run h k) = 0 ∧ RegsBut s.dev d [Reg.HEAD_RC_STAT h k]))
    ∧ (k < 16 → s.dev.legacyHead h = false → v ≠ r.exp → Gives (.rectCheckResult h k) s (fun d =>
        d.on (Reg.HEAD_RC_STAT_mismatch h k) = true
          ∧ d.rd (Reg.HEAD_RC_STAT_count h k) = min (Reg.HEAD_RC_STAT_count h k).max (s.dev.rd (Reg.HEAD_RC_STAT_count h k) + 1))))
  ∧ (∀ (s : State) (c : Nat), c < 4 → Gives (.compositorWatchdog c) s (fun d =>
    (d.head (2 * c)).gOnly = true ∧ (d.head (2 * c + 1)).gOnly = true ∧ Recorded d 0x06 4 c ∧ SameMem s d))
  ∧ ∀ (s : State) (c i : Nat),
    (takeRec i (s.dev.cmp c).recs = none → Gives (.retireRecordWrite c i) s (fun d => d = found s))
    ∧ ∀ r rest d1, takeRec i (s.dev.cmp c).recs = some (r, rest) → (found s).writeRet c r = (true, d1) →
      Gives (.retireRecordWrite c i) s (fun d => (d.cmp c).recs = rest ∧ d.mems = d1.mems)

/-- A take (R166): what it finds, and what it does with a FLIP item whose groups belong to the instance. -/
def Obligations.Takes : Prop :=
  ∀ (s : State) (h i n : Nat),
    ((s.dev.head h).taken.isSome = true → Gives (.take h i n) s (fun d =>
      d.on (Reg.CMP_TAKE_STAT_done h) = true ∧ d.rd (Reg.CMP_TAKE_STAT_result h) = 2 ∧ d.rd (Reg.CMP_TAKE_STAT_mask h) = 0
        ∧ d.q = s.dev.q ∧ RegsBut s.dev d [Reg.CMP_TAKE_STAT h]))
    ∧ ((s.dev.head h).taken = none → s.dev.queueHead i n = none → Gives (.take h i n) s (fun d =>
        d.on (Reg.CMP_TAKE_STAT_done h) = true ∧ d.rd (Reg.CMP_TAKE_STAT_result h) = 1 ∧ d.rd (Reg.CMP_TAKE_STAT_mask h) = 0
          ∧ d.q = s.dev.q ∧ RegsBut s.dev d [Reg.CMP_TAKE_STAT h]))
    ∧ ∀ x bs d1, (s.dev.head h).taken = none → s.dev.queueHead i n = some x → x.cls = 3 → x.pay 0x20 4 = h → s.dev.instState i ≠ 4 →
        s.dev.mayStart x = true → (∀ g ∈ groupsOf (x.pay 0x24 4), g = 0 ∨ s.dev.layerOwner h (g - 1) = some i) →
        (found s).read (.inst i) (h / 2) (x.pay 0x28 8) (32 * (groupsOf (x.pay 0x24 4)).length) = (.ok bs, d1) →
        Gives (.take h i n) s (fun d =>
          d.on (Reg.CMP_TAKE_STAT_done h) = true ∧ d.rd (Reg.CMP_TAKE_STAT_result h) = 0
            ∧ d.rd (Reg.CMP_TAKE_STAT_mask h) = x.pay 0x24 4 % 2 ^ 18 ∧ (d.head h).taken = some x.uid ∧ d.mems = d1.mems)

/-- Ports (R198 to R200, R371): an apply waits for the ports' domain; a port that is off carries nothing; a link that fits and trains
carries the streams it names; a lost link, and the pulse of HPD. -/
def Obligations.PortCommands : Prop :=
  ∀ (s : State) (p : Nat), p < 8 → s.dev.flt.lostCompute = false →
    (∀ sink, s.dev.rd (Reg.PWR_DOM_state 6) ≠ 2 → Gives (.dpApply p sink) s (fun d =>
      d.on (Reg.DP_STATUS_done p) = false ∧ (d.port p).wait = some sink ∧ (d.port p).streams = (s.dev.port p).streams
        ∧ RegsBut s.dev d [Reg.DP_STATUS p]))
    ∧ (∀ sink, s.dev.rd (Reg.PWR_DOM_state 6) = 2 → s.dev.on (Reg.DP_CTL_enable p) = false → Gives (.dpApply p sink) s (fun d =>
        d.on (Reg.DP_STATUS_done p) = true ∧ d.on (Reg.DP_STATUS_trained p) = false ∧ (d.port p).streams = [none, none, none, none]))
    ∧ (∀ sink r, s.dev.rd (Reg.PWR_DOM_state 6) = 2 → s.dev.on (Reg.DP_CTL_enable p) = true →
        linkRate (s.dev.on (Reg.DP_CTL_edp p)) (s.dev.rd (Reg.DP_CTL_rate p)) = some r →
        let code := s.dev.rd (Reg.DP_CTL_rate p)
        let fit := fitsLink (s.dev.needs (s.dev.namedStreams p)) r (laneCount (s.dev.rd (Reg.DP_CTL_lanes p)))
          (decide (4 ≤ code) && decide (code ≤ 6)) (s.dev.on (Reg.DP_CTL_mst p) && !s.dev.on (Reg.DP_CTL_edp p))
        (fit = false → Gives (.dpApply p sink) s (fun d =>
          d.on (Reg.DP_STATUS_done p) = true ∧ d.on (Reg.DP_STATUS_bw_err p) = true
            ∧ (d.port p).streams = (s.dev.port p).streams))
        ∧ (fit = true → sink.trains = true → sink.present = true → Gives (.dpApply p sink) s (fun d =>
            d.on (Reg.DP_STATUS_done p) = true ∧ d.on (Reg.DP_STATUS_trained p) = true ∧ d.on (Reg.DP_STATUS_hpd p) = true
              ∧ (d.port p).streams = s.dev.namedStreams p)))
    ∧ (∀ hpd, s.dev.on (Reg.DP_STATUS_trained p) = true ∨ hpd = true → Gives (.dpLinkLost p hpd) s (fun d =>
        d.on (Reg.DP_STATUS_trained p) = false ∧ d.on (Reg.DP_STATUS_link_lost p) = true ∧ Recorded d 0x0C 4 p
          ∧ (hpd = true → d.on (Reg.DP_STATUS_hpd p) = false) ∧ SameMem s d))
    ∧ Gives (.hpdIrq p) s (fun d => d.on (Reg.DP_STATUS_hpd_irq p) = true ∧ d.on (Reg.DP_STATUS_hpd p) = true
        ∧ OnlyRegs s.dev d ∧ RegsBut s.dev d [Reg.DP_STATUS p])

/-! ### The register interface -/

/-- Host writes (R409 to R412, R414, R415): a partial write changes nothing and shows in width; a hole shows in hole; a posted block takes
one write and drops the next; any other write takes effect at once, and through an alias only by the bits written. A virtual function
writes its queue page and its MSI-X table, and nothing else (R293). -/
def Obligations.HostWrites : Prop :=
  (∀ (s : State) (i a : Nat) (v : Word), 1 ≤ i → i ≤ 31 → s.dev.phase = 5 → s.dev.hostUp = true →
    s.dev.rd Reg.PWR_STATE_state = 0 → s.dev.pwr.target = none → a % 4 = 0 →
    (a < 0x1000 → Becomes (.registerWrite (.guest i) a 15 [v]) s ((found s).regWrite (.guest i) (0x610000 + i * 0x1000 + a) v))
    ∧ (0x2000 ≤ a → a < 0x2400 → Gives (.registerWrite (.guest i) a 15 [v]) s (fun d =>
        d.reg (msixReg i (a - 0x2000)) = v ∧ RegsBut s.dev d [msixReg i (a - 0x2000)] ∧ SameMem s d))
    ∧ (0x1000 ≤ a → a < 0x2000 ∨ 0x2400 ≤ a → Gives (.registerWrite (.guest i) a 15 [v]) s (fun d => d = found s)))
  ∧ ∀ (s : State) (ag : Agent) (a : Nat) (v : Word), (∀ i, ag ≠ .guest i) → Reaches s a →
    (∀ be, be % 16 ≠ 15 → Gives (.registerWrite ag a be [v]) s (fun d => SetsOnly s d Reg.GLB_STATUS_width))
    ∧ (postedOf a = none → Becomes (.registerWrite ag a 15 [v]) s ((found s).perform ag a v))
    ∧ (postedOf a = none → regExists (aliasBase a) = false →
        Gives (.registerWrite ag a 15 [v]) s (fun d => SetsOnly s d Reg.GLB_STATUS_hole))
    ∧ (postedOf a = none → regExists (aliasBase a) = true → aliasPage a = 0 → s.dev.mayWrite ag a = false →
        (a ≠ Reg.CSQ_MAIL 0 ∨ (found s).swapMail ag v = false) → a ≠ Reg.WLD_DBG →
        Gives (.registerWrite ag a 15 [v]) s (fun d => d = found s))
    ∧ (a = Reg.WLD_DBG → s.dev.mayWrite ag a = false → agentSecure ag = false → s.dev.flt.lostCompute = false →
        Gives (.registerWrite ag a 15 [v]) s (fun d => SetsTo s d Reg.SEED_LASTRES_1_rwp_n resDenied))
    ∧ (∀ k, postedOf a = some k → s.dev.flt.lostMixed = true → Gives (.postedWrite ag a v) s (fun d => d = found s))
    ∧ (∀ k, postedOf a = some k → s.dev.flt.lostMixed = false → s.dev.busy k = false → Gives (.postedWrite ag a v) s (fun d =>
        d.postedAt k = some { agent := ag, addr := a, value := v } ∧ d.busy k = true ∧ SameMem s d
          ∧ RegsBut s.dev d [Reg.GLB_BUSY, Reg.PWR_BUSY, Reg.SEED_BUSY, Reg.AUD_BUSY, Reg.TCH_BUSY, Reg.HAP_BUSY]))
    ∧ (∀ k, postedOf a = some k → s.dev.flt.lostMixed = false → s.dev.busy k = true → Gives (.postedWrite ag a v) s (fun d =>
        d.on Reg.GLB_STATUS_post_drop = true ∧ d.rd Reg.GLB_POSTERR_block = k ∧ d.posted = s.dev.posted ∧ SameMem s d
          ∧ RegsBut s.dev d [Reg.GLB_STATUS, Reg.GLB_POSTERR]))
    ∧ (∀ k p, s.dev.postedAt k = some p → Becomes (.postedWriteDone k) s
        (Device.servePosted ((Device.perform { s.dev with out := [], posted := tset (fun _ => none) s.dev.posted k none }
          p.agent p.addr p.value).showBusy) k))
    ∧ (∀ r, postedOf a = none → aliasPage a = 0 → findRow a = some r → isWindow a = false → s.dev.mayWrite ag a = true →
        inImem a = false → r.rw ||| r.rws ||| r.rwb ≠ 0 → (∀ j, j < 4 → s.dev.reaches (a + j * 0x40000) = true) →
        let m := r.rw ||| r.rws ||| r.rwb
        let old := (s.dev.reg a).toNat
        Becomes (.setAlias ag a v) s ((found s).regEffect ag a (BitVec.ofNat 32 ((old ||| v.toNat) &&& m)))
        ∧ Becomes (.clearAlias ag a v) s ((found s).regEffect ag a (BitVec.ofNat 32 ((old &&& (0xFFFFFFFF ^^^ v.toNat)) &&& m)))
        ∧ Becomes (.toggleAlias ag a v) s ((found s).regEffect ag a (BitVec.ofNat 32 ((old ^^^ v.toNat) &&& m))))

/-- Guarded writes of GLB_RST by the manager (R417, R418), and reads and writes through BAR4, which wait while the device sleeps
(R379, R424). -/
def Obligations.GuardedAndWindowed : Prop :=
  ∀ s : State,
    (Reaches s Reg.GLB_RST → s.dev.guards.find? (fun g => g.addr == Reg.GLB_RST) = none → ∀ v : Word,
      Gives (.guardedWrite .manager v none) s (fun d =>
        d.guards = s.dev.guards ++ [{ agent := .manager, addr := Reg.GLB_RST, value := v }] ∧ d.csr = s.dev.csr ∧ SameMem s d)
      ∧ Becomes (.guardedWrite .manager v (some (~~~v))) s ((found s).commitRst false v.toNat)
      ∧ (∀ w, w ≠ ~~~v → Gives (.guardedWrite .manager v (some w)) s (fun d => SetsOnly s d Reg.GLB_STATUS_guard_abort))
      ∧ Gives (.guardTwinWrite .manager v) s (fun d => SetsOnly s d Reg.GLB_STATUS_guard_abort))
    ∧ (s.dev.guards ≠ [] → Gives .guardTimeout s (fun d =>
        d.guards = s.dev.guards.drop 1 ∧ d.on Reg.GLB_STATUS_guard_abort = true ∧ SameMem s d))
    ∧ (∀ (o n : Nat) (data : Option (List Byte)), s.dev.lpwUp = true → o < 2 ^ 30 → s.dev.inWindow o = false → s.dev.asleep = true →
        Gives (.lpwAccess o n data) s (fun d => d.pwr.heldTlp = s.dev.pwr.heldTlp ++ [.bar4 o n data] ∧ d.mems = s.dev.mems ∧ d.out = []))
    ∧ ∀ o n : Nat, s.dev.lpwUp = true → o < 2 ^ 30 → s.dev.on (Reg.WFT_WIN_CFG_enable (o / 2 ^ 26)) = false → s.dev.asleep = false →
        let pa := s.dev.rd Reg.GLB_LPW_BASE_base * 2 ^ 30 + o
        (s.dev.capacity ≤ pa → Gives (.lpwAccess o n none) s (fun d =>
          d.out = [.bytes (List.replicate n 0xFF#8)] ∧ d.on Reg.GLB_STATUS_lpw_range = true ∧ SameMem s d)
          ∧ ∀ bs, Gives (.lpwAccess o n (some bs)) s (fun d => SetsOnly s d Reg.GLB_STATUS_lpw_range))
        ∧ (pa < s.dev.capacity → ∀ bs d1, (found s).read .phys 8 pa n = (.ok bs, d1) →
            Becomes (.lpwAccess o n none) s (d1.emit (.bytes bs)))
        ∧ (pa < s.dev.capacity → ∀ bs d1, (found s).write .phys 8 pa bs = (.ok (), d1) → Becomes (.lpwAccess o n (some bs)) s d1)

/-! ### Touch and haptics -/

/-- Touch front ends (R205, R207, R208, R210, R214 to R217): the start of one, its calibration, a frame with the lines that its chips
tell apart, the hold limit and the stores. -/
def Sys2Proof.Claims.TouchCommands : Prop :=
  (∀ (s : State) (n : Nat), n < 4 →
    let x := s.dev.front n
    let cfg := s.dev.frontRegs n
    (s.dev.on (Reg.TCH_CFG_enable n) = true → s.dev.gangedUpper n = false → s.dev.rd (Reg.PWR_DOM_state 9) = 2 → x.phase = 0 →
      Gives (.tchEnable n) s (fun d =>
        d.front n = { Front.reset with phase := 1, cfg := cfg, snap := cfg, lastStore := x.lastStore }
          ∧ d.on (Reg.TCH_STATUS_ready n) = false ∧ d.rd (Reg.TCH_STATUS_freq n) = 0 ∧ SameMem s d
          ∧ RegsBut s.dev d (if n % 2 = 0 then [Reg.TCH_STATUS n, Reg.TCH_STATUS (n + 1)] else [Reg.TCH_STATUS n])
          ∧ (bitOn (cfg.getD 0 0#32).toNat 30 = true → n % 2 = 0 → (d.front (n + 1)).phase = 0)))
    ∧ (∀ cal : TouchCal, x.phase = 1 →
        (∀ p, s.dev.touchImage n = some p → Gives (.touchReady n cal) s (fun d =>
          d.front n = { x.load n p with phase := 2, began := s.dev.beat.clock } ∧ d.on (Reg.TCH_STATUS_ready n) = true ∧ RegsBut s.dev d [Reg.TCH_STATUS n]))
        ∧ (s.dev.touchImage n = none → (cal.base.map (·.1)).Nodup → (cal.comp.map (·.1)).Nodup →
            Gives (.touchReady n cal) s (fun d =>
              d.on (Reg.TCH_STATUS_ready n) = true ∧ (calSat cal (x.cols n) = true → d.on (Reg.TCH_STATUS_comp_sat n) = true) ∧ (d.front n).phase = 2
                ∧ (∀ p ∈ cal.base, tget (fun _ => 0) (d.front n).base p.1 = p.2)
                ∧ (∀ p ∈ cal.comp, tget (fun _ => 0) (d.front n).comp p.1 = p.2 % 64) ∧ RegsBut s.dev d [Reg.TCH_STATUS n])))
    ∧ (∀ (m : TouchFrame) (tick : Nat), x.phase = 2 → x.endsAt (s.dev.frameEnd m tick) m.lag = true →
        Becomes (.touchFrameEnd n m tick) s
          ((((found s).modFront n (fun x => { x with began := s.dev.frameEnd m tick })).atTick tick).touchFrame n m))
    ∧ (∀ id c, x.contacts.find? (fun c => c.id == id && !c.stuck && c.due.isEmpty) = some c → Gives (.contactHoldExpire n id) s (fun d =>
        d.on (Reg.TCH_STATUS_stuck n) = (d.front n).contacts.any (fun y => y.stuck && !y.absorbed)
          ∧ (d.front n).contacts = x.contacts.map (fun y =>
              if y.id = id then { y with stuck := true, due := if bitOn (x.w 0) 28 then [3, 4] else [3] } else y)
          ∧ (bitOn (x.w 0) 28 = false → (d.front n).base = x.base)
          ∧ d.beat.clock = max s.dev.beat.clock (c.start + max 60 (s.dev.rd Reg.TCH_HOLD_LIMIT_seconds) * 800000000)))
    ∧ (x.phase = 2 → bits (x.w 8) 7 0 ≠ 0 →
        Gives (.baselineStoreTimer n) s (fun d => d.front n = { x with storeDue := true } ∧ d.csr = s.dev.csr ∧ SameMem s d))
    ∧ (∀ t, x.lastStore = some t →
        (s.dev.beat.clock < t + 48000000000 → Gives (.tchStoreNow n) s (fun d => SetsOnly s d (Reg.TCH_STATUS_store_refused n)))
        ∧ (t + 48000000000 ≤ s.dev.beat.clock →
            Gives (.tchStoreNow n) s (fun d => d.front n = { x with storeDue := true } ∧ d.csr = s.dev.csr)))
    ∧ (x.lastStore = none → Gives (.tchStoreNow n) s (fun d => d.front n = { x with storeDue := true } ∧ d.csr = s.dev.csr)))
  ∧ (∀ (m : TouchFrame) (step sense : Nat) (raw : Nat → Int),
      (∀ c, c < 4 → chipCount m step c sense = walsh 0 c * raw 0 + walsh 1 c * raw 1 + walsh 2 c * raw 2 + walsh 3 c * raw 3) →
      ∀ j, j < 4 → nodeRaw m step j sense = raw j)
  ∧ ∀ (cols touch release : Nat) (swap : Bool) (mapX mapY : Nat) (delta : List (Nat × Int)),
      (findContacts cols touch release swap mapX mapY delta).length ≤ 10
        ∧ ∀ c ∈ findContacts cols touch release swap mapX mapY delta, (touch : Int) ≤ c.peak ∧ c.peak ∈ delta.map (·.2) ++ [0]

/-- Relaxation channels and trigger pins (R221, R222, R232): the count and the state of a gate, the hold limits, and an edge. -/
def Sys2Proof.Claims.ButtonsAndTriggers : Prop :=
  ∀ (s : State) (n : Nat), n < 8 → s.dev.flt.lostMixed = false →
    let x := s.dev.relaxCh n
    let even := n - n % 2
    let run := s.dev.rd Reg.PWR_STATE_state = 0 ∧ s.dev.pwr.target = none
    (∀ count tick : Nat, run → s.dev.on (Reg.RO_CFG_enable n) = true →
      (s.dev.on (Reg.RO_CFG_enable even) && s.dev.rd (Reg.RO_CFG_mode even) == 2) = false →
      let drop := (x.base.getD count - count).toNat
      let thresh := s.dev.rd (Reg.RO_CFG_thresh n)
      Gives (.roGateEnd n count tick) s (fun d =>
        d.rd (Reg.RO_STAT_count n) = min 0xFFFF count
          ∧ d.on (Reg.RO_STAT_active n) = (if s.dev.on (Reg.RO_STAT_active n) then decide (thresh ≤ 2 * drop) else decide (thresh ≤ drop))
          ∧ d.beat.stick = max s.dev.beat.stick tick ∧ SameMem s d))
    ∧ (s.dev.on (Reg.RO_STAT_active n) = true → x.heldDone = false → s.dev.on (Reg.RO_CFG_enable n) = true →
        s.dev.knobPair n = false → Gives (.roHoldExpire n) s (fun d =>
          d.on (Reg.RO_STAT_held n) = true ∧ d.relaxCh n = { x with heldDone := true }
            ∧ d.beat.clock = max s.dev.beat.clock (x.since + s.dev.rd (Reg.RO_TIME_hold n) * 800000) ∧ SameMem s d))
    ∧ (∀ rising tick,
        Gives (.trigEdge n rising tick) s (fun d => d.on (Reg.HAP_TRIG_STAT_level n) = rising)
        ∧ (s.dev.on (Reg.HAP_TRIG_CFG_enable n) = false → Gives (.trigEdge n rising tick) s (fun d =>
            RegsBut s.dev d [Reg.HAP_TRIG_STAT n] ∧ d.glass.haps = s.dev.glass.haps ∧ SameMem s d))
        ∧ (∀ c, run → s.dev.on (Reg.HAP_TRIG_CFG_enable n) = true →
            edgeSelected (s.dev.rd (Reg.HAP_TRIG_CFG_edge n)) rising = true → (s.dev.trig n).lastStart = some c →
            s.dev.beat.clock + (tick - s.dev.beat.stick) < c + s.dev.rd (Reg.HAP_TRIG_TIME_refractory n) * 800000 →
            Gives (.trigEdge n rising tick) s (fun d =>
              d.rd (Reg.HAP_TRIG_STAT_suppressed n) =
                  min (Reg.HAP_TRIG_STAT_suppressed n).max (s.dev.rd (Reg.HAP_TRIG_STAT_suppressed n) + 1)
                ∧ d.glass.haps = s.dev.glass.haps ∧ RegsBut s.dev d [Reg.HAP_TRIG_STAT n])))
    ∧ ∀ c, (s.dev.trig n).since = some c → s.dev.on (Reg.HAP_TRIG_CFG_enable n) = true → Gives (.trigHoldExpire n) s (fun d =>
        d.on (Reg.HAP_TRIG_STAT_held n) = true ∧ (d.trig n).since = none ∧ Recorded d 0x0E 3 n
          ∧ d.beat.clock = max s.dev.beat.clock (c + s.dev.rd (Reg.HAP_TRIG_TIME_hold n) * 800000) ∧ SameMem s d)

/-- Haptic bridges (R223, R224, R226, R229 to R231, R459): the ends of effects, the cuts and the rest, a sample without an effect,
and calibration. -/
def Obligations.HapticCommands : Prop :=
  (∀ (s : State) (n : Nat), n < 8 →
    let x := s.dev.hap n
    (∀ f, x.fx = some f → f.length ≤ f.pos →
      (x.queued = none → Gives (.effectEnd n) s (fun d =>
        (d.hap n).fx = none ∧ d.on (Reg.HAP_STATUS_running n) = false ∧ d.rd (Reg.HAP_STATUS_last n) = 0 ∧ SameMem s d))
      ∧ (∀ g, x.queued = some g → x.rest = none → x.splice = none → Gives (.effectEnd n) s (fun d =>
          (d.hap n).fx = some { g with bytes := s.dev.fxCopy g.index } ∧ (d.hap n).queued = none ∧ d.on (Reg.HAP_STATUS_running n) = true ∧ SameMem s d)))
    ∧ (∀ f t after, x.splice = some (f, t) → after ≤ s.dev.halfPeriod n → Gives (.spliceStart n after) s (fun d =>
        (d.hap n).fx = some { f with bytes := s.dev.fxCopy f.index } ∧ (d.hap n).splice = none ∧ d.beat.clock = max s.dev.beat.clock (t + after)
          ∧ (x.fx.isSome = true → d.rd (Reg.HAP_STATUS_last n) = 1) ∧ SameMem s d))
    ∧ (s.dev.driveLimit n ≤ x.cont → Gives (.cutTime n) s (fun d =>
        (d.hap n).rest = some s.dev.beat.clock ∧ (d.hap n).fx = none ∧ (d.hap n).queued = none ∧ (d.hap n).splice = none
          ∧ d.on (Reg.HAP_STATUS_resting n) = true ∧ (x.fx.isSome = true → d.rd (Reg.HAP_STATUS_last n) = 2) ∧ SameMem s d))
    ∧ (x.queued = none →
        Gives (.cutVolt n true) s (fun d => (d.hap n).fx = none ∧ d.on (Reg.HAP_STATUS_vhap_low n) = true ∧ SameMem s d
          ∧ (s.dev.on (Reg.HAP_STATUS_vhap_low n) = false → d.glass.vhap = false ∧ Recorded d 0x08 3 n))
        ∧ (96 ≤ x.clips → x.fx.isSome = true → Gives (.cutVolt n false) s (fun d =>
            (d.hap n).fx = none ∧ (d.hap n).clips = 0 ∧ d.rd (Reg.HAP_STATUS_last n) = 3 ∧ SameMem s d)))
    ∧ (∀ t, x.rest = some t → Gives (.restEnd n) s (fun d =>
        d.hap n = { x with rest := none } ∧ d.on (Reg.HAP_STATUS_resting n) = false ∧ RegsBut s.dev d [Reg.HAP_STATUS n]
          ∧ d.beat.clock = max s.dev.beat.clock (t + max 1 (s.dev.rdAct (Reg.HAP_LIMIT_max_ms n)) * 800000)))
    ∧ (∀ m : HapMeas, s.dev.rd (Reg.PWR_DOM_state 10) = 2 →
        Becomes (.hapSample n m) s ((found s).hapSample n m)
        ∧ (x.fx = none → x.sound = [] → x.cont < s.dev.driveLimit n → x.clips < 96 → 3000 ≤ m.vhap →
            s.dev.on (Reg.HAP_CAL_active n) = false → Gives (.hapSample n m) s (fun d =>
            d.out = [.samples (96 + n) [0]]
              ∧ d.rd (Reg.HAP_STATUS_ilim n) = min 0xFFFF
                  (s.dev.rd (Reg.HAP_STATUS_ilim n) + m.cycles.countP (fun c => decide (s.dev.currentLimit n ≤ c)))
              ∧ d.hap n = { x with cont := 0, clips := 0, dt := s.dev.heat n (min m.ma (s.dev.currentLimit n)) x.dt })))
    ∧ (s.dev.hapIdle n = true → Gives (.hapCalGo n) s (fun d => SetsOnly s d (Reg.HAP_CAL_active n)))
    ∧ (s.dev.hapIdle n = false → Gives (.hapCalGo n) s (fun d => d = found s))
    ∧ (∀ f0 q re, s.dev.on (Reg.HAP_CAL_active n) = true →
        (f0 < 500 ∨ 4000 < f0 ∨ re < 1000 ∨ 64000 < re → Gives (.hapCalDone n f0 q re) s (fun d =>
          d.on (Reg.HAP_CAL_active n) = false ∧ d.on (Reg.HAP_STATUS_cal_fail n) = true ∧ Recorded d 0x0E 1 n ∧ SameMem s d))
        ∧ (500 ≤ f0 → f0 ≤ 4000 → 1000 ≤ re → re ≤ 64000 → Gives (.hapCalDone n f0 q re) s (fun d =>
            d.on (Reg.HAP_CAL_active n) = false ∧ d.on (Reg.HAP_CAL_valid n) = true ∧ d.on (Reg.HAP_STATUS_cal_fail n) = false
              ∧ d.rd (Reg.HAP_RES_f0 n) = f0 ∧ d.rd (Reg.HAP_RES_re n) = re ∧ d.rd (Reg.HAP_RES2_q n) = min 0xFFFF q))))
  ∧ ∀ s : State, Gives .vhapGood s (fun d =>
      d.glass.vhap = true ∧ d.glass.calDue = false ∧ (∀ n, n < 8 → d.on (Reg.HAP_STATUS_vhap_low n) = false)
        ∧ (s.dev.glass.calDue = true → ∀ n, n < 8 → (s.dev.seedValue 0xFC3).testBit n = false → d.on (Reg.HAP_CAL_active n) = true)
        ∧ SameMem s d)

/-! ### Audio -/

/-- Swaps, banks, generators and ports of the audio block (R66, R245, R248, R249, R251, R253, R257, R259). -/
def Obligations.AudioCommands : Prop :=
  (∀ (s : State) (ag : Agent) (ramp : Nat), ramp < 8192 →
    let target := s.dev.rd Reg.AUD_SWAP_BEAT_beat
    let answers := fun (code : Nat) (d : Device) =>
      d.on Reg.AUD_SWAP_RES_done = true ∧ d.rd Reg.AUD_SWAP_RES_result = code ∧ d.rd Reg.AUD_SWAP_REQ_ramp = ramp
    (s.dev.maySwap ag = false → Gives (.audSwapReq ag ramp) s (fun d => answers resDenied d ∧ d.aud = s.dev.aud))
    ∧ (s.dev.maySwap ag = true → 4096 < ramp → Gives (.audSwapReq ag ramp) s (fun d => answers resInvalid d ∧ d.aud = s.dev.aud))
    ∧ (s.dev.maySwap ag = true → ramp ≤ 4096 → target = 0 →
        (s.dev.fallow = true → Gives (.audSwapReq ag ramp) s (fun d => answers resLate d ∧ d.aud = s.dev.aud))
        ∧ (s.dev.fallow = false → s.dev.aud.swap.isSome = true →
            Gives (.audSwapReq ag ramp) s (fun d => answers resBusy d ∧ d.aud = s.dev.aud))
        ∧ (s.dev.fallow = false → s.dev.aud.swap = none → Gives (.audSwapReq ag ramp) s (fun d =>
            answers resOk d ∧ d.aud.swap = some ⟨s.dev.beat.sbeat + 1, ramp, none⟩ ∧ d.on Reg.AUD_STATUS_pending = true
              ∧ d.rd Reg.AUD_SWAP_TGT_beat = (s.dev.beat.sbeat + 1) % 2 ^ 32))))
  ∧ (∀ (s : State) (n j : Nat), s.dev.aud.ramp = some (n, j) → n ≤ j → Gives .swapRampEnd s (fun d =>
      d.aud.swap = none ∧ d.aud.ramp = none ∧ d.on Reg.AUD_STATUS_pending = false ∧ RegsBut s.dev d [Reg.AUD_STATUS] ∧ SameMem s d))
  ∧ (∀ s : State,
    (s.dev.aud.swap.isSome = true → Gives .audCopy s (fun d => SetsOnly s d Reg.AUD_STATUS_bank_locked))
    ∧ (s.dev.aud.swap = none → s.dev.aud.copying = none → Gives .audCopy s (fun d =>
        d.aud = { s.dev.aud with copying := some s.dev.bank } ∧ d.on Reg.AUD_BUSY_busy = true ∧ SameMem s d))
    ∧ (∀ bk, bk ≤ 1 → s.dev.aud.copying = some bk → twf regReset s.dev.csr = true → Gives .audCopyDone s (fun d =>
        d.aud.copying = none
          ∧ (∀ i, i < 16384 → d.reg (Reg.AUD_NODE (1 - bk) i) = s.dev.reg (Reg.AUD_NODE bk i)
              ∧ d.reg (Reg.AUD_NODE bk i) = s.dev.reg (Reg.AUD_NODE bk i))
          ∧ (∀ i, i < 4096 → d.reg (Reg.AUD_SINKBLK (1 - bk) i) = s.dev.reg (Reg.AUD_SINKBLK bk i)
              ∧ d.reg (Reg.AUD_SINKBLK bk i) = s.dev.reg (Reg.AUD_SINKBLK bk i))))
    ∧ Becomes .audStore s ((found s).recordRequest ((found s).audioJob (s.dev.rd Reg.AUD_STORE_bank))))
  ∧ (∀ (s : State) (ag : Agent) (bk i : Nat) (v : Word), bk ≤ 1 →
    let locked := bk = s.dev.bank ∨ s.dev.aud.swap.isSome = true
    (i < 16384 →
      (locked → Gives (.audBankWrite ag (Reg.AUD_NODE bk i) v) s (fun d => SetsOnly s d Reg.AUD_STATUS_bank_locked))
      ∧ (¬ locked → Gives (.audBankWrite ag (Reg.AUD_NODE bk i) v) s (fun d =>
          d.reg (Reg.AUD_NODE bk i) = v ∧ OnlyRegs s.dev d ∧ RegsBut s.dev d [Reg.AUD_NODE bk i])))
    ∧ (i < 4096 →
      (locked → Gives (.audBankWrite ag (Reg.AUD_SINKBLK bk i) v) s (fun d => SetsOnly s d Reg.AUD_STATUS_bank_locked))
      ∧ (¬ locked → agentSecure ag = false → s.dev.guarded (i / 32) = true →
          Gives (.audBankWrite ag (Reg.AUD_SINKBLK bk i) v) s (fun d => d = found s))
      ∧ (¬ locked → agentSecure ag = true ∨ s.dev.guarded (i / 32) = false →
          Gives (.audBankWrite ag (Reg.AUD_SINKBLK bk i) v) s (fun d =>
            d.reg (Reg.AUD_SINKBLK bk i) = v ∧ RegsBut s.dev d [Reg.AUD_SINKBLK bk i] ∧ SameMem s d))))
  ∧ (∀ (s : State) (n : Nat) (g : Gen), n < 8 → s.dev.gen n = some g → g.done = true →
      Gives (.genFinish n) s (fun d => d.gen n = none ∧ d.on (Reg.AUD_GEN_CFG_running n) = false
        ∧ (∀ k, k ≠ n → d.gen k = s.dev.gen k) ∧ SameMem s d))
  ∧ ∀ (s : State) (p : Nat), p < 6 →
    (s.dev.on (Reg.AUD_TDM_CFG_enable p) = true → s.dev.on (Reg.AUD_TDM_CFG_role p) = true → Gives (.tdmClkLost p) s (fun d =>
      d.on (Reg.AUD_TDM_STAT_locked p) = false ∧ d.on (Reg.AUD_TDM_STAT_clk_lost p) = true ∧ Recorded d 0x0D 1 p ∧ SameMem s d))
    ∧ (s.dev.on (Reg.AUD_TDM_CFG_enable p) = true → s.dev.rd (Reg.PWR_DOM_state 8) = 2 →
        (s.dev.rd (Reg.AUD_TDM_CFG_rate p) = 1 → s.dev.on (Reg.AUD_TDM_CFG_role p) = true) →
        Gives (.tdmLock p) s (fun d => SetsOnly s d (Reg.AUD_TDM_STAT_locked p)))
    ∧ (s.dev.on (Reg.AUD_TDM_STAT_locked p) = true → s.dev.on (Reg.AUD_TDM_CFG_role p) = true →
        tdmConverts (s.dev.reg (Reg.AUD_TDM_CFG p)) = false → Gives (.tdmSlip p) s (fun d =>
          d.rd (Reg.AUD_TDM_STAT_slips p) = min (Reg.AUD_TDM_STAT_slips p).max (s.dev.rd (Reg.AUD_TDM_STAT_slips p) + 1)
            ∧ RegsBut s.dev d [Reg.AUD_TDM_STAT p] ∧ OnlyRegs s.dev d))

/-! ### Memory and copies -/

/-- The system cache and its arbiters (R262 to R266, R269, R270, R279): what an access moves, what its checks find, what a grant decides, and the windows. -/
def Sys2Proof.Claims.CacheAndArbiters : Prop :=
  (∀ (s : State) (input pa n : Nat) (what : ReqFor), input < 12 → pa < s.dev.capacity → (s.dev.arb (bankOf pa)).reqs = [] →
    let u := s.dev.urgentFor input what
    (∀ bs d1, (found s).readAt input (.lp5x pa) (min n (128 - pa % 128)) none u = (.ok bs, d1) →
      Gives (.scAccess input pa n none what .clean .clean) s (fun d => d.mems = d1.mems ∧ d.csr = d1.csr ∧ d.mem.ctls = d1.mem.ctls
        ∧ (if d1.rd (Reg.SC_BANK_MISS_count (bankOf pa)) = s.dev.rd (Reg.SC_BANK_MISS_count (bankOf pa))
              ∧ s.dev.missing pa = false then d.out = d1.out ++ [.bytes bs]
            else d.out = d1.out ∧ (d.arb (bankOf pa)).misses = (s.dev.arb (bankOf pa)).misses ++ [⟨pa, bs, false⟩]))
      ∧ Gives (.scAccess input pa n none what .corrected .clean) s (fun d => d.mems = d1.mems ∧ Recorded d 0x01 1 (bankOf pa))
      ∧ Gives (.scAccess input pa n none what .poison .clean) s (fun d =>
          d.out = d1.out ∧ pa / 128 ∈ d.mems.poison ∧ d.mem.bypass = d1.mem.bypass ∧ Recorded d 0x02 1 (bankOf pa))
      ∧ Gives (.scAccess input pa n none what .tag .clean) s (fun d =>
          d.mems = d1.mems ∧ bankOf pa ∈ d.mem.bypass ∧ Recorded d 0x02 1 (bankOf pa))
      ∧ (d1.rd (Reg.SC_BANK_MISS_count (bankOf pa)) ≠ s.dev.rd (Reg.SC_BANK_MISS_count (bankOf pa)) → d1.mem.linkEcc = true →
          Gives (.scAccess input pa n none what .clean .corrected) s (fun d => d.mems = d1.mems ∧ Recorded d 0x01 3 (bankOf pa))
          ∧ Gives (.scAccess input pa n none what .clean .bad) s (fun d =>
              d.mems = d1.mems ∧ d.out = d1.out ∧ d.mem = d1.mem ∧ Recorded d 0x03 2 (bankOf pa))))
    ∧ (∀ bs r d1, (found s).writeAt input (.lp5x pa) (bs.take (min bs.length (128 - pa % 128))) u = (r, d1) →
        Becomes (.scAccess input pa n (some bs) what .clean .clean) s d1))
  ∧ (∀ (s : State) (input pa n : Nat) (data : Option (List Byte)) (what : ReqFor) (chk : MemCheck) (link : LinkCheck), input < 12 → pa < s.dev.capacity →
      let x := s.dev.arb (bankOf pa)
      x.reqs ≠ [] → s.dev.fabricTakes input 0 = true → Gives (.scAccess input pa n data what chk link) s (fun d => SameMem s d ∧ d.csr = s.dev.csr
        ∧ d.arb (bankOf pa) = { x with reqs := x.reqs ++ [⟨input, s.dev.urgentFor input what, 0, false, [⟨pa, n, data⟩], false⟩] }))
  ∧ (∀ pa, lineAddr (bankOf pa) (setOf pa) (tagOf pa) = pa / 128 * 128)
  ∧ (∀ (d : Device) (input pa n w : Nat) (l : ScLine), d.mem.bypass.contains (bankOf pa) = false →
      (∀ y ∈ d.scSet (setOf pa), y.tag ≠ tagOf pa) → victim (d.scWays input true) (d.scSet (setOf pa)) = some w →
      (d.scSet (setOf pa)).find? (fun y => y.way == w) = some l → l.dirty ≠ 0 →
      let a := lineAddr (bankOf pa) (setOf pa) l.tag
      ((d.scTouch input true pa n).ctl (bankOf pa)).queue = (d.ctl (bankOf pa)).queue ++
        [⟨input, false, d.beat.clock, (lpPlace a).1, (lpPlace a).2, a, true, sectorBytes l.dirty⟩])
  ∧ (∀ (s : State) (b : Nat), b < 16 →
    let x := s.dev.arb b
    let only := fun (d : Device) => (∀ k, k ≠ b → d.arb k = s.dev.arb k) ∧ d.csr = s.dev.csr ∧ SameMem s d
    (∀ new, (∀ p ∈ new.zipIdx, s.dev.fabricTakes p.1.input p.2 = true) →
      let j := x.join (s.dev.beat.clock / 64) (new.map s.dev.bankReq)
      (j.choose = none → Gives (.arbiterGrant b new) s (fun d => d.arb b = { j with hold := 0 } ∧ only d))
      ∧ (∀ t r p, j.choose = some (t, r) → r.parts = [p] → Becomes (.arbiterGrant b new) s
          (((found s).setArb b j.grant).scAccess r.input p.pa p.n p.data r.tierA .clean .clean)))
    ∧ (∀ input, Gives (.tierBPromote b input) s (fun d => d.arb b = { x with reqs := x.reqs.map (fun r =>
        if r.input = input ∧ 256 ≤ r.waited then { r with promoted := true } else r) } ∧ only d))
    ∧ Gives .quotaWindow s (fun d => d.arb b = { x with quota := 0, window := s.dev.beat.clock / 64 + 1 }
        ∧ d.beat.clock = (s.dev.beat.clock / 64 + 1) * 64 ∧ d.csr = s.dev.csr ∧ SameMem s d)
    ∧ (∀ m, x.misses.find? (·.back) = some m → Gives (.scFill b) s (fun d =>
        d.arb b = { x with hold := x.hold + 1, misses := x.misses.filter (fun y => y.pa / 128 != m.pa / 128) } ∧ only d
          ∧ d.out = (x.misses.filter (fun y => y.pa / 128 == m.pa / 128)).map (fun y => .bytes y.data)))
    ∧ ((∀ m ∈ x.misses, m.back = false) → Gives (.scFill b) s (fun d => d = found s)))
  ∧ ∀ (x : Arb) (t : Nat) (r : ArbReq), x.choose = some (t, r) →
      r ∈ x.reqs ∧ r.tier x.quota = t ∧ (∀ y ∈ x.reqs, y.input < 12 → t ≤ y.tier x.quota) ∧ 1 ≤ grantCycles x t r
        ∧ grantCycles x t r ≤ 4 ∧ (t = 0 → r.atomic = false → x.quota + grantCycles x t r ≤ 16)

/-- The memory controllers (R273, R276 to R278, R282): which request is served, and refreshes, rows, reseeds and timing checks. -/
def Sys2Proof.Claims.MemoryControllers : Prop :=
  (∀ (s : State) (b : Nat), b < 16 →
    let x := s.dev.ctl b
    let only := fun (d : Device) => ∀ k, k ≠ b → d.ctl k = s.dev.ctl k
    (s.dev.memUp = true → x.window = s.dev.beat.clock / 1024 →
      (∀ k t ks, x.due = (k, t) :: ks → (∀ n ∈ x.neighbours.head?, n.due < t → s.dev.beat.clock < n.due) →
        Gives (.controllerIssue b) s (fun d =>
          (d.ctl b).due = ks ∧ (d.ctl b).rows = x.rows.filter (fun o => o.bank != k) ∧ (d.ctl b).queue = x.queue
            ∧ (d.ctl b).timing = x.timing + x.pendingTiming.getD 0 ∧ only d ∧ SameMem s d))
      ∧ (∀ n ns, x.neighbours = n :: ns → n.due ≤ s.dev.beat.clock → (∀ e ∈ x.due.head?, n.due < e.2) →
          Becomes (.controllerIssue b) s ((found s).neighbour b))
      ∧ (∀ r, x.due = [] → (∀ n ∈ x.neighbours.head?, s.dev.beat.clock < n.due) → s.dev.ctlChoose b = some r →
        Gives (.controllerIssue b) s (fun d =>
          (x.queue.length ≤ 64 → (d.ctl b).queue = x.queue.erase r) ∧ (d.ctl b).total = x.total + r.bytes
            ∧ (d.ctl b).scan = (if r.input < 4 then x.scan + r.bytes else x.scan)
            ∧ d.rd (Reg.MEM_LAT_worst r.input) =
                min (Reg.MEM_LAT_worst r.input).max (max (s.dev.rd (Reg.MEM_LAT_worst r.input)) (s.dev.beat.clock - r.arrival))
            ∧ only d ∧ SameMem s d)))
    ∧ (∀ bank o, x.rows.find? (fun o => o.bank == bank) = some o → Gives (.rowClose b bank) s (fun d =>
        d.ctl b = { x with rows := x.rows.filter (fun o => o.bank != bank) } ∧ only d
          ∧ d.beat.clock = max s.dev.beat.clock (o.last + s.dev.rd Reg.MEM_CFG_idle * 8)))
    ∧ (∀ bank rfm, (rfm = true → s.dev.rfmDue b bank = true) → Gives (.refreshDue b bank rfm) s (fun d =>
        d.ctl b = { x with due := x.due ++ [(bank, s.dev.beat.clock)] } ∧ only d ∧ d.csr = s.dev.csr))
    ∧ (∀ n ns, x.neighbours = n :: ns → Gives (.neighbourRefresh b) s (fun d =>
        (s.dev.rd Reg.MEM_PNR_prob = 0 → (d.ctl b).neighbours = ns
          ∧ d.rd Reg.MEM_PNR_CNT_count = (s.dev.rd Reg.MEM_PNR_CNT_count + 1) % 2 ^ 32)
          ∧ (∀ o ∈ (d.ctl b).rows, o ∈ x.rows) ∧ d.beat.clock = max s.dev.beat.clock n.due ∧ only d))
    ∧ Gives .pnrReseed s (fun d => d.ctl b = { x with seed := (d.ctl b).seed, draws := 0 } ∧ d.csr = s.dev.csr ∧ SameMem s d)
    ∧ (∀ drift : Int,
        (16 < drift.natAbs → Gives (.dqsCheck b drift) s (fun d => d.ctl b = { x with pendingTiming := some drift } ∧ only d))
        ∧ (drift.natAbs ≤ 16 → Gives (.dqsCheck b drift) s (fun d => d = found s))))
  ∧ ∀ (d : Device) (b : Nat) (r : CtlReq), d.ctlChoose b = some r →
      r ∈ (d.ctl b).held ∧ d.ctlReady b r = true
        ∧ ∀ y ∈ (d.ctl b).held, d.ctlReady b y = true → d.ctlStep b r ≤ d.ctlStep b y

/-- Copy engines (R284, R287, R288, R292): the next chain starts with its address on show; one that ends reports its status, with the
memory that its work left. -/
def Sys2Proof.Claims.CopyChains : Prop :=
  ∀ (s : State) (n : Nat), n < 4 →
    let x := s.dev.copy n
    (∀ c cs q k a, s.dev.on Reg.PWR_STATE_busy = false → s.dev.copyItems n = [] → x.run = none → x.waiting = c :: cs →
      c.src = .post q k a → Gives (.copyChainStart n) s (fun d =>
        (d.copy n).run = some c ∧ (d.copy n).since = s.dev.beat.clock ∧ d.on (Reg.CPY_STAT_busy n) = true
          ∧ d.reg (Reg.CPY_CHAIN_LO n) = (BitVec.ofNat 32 c.addr &&& 0xFFFFFFE0#32)
          ∧ d.reg (Reg.CPY_CHAIN_HI n) = BitVec.ofNat 32 (c.addr / 2 ^ 32) ∧ SameMem s d))
    ∧ ∀ c q k a whole pages st det d1, x.run = some c → c.src = .post q k a →
        (found s).chainWork c n whole pages = ((st, det), d1) → Gives (.copyChainEnd n whole pages) s (fun d =>
          (d.copy n).run = none ∧ d.on (Reg.CPY_STAT_busy n) = false
            ∧ d.rd (Reg.CPY_STAT_last n) = st % ((Reg.CPY_STAT_last n).max + 1) ∧ d.mems = d1.mems
            ∧ (∀ p, (s.dev.seq q).post k = some p → p.stale = false → (d.seq q).post k = none
                ∧ (d.seq q).dword (p.block / 4 + 3) = BitVec.ofNat 32 st ∧ (d.seq q).sevent = (s.dev.seq q).sevent ||| 2 ^ k))

/-! ### Guests, worlds and enclaves -/

namespace Sys2Proof.Claims

/-- Call `code` passes checks 1 to 4 of R299, and the host interface serves it. -/
def Passes (s : State) (code : Nat) : Prop :=
  s.dev.hostUp = true ∧ s.dev.medArgsOk code = true ∧ (s.dev.inst (s.dev.medInst code)).op = none ∧ s.dev.medStateOk code (s.dev.medInst code) = true

/-- A mediation call answers `code` in INST_MED_STAT and is no longer busy (R298). -/
def MedAnswered (d : Device) (code : Nat) : Prop := d.rd Reg.INST_MED_STAT_result = code ∧ d.on Reg.INST_MED_STAT_busy = false

/-- The function-level reset of PF0 (R299, R317): every instance that is not STOPPED is RESETTING, and what the manager held or had begun is
released or dropped. -/
def HostReset (s : State) (d : Device) : Prop :=
  (∀ i, i < 32 → s.dev.instState i ≠ 0 → d.instState i = 5 ∧ (d.inst i).op = none) ∧ (∀ i, i < 32 → s.dev.instState i = 0 → d.instState i = 0)
    ∧ (∀ g ∈ d.guards, g.agent ≠ .manager)
    ∧ ∀ k, k < 64 → s.dev.on (Reg.WLD_LOCK_STAT_held k) = true → s.dev.rd (Reg.WLD_LOCK_STAT_owner k) = 0x10 →
        d.on (Reg.WLD_LOCK_STAT_held k) = false ∧ d.on (Reg.WLD_LOCK_STAT_abandoned k) = true

/-- A continuing call of instance `i` ends with `code` (R298). -/
def OpEnded (d : Device) (i code : Nat) : Prop :=
  d.on (Reg.INST_STATE_op_done i) = true ∧ d.rd (Reg.INST_STATE_op_result i) = code ∧ (d.inst i).op = none ∧ d.notice 0 2 ∈ d.out

end Sys2Proof.Claims

/-- Mediation calls (R297 to R299, R302, R308): the first check that applies gives the result and changes nothing else; what each call
that passes them leaves. -/
def Sys2Proof.Claims.MediationCalls : Prop :=
  (∀ (s : State) (code : Nat),
    let k := code % 256
    let refused := fun r => Gives (.medCall code) s (fun d => MedAnswered d r ∧ OnlyRegs s.dev d ∧ RegsBut s.dev d [Reg.INST_MED_STAT])
    (s.dev.hostUp = true → k = 0 ∨ 0x0C < k → refused resInvalid)
    ∧ (s.dev.hostUp = true → 1 ≤ k → k ≤ 0x0C → s.dev.medArgsOk k = false → refused resInvalid)
    ∧ (s.dev.hostUp = true → 1 ≤ k → k ≤ 0x0C → s.dev.medArgsOk k = true → (s.dev.inst (s.dev.medInst k)).op.isSome = true → refused resBusy)
    ∧ (s.dev.hostUp = true → 1 ≤ k → k ≤ 0x0C → s.dev.medArgsOk k = true → (s.dev.inst (s.dev.medInst k)).op = none →
        s.dev.medStateOk k (s.dev.medInst k) = false → refused resDenied)
    ∧ ∀ p ∈ [(1, Instr.setup), (2, .start), (3, .share), (4, .inval), (5, .freeze), (6, .save), (7, .restore), (8, .thaw), (9, .reset),
        (0x0A, .cancel), (0x0B, .dlog), (0x0C, .headvec)], k = p.1 → exec p.2 s = exec (.medCall code) s)
  ∧ ∀ s : State,
    let i := s.dev.medArg 0
    let a1 := s.dev.medArg 1
    (Passes s 1 → s.dev.otherQuotas i + bits a1 27 16 ≤ 2048 → Gives .setup s (fun d =>
      MedAnswered d resOk ∧ d.inst i = { s.dev.inst i with setup := true, root := s.dev.medArg64 2, pasid := s.dev.medArg 4 }
        ∧ d.rd (Reg.INST_STATE_channels i) = bits a1 3 0 ∧ d.rd (Reg.INST_QUOTA_quota i) = bits a1 27 16
        ∧ d.rd (Reg.INST_SHARE_weight i) = 0 ∧ d.rd (Reg.INST_RATE_rate i) = 0 ∧ SameMem s d))
    ∧ (Passes s 2 → Gives .start s (fun d =>
        MedAnswered d resOk ∧ d.instState i = (if s.dev.rd (Reg.INST_SHARE_weight i) = 0 then 2 else 1) ∧ d.q = s.dev.q ∧ SameMem s d))
    ∧ (Passes s 3 → Gives .share s (fun d =>
        MedAnswered d resOk
          ∧ d.inst i = { s.dev.inst i with share := some (a1, bits (s.dev.medArg 2) 15 0, bits (s.dev.medArg 2) 31 16) }
          ∧ RegsBut s.dev d [Reg.INST_MED_STAT] ∧ SameMem s d))
    ∧ (Passes s 4 → Gives .inval s (fun d =>
        MedAnswered d resOk
          ∧ ((∀ c, c < 4 → ∀ l ∈ s.dev.l2 c, l.dirty = 0) → d.mems.lp5x = s.dev.mems.lp5x ∧ RegsBut s.dev d [Reg.INST_MED_STAT])
          ∧ (∀ c, c < 4 → ∀ l ∈ d.l2 c, ∀ e ∈ s.dev.mems.tlb, e.within i (s.dev.medArg64 1) (s.dev.medArg 3) = true →
              e.holds l.key = true → l.dirty = 0)
          ∧ ∀ e, e ∈ d.mems.tlb ↔ e ∈ s.dev.mems.tlb ∧ ¬ (e.inst = i ∧ (s.dev.medArg 3 = 0
              ∨ (s.dev.medArg64 1 / 4096 ≤ e.page ∧ e.page < s.dev.medArg64 1 / 4096 + s.dev.medArg 3)))))
    ∧ (Passes s 5 → Gives .freeze s (fun d =>
        MedAnswered d resOk ∧ d.instState i = 3 ∧ (d.inst i).op = some 5 ∧ ∀ p ∈ d.q.picks, p.inst = i → p.held = false))
    ∧ (Passes s 6 → Gives .save s (fun d =>
        MedAnswered d resOk ∧ d.inst i = { s.dev.inst i with op := some 6, opArg := (s.dev.medArg64 1, s.dev.medArg 3) }
          ∧ RegsBut s.dev d [Reg.INST_MED_STAT] ∧ SameMem s d))
    ∧ (Passes s 7 → Gives .restore s (fun d =>
        MedAnswered d resOk ∧ d.inst i = { s.dev.inst i with op := some 7, opArg := (s.dev.medArg64 1, 0) }
          ∧ RegsBut s.dev d [Reg.INST_MED_STAT] ∧ SameMem s d))
    ∧ (Passes s 8 → Gives .thaw s (fun d =>
        MedAnswered d resOk ∧ d.instState i = (if s.dev.rd (Reg.INST_SHARE_weight i) = 0 then 2 else 1) ∧ d.q = s.dev.q ∧ SameMem s d))
    ∧ (Passes s 9 → s.dev.instState i ≠ 0 → Gives .reset s (fun d => MedAnswered d resOk ∧ d.instState i = 5 ∧ (d.inst i).op = none))
    ∧ (Passes s 0x0A → Gives .cancel s (fun d =>
        MedAnswered d resOk ∧ d.instState i = s.dev.instState i ∧ ∀ x ∈ d.q.items, x.inst = i → x.queue = a1 → x.started = true))
    ∧ (Passes s 0x0B →
        ((s.dev.medArg 3).testBit 31 = true → Gives .dlog s (fun d =>
          MedAnswered d resOk ∧ d.on (Reg.INST_DLOG_enable i) = true ∧ d.rd (Reg.INST_DLOG_prod i) = 0
            ∧ (d.inst i).dlogBase = s.dev.medArg64 1 ∧ (d.inst i).dlogLog2 = s.dev.medArg 3 % 32 ∧ SameMem s d))
        ∧ ((s.dev.medArg 3).testBit 31 = false → Gives .dlog s (fun d =>
            MedAnswered d resOk ∧ d.on (Reg.INST_DLOG_enable i) = false ∧ RegsBut s.dev d [Reg.INST_MED_STAT, Reg.INST_DLOG i])))
    ∧ (Passes s 0x0C → Gives .headvec s (fun d =>
        MedAnswered d resOk ∧ tget (fun _ => none) d.headVec i = (if a1.testBit 31 then some (a1 % 32) else none)
          ∧ RegsBut s.dev d [Reg.INST_MED_STAT] ∧ SameMem s d))

/-- The ends of freezes, resets, saves and restores, and resets and invalidations by the host (R93, R296, R299, R303, R304, R306, R307). -/
def Sys2Proof.Claims.InstanceOperations : Prop :=
  ∀ (s : State) (i : Nat), i < 32 →
    (s.dev.instState i = 3 → s.dev.draining i = false → Gives (.freezeDone i) s (fun d =>
      d.instState i = 4 ∧ OpEnded d i resOk ∧ (d.inst i).frozenAt = s.dev.beatTime))
    ∧ (s.dev.instState i = 5 → s.dev.q.picks.any (fun p => p.inst == i) = false → s.dev.copying i = false →
        Gives (.resetDrainDone i) s (fun d =>
          d.instState i = 0 ∧ (∀ x ∈ d.q.items, x.inst ≠ i) ∧ (∀ h ∈ d.q.held, h.inst ≠ i)
            ∧ d.rd (Reg.INST_RATE_tokens i) = max (s.dev.rd (Reg.INST_SHARE_burst i)) (s.dev.rd (Reg.INST_RATE_rate i))
            ∧ ∀ n, n < 16 → d.on (Reg.INST_Q_CFG_enable i n) = false))
    ∧ (s.dev.instState i = 4 → (s.dev.inst i).op = some 6 → ∀ img d1, (found s).image i = (img, d1) →
        ((s.dev.inst i).opArg.2 < img.length → Gives (.saveDone i) s (fun d => OpEnded d i resInvalid ∧ d.mems = d1.mems))
        ∧ (img.length ≤ (s.dev.inst i).opArg.2 → ∀ d2, d1.write (.inst 0) 8 (s.dev.inst i).opArg.1 img = (.ok (), d2) →
            Gives (.saveDone i) s (fun d => OpEnded d i resOk ∧ d.mems = d2.mems)))
    ∧ (s.dev.instState i = 0 → (s.dev.inst i).op = some 7 → ∀ h d1, (found s).read (.inst 0) 8 (s.dev.inst i).opArg.1 64 = (.ok h, d1) →
        (leAt h 0 4 ≠ 0x4B494D47 → Gives (.restoreDone i) s (fun d => OpEnded d i resInvalid ∧ d.instState i = 0 ∧ d.mems = d1.mems))
        ∧ ∀ img d2, leAt h 0 4 = 0x4B494D47 → 1216 ≤ leAt h 8 8 →
            d1.read (.inst 0) 8 (s.dev.inst i).opArg.1 (leAt h 8 8) = (.ok img, d2) →
            imageOk img (s.dev.rd (Reg.INST_QUOTA_quota i)) = true → leAt img 0x20 2 ≤ s.dev.slotsFree i →
            Becomes (.restoreDone i) s ((d2.restoreImage i img).opEnd i resOk)
              ∧ Gives (.restoreDone i) s (fun d => OpEnded d i resOk ∧ (d.instState i = 1 ∨ d.instState i = 2)))
    ∧ (1 ≤ i → s.dev.instState i ≠ 0 → Gives (.functionLevelReset i) s (fun d =>
        d.instState i = 5 ∧ (d.inst i).op = none ∧ ∀ g ∈ d.guards, g.agent ≠ .guest i))
    ∧ Becomes (.functionLevelReset 0) s (found s).resetHost ∧ Gives (.functionLevelReset 0) s (HostReset s)
    ∧ ∀ pasid page pages, s.dev.hostUp = true → Gives (.hostAtsInval i pasid page pages) s (fun d =>
        d = { found s with mems := { s.dev.mems with ats := d.mems.ats } }
          ∧ ∀ e, e ∈ d.mems.ats ↔ e ∈ s.dev.mems.ats ∧ ¬ (e.fn = i ∧ e.pasid = pasid ∧ page ≤ e.page ∧ e.page < page + pages))

/-- Worlds (R310, R312 to R314, R320): the normal world's writes of secure registers change nothing; the secure world's do. -/
def Obligations.Worlds : Prop :=
  ∀ (s : State) (ag : Agent),
    (agentSecure ag = false →
      (∀ e v, Gives (.enclaveCfgWrite ag e v) s (fun d => d = found s)) ∧ (∀ v, Gives (.wldDbgWrite ag v) s (fun d => d = found s))
        ∧ ∀ kind unit secure, Gives (.handoverStart ag kind unit secure) s (fun d => d = found s))
    ∧ (agentSecure ag = true →
        (∀ (e : Nat) (v : Word), e < 16 →
          let d0 := (found s).setReg (Reg.WLD_ENC_CFG e) (v &&& 0xC000FFFF#32)
          (s.dev.on (Reg.WLD_ENC_CFG_lock e) = true → Gives (.enclaveCfgWrite ag e v) s (fun d => d = found s))
          ∧ (s.dev.on (Reg.WLD_ENC_CFG_lock e) = false → (v.getLsbD 31 && d0.encBad e) = false →
              Gives (.enclaveCfgWrite ag e v) s (fun d => d = d0))
          ∧ (s.dev.on (Reg.WLD_ENC_CFG_lock e) = false → v.getLsbD 31 = true → d0.encBad e = true →
              Gives (.enclaveCfgWrite ag e v) s (fun d =>
                d.on (Reg.WLD_ENC_CFG_valid e) = false ∧ d.on Reg.WLD_STATUS_enc_cfg_err = true ∧ OnlyRegs s.dev d
                  ∧ RegsBut s.dev d [Reg.WLD_ENC_CFG e, Reg.WLD_STATUS])))
        ∧ (∀ v : Word, Gives (.wldDbgWrite ag v) s (fun d =>
            d.rd Reg.WLD_DBG_in_effect = s.dev.rd Reg.WLD_DBG_in_effect &&& (v.toNat % 16)))
        ∧ ∀ kind unit secure, unit < hoUnits kind → s.dev.on (hoField kind unit) ≠ secure →
            s.dev.handovers.any (fun h => h.kind == kind && h.unit == unit) = false →
            Gives (.handoverStart ag kind unit secure) s (fun d =>
              d.handovers = s.dev.handovers ++ [{ kind := kind, unit := unit, secure := secure }] ∧ d.on Reg.WLD_HO_STAT_busy = true
                ∧ d.on (hoField kind unit) = s.dev.on (hoField kind unit) ∧ SameMem s d))
    ∧ ∀ kind unit h, unit < hoUnits kind → s.dev.handovers.find? (fun h => h.kind == kind && h.unit == unit) = some h →
        Gives (.handoverDone kind unit) s (fun d =>
          d.on (hoField kind unit) = h.secure ∧ (∀ x, x ∈ d.handovers ↔ x ∈ s.dev.handovers ∧ x ≠ h) ∧ Recorded d 0x11 1 unit
            ∧ d.rd Reg.WLD_HO_STAT_count = (s.dev.rd Reg.WLD_HO_STAT_count + 1) % 2 ^ 16
            ∧ d.on Reg.WLD_HO_STAT_busy = s.dev.handovers.any (fun x => x != h))

/-! ### Seed store and integrity -/

/-- The seed store (R322, R325 to R327, R329, R330, R332, R333, R337, R339 to R342): register writes, records, power failure, scrubs and
the hour meter. -/
def Obligations.SeedCommands : Prop :=
  (∀ (s : State) (w : SeedWrite) (ws : List SeedWrite), s.dev.seed.queue = w :: ws → s.dev.seed.parked = false →
    (∀ o n used, s.dev.seedPlan w.reg = some (o, n, used) → Gives (.seedRegisterWrite .good) s (fun d =>
      (d.seedReg w.reg).value = w.value ∧ (d.seedReg w.reg).total = n ∧ (d.seedReg w.reg).used = used
        ∧ rawRead d.mems.mram o 16 = slotBytes w.reg w.value n))
    ∧ (s.dev.seedPlan w.reg = none → Gives (.seedRegisterWrite .good) s (fun d =>
        (d.seedReg w.reg).worn = true ∧ d.on Reg.SEED_STATUS_lost = true ∧ Recorded d 0x0F 1 0 ∧ d.mems.mram = s.dev.mems.mram))
    ∧ (∀ how, how ≠ .good → how ≠ .differs → s.dev.on Reg.SEED_STATUS_pfail = true → Gives (.seedRegisterWrite how) s (fun d =>
        d.seed.queue = [] ∧ d.boot.vhold = false ∧ d.phase = 0 ∧ d.released = false
          ∧ d.mems.mram = ((found s).seedPerform w how).mems.mram ∧ d.seed.bad = ((found s).seedPerform w how).seed.bad)))
  ∧ (∀ (s : State) (ag : Agent) (v : Word),
    (agentSecure ag = false → ag ≠ .manager → Gives (.rwpWrite ag Reg.MEM_TRAIN v) s (fun d => d = found s))
    ∧ (agentSecure ag = false → Gives (.rwpWrite ag Reg.WLD_DBG v) s (fun d => SetsTo s d Reg.SEED_LASTRES_1_rwp_n resDenied))
    ∧ (agentSecure ag = false → ∀ j, j < 32 → Gives (.rwpWrite ag (Reg.AUD_GUARD j) v) s (fun d =>
        SetsTo s d Reg.SEED_LASTRES_1_rwp_n resDenied))
    ∧ (agentSecure ag = true ∨ ag = .manager → (found s).seedCheck (.rwp (agentSecure ag)) 0xFA0 (v.toNat &&& 0x8000) = resOk →
        Gives (.rwpWrite ag Reg.MEM_TRAIN v) s (fun d =>
          d.seed = { s.dev.seed with queue := s.dev.seed.queue ++
            [{ src := .rwp (agentSecure ag), reg := 0xFA0, value := v.toNat &&& 0x8000 }] } ∧ SameMem s d)))
  ∧ (∀ (s : State) (pin : Bool) (chunks : Nat), s.dev.on Reg.SEED_STATUS_pfail = false → Gives (.powerFailTrip pin chunks) s (fun d =>
      d.on Reg.SEED_STATUS_pfail = true ∧ d.on Reg.SEED_STATUS_pfail_seen = true ∧ d.seed.records = []
        ∧ d.seed.queue = s.dev.seed.queue ∧ Recorded d 0x08 (if pin then 2 else 1) 0))
  ∧ ∀ s : State,
    let hours := fun (d : Device) (sec t75 t90 : Nat) =>
      d.rd (Reg.SEED_HOUR_seconds 0) = (s.dev.rd (Reg.SEED_HOUR_seconds 0) + sec) % 2 ^ 32
        ∧ d.rd (Reg.SEED_HOUR_seconds 1) = (s.dev.rd (Reg.SEED_HOUR_seconds 1) + min 60 t75) % 2 ^ 32
        ∧ d.rd (Reg.SEED_HOUR_seconds 2) = (s.dev.rd (Reg.SEED_HOUR_seconds 2) + min 60 t90) % 2 ^ 32
        ∧ d.seed.hourNext = (s.dev.seed.hourNext + 1) % 512
        ∧ leAt (rawRead d.mems.mram (0x40000 + 16 * s.dev.seed.hourNext) 16) 0 4 = d.rd (Reg.SEED_HOUR_seconds 0)
    (∀ sec t75 t90, s.dev.on Reg.SEED_STATUS_pfail = true → s.dev.seed.queue = [] → s.dev.seed.parked = false →
      Gives (.mramPark sec t75 t90) s (fun d => d.seed.parked = true ∧ hours d (min 60 sec) t75 t90))
    ∧ (s.dev.on Reg.SEED_STATUS_pfail = true → Gives .pfailRecover s (fun d =>
        d.on Reg.SEED_STATUS_pfail = false ∧ d.seed = { s.dev.seed with parked := false } ∧ RegsBut s.dev d [Reg.SEED_STATUS] ∧ SameMem s d))
    ∧ (∀ t75 t90, s.dev.on Reg.SEED_STATUS_ready = true → s.dev.seed.parked = false →
        Gives (.hourMeterWrite t75 t90) s (fun d => hours d 60 t75 t90))
    ∧ (s.dev.on Reg.SEED_STATUS_ready = true → s.dev.seed.parked = false →
        (∀ ws, Gives (.scrubPass ws []) s (fun d =>
          d.rd Reg.SEED_SCRUB_corrected = min Reg.SEED_SCRUB_corrected.max (s.dev.rd Reg.SEED_SCRUB_corrected + ws.length)
            ∧ d.seed = s.dev.seed ∧ SameMem s d ∧ (ws ≠ [] → Recorded d 0x01 4 0)))
        ∧ ∀ w, w * 8 < 0x20000 → Gives (.scrubPass [] [w]) s (fun d =>
            w ∈ d.seed.bad ∧ (d.seedReg (w / 4)).degraded = !(s.dev.seedReg (w / 4)).blank ∧ Recorded d 0x0F 2 0
              ∧ d.on Reg.SEED_STATUS_degraded_seen = true ∧ SameMem s d))
    ∧ (∀ j js o, s.dev.seed.records = j :: js → s.dev.seed.parked = false → s.dev.seed.queue = [] → s.dev.recordTarget j = some o →
        Gives .recordWrite s (fun d => d.seed.records = js ∧ d.mems = ((found s).recordCommit j o).mems
          ∧ (j.src = .presets → d.on Reg.SEED_REC_CMD_done = true ∧ d.rd Reg.SEED_REC_CMD_result = resOk)))
    ∧ (∀ ag, ag ≠ .manager → ag ≠ .seq 4 → Gives (.seedRecCmd ag) s (fun d => d = found s))
    ∧ (∀ ag, ag = .manager ∨ ag = .seq 4 →
        (s.dev.seed.records.any (fun j => j.src == .presets) = true → Gives (.seedRecCmd ag) s (fun d =>
          d.on Reg.SEED_REC_CMD_done = true ∧ d.rd Reg.SEED_REC_CMD_result = resBusy ∧ d.seed = s.dev.seed
            ∧ RegsBut s.dev d [Reg.SEED_REC_CMD]))
        ∧ ∀ bs d1, s.dev.seed.records.any (fun j => j.src == .presets) = false →
            ((found s).wr Reg.SEED_REC_CMD_done 0).read (.inst 0) 11 (s.dev.addr64 Reg.SEED_REC_SRC_LO Reg.SEED_REC_SRC_HI) 2048 = (.ok bs, d1) →
            d1.on Reg.SEED_STATUS_pfail = false → (d1.recordTarget (presetJob bs)).isSome = true → Gives (.seedRecCmd ag) s (fun d =>
              d.seed.records = d1.seed.records ++ [presetJob bs] ∧ d.on Reg.SEED_REC_CMD_done = false))
    ∧ Gives .logRoomRefill s (fun d => d.seed = { s.dev.seed with logRoom := min 64 (s.dev.seed.logRoom + 4) } ∧ d.csr = s.dev.csr
        ∧ SameMem s d)

/-- Integrity (R92, R345, R349 to R352, R358, R360, R361, R425): configuration CRC passes, the SSQ pair, the bridge, the dies, and the
resets of engines and channels. -/
def Obligations.IntegrityCommands : Prop :=
  ∀ s : State,
    (s.dev.flt.passOn = true → Gives .cfgcrcPassEnd s (fun d =>
      d.flt.passOn = false ∧ d.rd Reg.FLT_CFGCRC_CUR_value = s.dev.cfgCrc % 2 ^ 32
        ∧ (s.dev.on Reg.FLT_CFGCRC_CTL_hold = false → s.dev.cfgCrc ≠ s.dev.flt.cfgRef → Recorded d 0x04 1 0)
        ∧ (s.dev.guards = [] → s.dev.reg (Reg.GLB_RST + 4) ≠ ~~~ s.dev.reg Reg.GLB_RST → Recorded d 0x04 3 0) ∧ SameMem s d))
    ∧ (s.dev.on Reg.FLT_CFGCRC_CTL_hold = true → 64 ≤ s.dev.rd Reg.FLT_CFGCRC_STAT_held → Gives .cfgcrcHoldExpire s (fun d =>
        d.on Reg.FLT_CFGCRC_CTL_hold = false ∧ d.rd Reg.FLT_CFGCRC_STAT_held = 0 ∧ Recorded d 0x04 2 0 ∧ SameMem s d))
    ∧ (∀ ag, (s.dev.mayCfgcrc ag = true → Gives (.cfgcrcCommit ag) s (fun d =>
          d.flt = { s.dev.flt with commit := true } ∧ d.csr = s.dev.csr ∧ SameMem s d))
        ∧ (s.dev.mayCfgcrc ag = false → Gives (.cfgcrcCommit ag) s (fun d => d = found s)))
    ∧ (let old := s.dev.flt.ssqFaults.filter (fun b => decide (s.dev.beat.sbeat < b + 1000))
       Gives .lockstepMismatch s (fun d =>
        d.flt.ssqFaults = old ++ [s.dev.beat.sbeat] ∧ Recorded d 0x05 1 4 ∧ (d.seq 4).running = false
          ∧ d.rd Reg.FLT_SSQ_count = min Reg.FLT_SSQ_count.max (s.dev.rd Reg.FLT_SSQ_count + 1)
          ∧ (2 ≤ old.length → (d.seq 4).halted = true ∧ d.on Reg.FLT_SSQ_halted = true ∧ Recorded d 0x05 2 4)))
    ∧ (∀ up,
        let f := if up then Reg.FLT_BRIDGE_spare_up else Reg.FLT_BRIDGE_spare_down
        Gives (.bridgeReplay up false) s (fun d => d = found s)
        ∧ (s.dev.rd f < 8 → Gives (.bridgeReplay up true) s (fun d => d.rd f = s.dev.rd f + 1 ∧ Recorded d 0x03 3 0 ∧ SameMem s d)))
    ∧ (s.dev.flt.lostMixed = false → Gives (.dieHeartbeatLost .mixed) s (fun d =>
        d.flt.lostMixed = true ∧ Recorded d 0x12 1 0 ∧ d.on Reg.SEED_STATUS_ready = false ∧ d.glass.fronts = [] ∧ d.glass.haps = []
          ∧ ∀ k ∈ [8, 9, 10], d.rd (Reg.PWR_DOM_state k) = 0))
    ∧ (s.dev.flt.lostCompute = false → Gives (.dieHeartbeatLost .compute) s (fun d =>
        d.flt.lostCompute = true ∧ d.q.picks = [] ∧ (∀ q, q ≤ 4 → (d.seq q).running = false)
          ∧ d.flt.serial = (s.dev.flt.serial + 1) % 2 ^ 32 ∧ d.q.items = [] ∧ d.copies = [] ∧ d.memUp = false ∧ d.hostUp = false
          ∧ d.weftUp = false))
    ∧ (s.dev.phase ≠ 0 → Gives (.dieHeartbeatLost .carrier) s (fun d =>
        d.boot.stopped = true ∧ d.phase = 0 ∧ d = ((found s).logNow (fault 0x12 2 0x300000 0)).stopDevice))
    ∧ (∀ c k, Gives (.engineReset (.cluster c k)) s (fun d => Recorded d 0x06 4 c))
    ∧ (∀ c t, Gives (.engineReset (.traversal c t)) s (fun d => Recorded d 0x06 4 c ∧ d.q.items = s.dev.q.items ∧ SameMem s d))
    ∧ (∀ c, Gives (.engineReset (.compositor c)) s (fun d =>
        (d.head (2 * c)).gOnly = true ∧ (d.head (2 * c + 1)).gOnly = true ∧ Recorded d 0x06 4 c ∧ SameMem s d))
    ∧ (∀ n, n < 4 → Gives (.engineReset (.front n)) s (fun d =>
        (d.front n).contacts = [] ∧ (d.front n).base = [] ∧ (d.front n).phase ≤ 1 ∧ Recorded d 0x06 4 n ∧ SameMem s d))
    ∧ (∀ n, n < 8 → Gives (.engineReset (.bridge n)) s (fun d =>
        (d.hap n).fx = none ∧ (d.hap n).queued = none ∧ (d.hap n).splice = none ∧ Recorded d 0x06 4 n ∧ SameMem s d))
    ∧ (∀ b, Gives (.engineReset (.controller b)) s (fun d =>
        d.ctl b = { s.dev.ctl b with queue := [], rows := [] } ∧ (∀ k, k ≠ b → d.ctl k = s.dev.ctl k) ∧ Recorded d 0x06 4 b ∧ SameMem s d))
    ∧ ∀ c, c < 4 →
        Gives (.channelReset c none) s (fun d =>
          (d.seq c).running = false ∧ d.l2 c = [] ∧ (d.cmp c).receipts = []
            ∧ ∀ h, h = 2 * c ∨ h = 2 * c + 1 →
                (d.head h).checks = [] ∧ (d.head h).coming = [] ∧ (d.head h).after = [] ∧ (d.head h).taken = none)
        ∧ ∀ ag,
            (ag ≠ .manager → agentSecure ag = false → Gives (.channelReset c (some ag)) s (fun d => d = found s))
            ∧ (ag = .manager → s.dev.secureChannel c = true →
                Gives (.channelReset c (some ag)) s (fun d => SetsOnly s d Reg.GLB_STATUS_refused))
            ∧ ((ag = .manager ∧ s.dev.secureChannel c = false) ∨ agentSecure ag = true →
                exec (.channelReset c (some ag)) s = exec (.channelReset c none) s)

/-! ### Power and Weft -/

/-- Domains, votes, clock points, states, wake sources and I3C (R368 to R374, R376 to R381). -/
def Obligations.PowerCommands : Prop :=
  ∀ s : State,
    (∀ k, 2 ≤ k → k ≤ 10 →
      (s.dev.dom k = 1 → Gives (.domainUpDone k) s (fun d => d.dom k = 2))
      ∧ (s.dev.dom k = 3 → Gives (.domainDownDone k) s (fun d =>
          d.dom k = 0 ∧ (k ≤ 5 → d.l2 (k - 2) = []) ∧ (k = 8 → d.aud.sinks = [])))
      ∧ (∀ sec t75 t90, k ∉ s.dev.pwr.supply →
          (s.dev.holders k ≠ [] → Gives (.supplyLost k sec t75 t90) s (fun d =>
            d.dom k = 0 ∧ d.on (Reg.PWR_DOM_lost k) = true ∧ d.pwr.supply = s.dev.pwr.supply ++ [k] ∧ Recorded d 0x08 4 k))
          ∧ (s.dev.holders k = [] → Gives (.supplyLost k sec t75 t90) s (fun d => d.dom k = 0 ∧ d.pwr.supply = s.dev.pwr.supply ++ [k])))
      ∧ Gives (.supplyReturn k) s (fun d =>
          d.csr = s.dev.csr ∧ ∀ j, j ∈ d.pwr.supply ↔ j ∈ s.dev.pwr.supply ∧ j ≠ k))
    ∧ (∀ k sec t75 t90, k ≤ 1 → Gives (.supplyLost k sec t75 t90) s (fun d => d.boot.brown = true ∧ d.rd Reg.GLB_BOOT_phase = 0))
    ∧ (∀ k, k ≤ 1 → s.dev.boot.brown = true → Becomes (.supplyReturn k) s
        (Device.startUp { s.dev with out := [], boot := { s.dev.boot with brown := false } }))
    ∧ (∀ ag n mhz, n < 4 →
        (s.dev.mayDvfs ag n = false → Gives (.dvfsRequest ag n mhz) s (fun d => d = found s))
        ∧ (s.dev.mayDvfs ag n = true →
            let f := if agentSecure ag then Reg.PWR_DVFS_req_s n else Reg.PWR_DVFS_req_n n
            Gives (.dvfsRequest ag n mhz) s (fun d => d.rd f = mhz % 2 ^ 14 ∧ OnlyRegs s.dev d ∧ RegsBut s.dev d [Reg.PWR_DVFS n])))
    ∧ (s.dev.pwr.tjHigh = false → Gives .thermalOver s (fun d =>
        d.pwr.tjHigh = true ∧ Recorded d 0x10 1 0 ∧ SameMem s d
          ∧ ∀ n, n < 4 → d.rd (Reg.PWR_DVFS_point n) = 3 ∧ d.on (Reg.PWR_DVFS_thermal n) = true))
    ∧ (s.dev.pwr.tjHigh = true → Gives .thermalRecover s (fun d =>
        d.pwr.tjHigh = false ∧ SameMem s d
          ∧ ∀ n, n < 4 → d.on (Reg.PWR_DVFS_thermal n) = false
              ∧ d.rd (Reg.PWR_DVFS_point n) = min (grantPoint (clockPoints s.dev.grade) (s.dev.rd (Reg.PWR_DVFS_req_n n)))
                  (grantPoint (clockPoints s.dev.grade) (s.dev.rd (Reg.PWR_DVFS_req_s n)))))
    ∧ (∀ ag c (v : Word),
        (voteClient ag = some c → s.dev.flt.lostMixed = false → Gives (.pwrVoteWrite ag c v) s (fun d =>
          d.reg (Reg.PWR_VOTE c) = (v &&& 0x7FC#32) ∧ d.pwr = { s.dev.pwr with votes := s.dev.pwr.votes ++ [.vote c v.toNat] }
            ∧ RegsBut s.dev d [Reg.PWR_VOTE c] ∧ SameMem s d))
        ∧ (voteClient ag ≠ some c ∨ s.dev.flt.lostMixed = true → Gives (.pwrVoteWrite ag c v) s (fun d => d = found s)))
    ∧ (∀ ag st,
        (mayPwr ag = true → s.dev.flt.lostMixed = false → s.dev.on Reg.PWR_STATE_busy = false → st < 3 → Gives (.stateRequest ag st) s (fun d =>
          d = { found s with pwr := { s.dev.pwr with req := some (st, agentSecure ag) } }))
        ∧ (mayPwr ag = false ∨ s.dev.flt.lostMixed = true ∨ s.dev.on Reg.PWR_STATE_busy = true → Gives (.stateRequest ag st) s (fun d => d = found s)))
    ∧ (∀ st, s.dev.pwr.target = some st → st = 1 ∨ st = 2 → s.dev.entryReady st = true → (∀ h, h < 8 → s.dev.running h = false) →
        Gives .stateEntry s (fun d =>
          d.rd Reg.PWR_STATE_state = st ∧ d.on Reg.PWR_STATE_busy = false ∧ d.pwr.target = none ∧ d.dom 1 = 0
            ∧ ∀ k ∈ dropped st, d.dom k = 0))
    ∧ (s.dev.pwr.target = some 2 → Gives .pmeTurnOffHandshake s (fun d => d = { found s with pwr := { s.dev.pwr with linkL2 := true } }))
    ∧ (∀ src, src ≤ 21 ∨ src = 31 →
        let st := s.dev.pwr.target.getD (s.dev.rd Reg.PWR_STATE_state)
        (st = 0 → Gives (.wakeEvent src) s (fun d => d = found s))
        ∧ (st ≠ 0 → (st = 2 → src < 16 ∨ src = 31) → (s.dev.reg Reg.PWR_WAKE_EN).toNat.testBit src = true →
            Gives (.wakeEvent src) s (fun d =>
              (d.reg Reg.PWR_WAKE).toNat.testBit src = true ∧ src ∈ d.pwr.latched
                ∧ (s.dev.pwr.target = none → d.pwr.exiting = true) ∧ RegsBut s.dev d [Reg.PWR_WAKE])))
    ∧ (s.dev.pwr.exiting = true → s.dev.pwr.target = none → s.dev.rd Reg.PWR_STATE_state ≠ 0 → s.dev.pwr.heldTlp = [] →
        Gives .wakeExit s (fun d => d.rd Reg.PWR_STATE_state = 0 ∧ d.dom 1 = 2 ∧ d.pwr.latched = [] ∧ d.glass.held = []))
    ∧ (∀ addr (bs : List Byte), s.dev.i3cMatch addr = true →
        (bs.length = 4 → s.dev.awake = true → Gives (.i3c0Write addr bs) s (fun d =>
          d.reg Reg.PWR_I3C0_IN = BitVec.ofNat 32 (leNat bs) ∧ (d.seq 4).sevent = (s.dev.seq 4).sevent ||| 2 ^ evMail
            ∧ d.out = [.permit true] ∧ RegsBut s.dev d [Reg.PWR_I3C0_IN]))
        ∧ (1 ≤ bs.length → bs.length ≤ 4 → s.dev.awake = false → Gives (.i3c0Write addr bs) s (fun d =>
            d.out = [.permit false] ∧ d.reg Reg.PWR_I3C0_IN = s.dev.reg Reg.PWR_I3C0_IN ∧ d.seqs = s.dev.seqs)))
    ∧ (∀ addr n, s.dev.i3cMatch addr = true → 1 ≤ n → n ≤ 4 → Gives (.i3c0Read addr n) s (fun d =>
        d.out = (if s.dev.awake then [.permit true, .bytes ((leBytes 4 (s.dev.reg Reg.PWR_I3C0_OUT).toNat).take n)] else [.permit false])
          ∧ d.csr = s.dev.csr))
    ∧ (∀ setdasa static addr, s.dev.on Reg.PWR_I3C0_CFG_i2c = false → s.dev.awake = true → addr < 128 →
        s.dev.flt.lostMixed = false →
        (if setdasa then static = s.dev.rd Reg.PWR_I3C0_CFG_addr else s.dev.pwr.dynAddr = none) →
        Gives (.dynamicAddressing setdasa static addr) s (fun d => d = { found s with pwr := { s.dev.pwr with dynAddr := some addr } }))
    ∧ (∀ ag (v : Word), mayPwr ag = true → s.dev.flt.lostMixed = false → v.getLsbD 31 = true → Gives (.i3c1Transfer ag v) s (fun d =>
        d.pwr.i3c1 = true ∧ d.on Reg.PWR_I3C1_CMD_done = false ∧ d.on Reg.PWR_I3C1_CMD_nack = false
          ∧ RegsBut s.dev d [Reg.PWR_I3C1_CMD] ∧ SameMem s d))
    ∧ ∀ nack (data : Word), s.dev.pwr.i3c1 = true → s.dev.flt.lostMixed = false → Gives (.i3c1TransferDone nack data) s (fun d =>
        d.pwr.i3c1 = false ∧ d.on Reg.PWR_I3C1_CMD_done = true ∧ d.on Reg.PWR_I3C1_CMD_nack = nack
          ∧ (s.dev.on Reg.PWR_I3C1_CMD_rnw = true → nack = false → s.dev.rd Reg.PWR_I3C1_CMD_len = 3 → d.reg Reg.PWR_I3C1_DATA = data)
          ∧ (nack = true → d.reg Reg.PWR_I3C1_DATA = s.dev.reg Reg.PWR_I3C1_DATA) ∧ SameMem s d)

/-- Weft links and blocks (R385, R388 to R390, R392, R394, R396, R397, R399, R406). -/
def Sys2Proof.Claims.WeftLinks : Prop :=
  (∀ (s : State) (n : Nat), n < 4 → s.dev.mode = .native → s.dev.weftUp = true →
    (∀ latency, s.dev.on (Reg.WFT_LINK_CTL_enable n) = true → s.dev.on (Reg.WFT_LINK_STAT_up n) = false →
      s.dev.on (Reg.WFT_LINK_STAT_failed n) = false → s.dev.rd (Reg.PWR_DOM_state 7) = 2 →
      Gives (.wftLinkTrain n latency false) s (fun d => SetsOnly s d (Reg.WFT_LINK_STAT_miswired n))
      ∧ Gives (.wftLinkTrain n latency true) s (fun d =>
          d.linkUp n = true ∧ d.link n = WLink.reset ∧ d.rd (Reg.WFT_LINK_STAT_latency n) = latency % 2 ^ 14
            ∧ (∀ k, k ≠ n → d.link k = s.dev.link k) ∧ SameMem s d))
    ∧ (∀ ag, ag = .manager ∨ agentSecure ag = true → s.dev.on (Reg.WFT_LINK_STAT_failed n) = true →
        Gives (.wftRetrain ag n) s (fun d => d.link n = { s.dev.link n with retrain := true } ∧ d.csr = s.dev.csr ∧ SameMem s d))
    ∧ (s.dev.linkUp n = true →
        Gives (.wftLinkFail n) s (fun d =>
          d.linkUp n = false ∧ d.on (Reg.WFT_LINK_STAT_failed n) = true ∧ Recorded d 0x03 4 n ∧ SameMem s d)
        ∧ (∀ pair,
            let narrow := pair && s.dev.on (Reg.WFT_LINK_CTL_x2_ok n) && !s.dev.on (Reg.WFT_LINK_STAT_degraded n)
            (narrow = true → Gives (.wftLaneFail n pair) s (fun d => SetsOnly s d (Reg.WFT_LINK_STAT_degraded n)))
            ∧ (narrow = false → exec (.wftLaneFail n pair) s = exec (.wftLinkFail n) s))
        ∧ (∀ i bad, i < 112 → s.dev.mapped i ≠ bad → Gives (.linkDown n i bad) s (fun d => d.mapped i = bad ∧ SameMem s d))
        ∧ (∀ node x y, s.dev.isRoot = false → s.dev.on Reg.WFT_STATUS_numbered = false → node < 64 → x < 8 → y < 8 →
            Gives (.numbering n node x y) s (fun d =>
              d.self = node ∧ d.rd Reg.WFT_MESH_size_x = x ∧ d.rd Reg.WFT_MESH_size_y = y ∧ d.on Reg.WFT_STATUS_numbered = true))
        ∧ (∀ number samples delay hops accum tick, s.dev.isRoot = false → s.dev.weft.lastBeat ≠ some number →
            let acc := accum + s.dev.rd (Reg.WFT_LINK_STAT_latency n)
            let now := s.dev.beat.clock + (tick - s.dev.beat.stick)
            let left : Int := (clampDelay delay : Int) * 16 - acc
            Gives (.beatBlock n number samples delay hops accum tick) s (fun d =>
              d.weft.lastBeat = some number ∧ d.weft.delay = clampDelay delay
                ∧ (∀ k ∈ s.dev.otherLinks n, Out.block k "BEAT" [number, samples, delay, hops + 1, acc + 400] ∈ d.out)
                ∧ (s.dev.followsWeft = true → 12 ≤ samples → samples ≤ 192 → s.dev.on Reg.WFT_BEAT_STAT_behind = false →
                    s.dev.beat.sbeat + 1 ≤ number → d.on Reg.WFT_BEAT_STAT_locked = true ∧ d.beat.nextSamples = some samples
                      ∧ (1600 ≤ left → d.weft.edge = some (number, now + (left / 20).toNat))
                      ∧ (left < 1600 → d.weft.edge = some (number, now + 80) ∧ d.on Reg.WFT_BEAT_STAT_late = true))))
        ∧ (∀ frame hops accum tick, s.dev.isRoot = false → s.dev.weft.lastFrame ≠ some frame →
            let acc := accum + s.dev.rd (Reg.WFT_LINK_STAT_latency n)
            Gives (.frameBlock n frame hops accum tick) s (fun d =>
              d.weft.lastFrame = some frame ∧ d.reg Reg.WFT_FLOCK_FRAME = BitVec.ofNat 32 frame
                ∧ ∀ k ∈ s.dev.otherLinks n, Out.block k "FRAME" [frame, hops + 1, acc + 400] ∈ d.out))
        ∧ (∀ inst vec, s.dev.isRoot = true → inst < 32 → Gives (.event n inst vec) s (fun d =>
            d.out = [.msix inst vec] ∧ d.csr = s.dev.csr ∧ SameMem s d)))
    ∧ (s.dev.on (Reg.WFT_LINK_CTL_enable n) = true → s.dev.pwr.target.getD (s.dev.rd Reg.PWR_STATE_state) = 1 →
        Gives (.wakeBlock n) s (fun d =>
          (∀ k, k < 4 → k ≠ n → s.dev.on (Reg.WFT_LINK_CTL_enable k) = true → Out.block k "WAKE" [] ∈ d.out)
            ∧ ((s.dev.reg Reg.PWR_WAKE_EN).toNat.testBit (18 + n) = true → 18 + n ∈ d.pwr.latched))))
  ∧ ∀ s : State, s.dev.mode = .native → s.dev.weftUp = true →
    (∀ n node x y, s.dev.isRoot = true → s.dev.on Reg.WFT_STATUS_numbered = false → Gives (.numbering n node x y) s (fun d =>
      d.self = 0 ∧ d.rd Reg.WFT_MESH_node = 0 ∧ d.on Reg.WFT_STATUS_numbered = true))
    ∧ (s.dev.followsWeft = true → s.dev.on Reg.WFT_BEAT_STAT_locked = true → s.dev.weft.edge = none → Gives .beatBlockMissing s (fun d =>
        d.weft.missed = s.dev.weft.missed + 1 ∧ d.weft.edge = some (s.dev.beat.sbeat + 1, d.beat.clock)
          ∧ d.rd Reg.WFT_BEAT_SLIP_missing = min Reg.WFT_BEAT_SLIP_missing.max (s.dev.rd Reg.WFT_BEAT_SLIP_missing + 1)
          ∧ (s.dev.weft.missed = 3 → d.on Reg.WFT_BEAT_STAT_holdover = true ∧ Recorded d 0x03 4 0)))
    ∧ (s.dev.isRoot = true → s.dev.on Reg.WFT_FLOCK_CFG_enable = true → Gives .frameTimer s (fun d =>
        let frame := (s.dev.rd Reg.WFT_FLOCK_FRAME_frame + 1) % 2 ^ 32
        d.rd Reg.WFT_FLOCK_FRAME_frame = frame ∧ d.weft.lastFrame = some frame
          ∧ d.weft.timer = some (s.dev.weft.timer.getD (s.dev.beat.clock * 64) + (s.dev.reg Reg.WFT_FLOCK_PERIOD).toNat)
          ∧ ∀ k, k < 4 → s.dev.linkUp k = true → Out.block k "FRAME" [frame, 0, 0] ∈ d.out))

/-- Flits, windows and broadcasts (R386, R387, R391, R401, R402, R404). -/
def Sys2Proof.Claims.WeftTraffic : Prop :=
  (∀ (s : State) (n : Nat) (bs : List Byte) (member : Bool), s.dev.linkUp n = true → bs.length = 88 →
    let x := s.dev.link n
    let w := leAt bs 0x50 4
    let sq := bits w 11 0
    let type := bits (leAt bs 0 4) 3 0
    let good := crc32c (bs.take 84) = leAt bs 0x54 4 ∧ type ≤ 9
    let worked := (found s).linkWord n w
    (¬ good → Becomes (.flitReceive n bs member) s ((found s).sendIdle n x.rx true 0 0))
    ∧ (bitOn w 24 = true → bitOn w 25 = true → 9 ≤ x.naks (bits w 23 12) → good → Gives (.flitReceive n bs member) s (fun d =>
        d.linkUp n = false ∧ d.on (Reg.WFT_LINK_STAT_failed n) = true ∧ Recorded d 0x03 4 n))
    ∧ (good → type = 0 → Becomes (.flitReceive n bs member) s worked)
    ∧ (good → worked.linkUp n = true → type ≠ 0 → sq = x.rx →
        let d := (worked.modLink n (fun x => { x with rx := (x.rx + 1) % 4096 })).sendIdle n sq false (worked.vcIn n (bs.take 80)) 1
        Becomes (.flitReceive n bs member) s
          (if flitDst (bs.take 80) = s.dev.self then d.arrive (bs.take 80) member else d.forward (bs.take 80)))
    ∧ (good → worked.linkUp n = true → type ≠ 0 → sq ≠ x.rx → (x.rx + 4096 - sq) % 4096 ≤ 128 →
        Becomes (.flitReceive n bs member) s (worked.sendIdle n ((x.rx + 4095) % 4096) false 0 0))
    ∧ (good → worked.linkUp n = true → type ≠ 0 → sq ≠ x.rx → 128 < (x.rx + 4096 - sq) % 4096 →
        Becomes (.flitReceive n bs member) s (worked.sendIdle n x.rx true 0 0)))
  ∧ (∀ (s : State) (o n : Nat), s.dev.mode = .native → s.dev.isRoot = true → s.dev.lpwUp = true → s.dev.weftUp = true → o < 2 ^ 30 → s.dev.asleep = false →
    s.dev.on (Reg.WFT_WIN_CFG_enable (o / 2 ^ 26)) = true →
    let k := o / 2 ^ 26
    let kind := s.dev.rd (Reg.WFT_WIN_CFG_kind k)
    let node := s.dev.rd (Reg.WFT_WIN_CFG_node k)
    let so := o % 2 ^ 26
    let a := s.dev.addr64 (Reg.WFT_WIN_BASE_LO k) (Reg.WFT_WIN_BASE_HI k) + so
    (kind = 0 → Becomes (.windowAccess o n none) s ((found s).windowRead 4 node so 4))
    ∧ (kind = 1 → Becomes (.windowAccess o n none) s ((found s).windowReads 1 node (n / 61 + 1) a n))
    ∧ (kind = 2 → Gives (.windowAccess o n none) s (fun d => d.out = [.bytes (List.replicate n 0xFF#8)] ∧ d.csr = s.dev.csr
        ∧ SameMem s d))
    ∧ ∀ bs : List Byte, so % 4 = 0 → bs.length % 4 = 0 →
        let parts := chunks64 ((bs.length + 63) / 64) bs
        (kind = 0 → Becomes (.windowAccess o n (some bs)) s ((found s).windowWrite 5 node so parts))
        ∧ (kind = 1 → Becomes (.windowAccess o n (some bs)) s ((found s).windowWrite 2 node a parts))
        ∧ (kind = 2 → Becomes (.windowAccess o n (some bs)) s ((found s).bcastData (s.dev.bcastNodes.contains 0) a false parts).2))
  ∧ (∀ (s : State) (tag : Nat) (r : WReq), s.dev.weft.reqs.find? (fun r => r.tag == tag) = some r → Gives (.windowTimeout tag) s (fun d =>
      d.out = [.bytes (List.replicate r.bytes 0xFF#8)] ∧ (∀ x ∈ d.weft.reqs, x.tag ≠ tag) ∧ d.on Reg.WFT_STATUS_win_err = true
        ∧ Recorded d 0x03 4 0 ∧ SameMem s d))
  ∧ ∀ s : State,
    (∀ ag, s.dev.mayWft ag = true → s.dev.isRoot = true → s.dev.on Reg.WFT_BC_CMD_busy = false →
      let n := s.dev.rd Reg.WFT_BC_LEN_bytes / 64
      (n = 0 → Gives (.bcastGo ag) s (fun d =>
        d.on Reg.WFT_BC_CMD_done = true ∧ d.on Reg.WFT_BC_CMD_busy = false ∧ d.rd Reg.WFT_BC_CMD_status = 0 ∧ SameMem s d))
      ∧ ∀ bs d1, n ≠ 0 →
          ((found s).wr Reg.WFT_BC_CMD_done 0).read (.inst (s.dev.rd Reg.WFT_BC_CMD_inst)) 9
            (s.dev.addr64 Reg.WFT_BC_SRC_LO Reg.WFT_BC_SRC_HI) (n * 64) = (.ok bs, d1) →
          Gives (.bcastGo ag) s (fun d => d.on Reg.WFT_BC_CMD_busy = true ∧ d.on Reg.WFT_BC_CMD_done = false
            ∧ ∃ nodes, d.weft.bcast = some nodes ∧ 0 ∉ nodes))
    ∧ ∀ nodes acked discarded, s.dev.weft.bcast = some nodes →
        let bad := s.dev.weft.bcFail ++ nodes.filter (fun v => !acked.contains v || discarded.contains v)
        Gives (.bcastEnd acked discarded) s (fun d =>
          d.weft.bcast = none ∧ d.on Reg.WFT_BC_CMD_done = true ∧ d.on Reg.WFT_BC_CMD_busy = false
            ∧ d.rd Reg.WFT_BC_CMD_status = (if bad = [] then 0 else 0x10)
            ∧ d.reg Reg.WFT_BC_FAIL_LO = BitVec.ofNat 32 (maskOf bad) ∧ d.reg Reg.WFT_BC_FAIL_HI = BitVec.ofNat 32 (maskOf bad / 2 ^ 32)
            ∧ SameMem s d)

/-! ### UDC-4 software -/

/-- The UDC-4 map (R410, R429 to R431, R434, R439 to R445). -/
def Obligations.UdcCommands : Prop :=
  ∀ s : State, s.dev.mode ≠ .native →
    (∀ (a be : Nat) (v : Word), s.dev.udcUp = true → a < 0x10000 →
      let b := 0x80000000 + a / 4 * 4
      (be % 16 ≠ 15 → Gives (.udcWrite a be v) s (fun d => SetsOnly s d Reg.GLB_STATUS_width))
      ∧ (be % 16 = 15 → s.dev.rd Reg.PWR_STATE_state = 0 → s.dev.pwr.target = none → b ≠ Reg.UDC_STAT →
          (s.dev.udc.twins = [] →
            (s.dev.on Reg.UDC_STAT_busy = true → Gives (.udcWrite a be v) s (fun d => SetsOnly s d Reg.UDC_STAT_ovr))
            ∧ (s.dev.on Reg.UDC_STAT_busy = false → udcGuards.any (fun g => g.2 == b) = false → Gives (.udcWrite a be v) s (fun d =>
                d.udc.land = some (b, v) ∧ d.on Reg.UDC_STAT_busy = true ∧ RegsBut s.dev d [Reg.UDC_STAT] ∧ SameMem s d
                  ∧ d.udc.twins = (if udcGuards.any (fun g => g.1 == b) then [(b, v, s.dev.beat.clock)] else [])))
            ∧ (s.dev.on Reg.UDC_STAT_busy = false → udcGuards.any (fun g => g.2 == b) = true → Gives (.udcWrite a be v) s (fun d =>
                d.on Reg.UDC_STAT_gabort = true ∧ d.on Reg.UDC_STAT_busy = true ∧ RegsBut s.dev d [Reg.UDC_STAT] ∧ SameMem s d)))
          ∧ ∀ r x t, s.dev.udc.twins = [(r, x, t)] → (r, b) ∈ udcGuards → s.dev.beat.clock ≤ t + 800 →
              (v = ~~~x → Gives (.udcWrite a be v) s (fun d =>
                d.udc.land = some (b, v) ∧ d.udc.twins = [] ∧ d.on Reg.UDC_STAT_busy = true ∧ RegsBut s.dev d [Reg.UDC_STAT] ∧ SameMem s d))
              ∧ (v ≠ ~~~x → Gives (.udcWrite a be v) s (fun d =>
                d.udc.twins = [] ∧ d.on Reg.UDC_STAT_gabort = true ∧ d.on Reg.UDC_STAT_busy = true ∧ RegsBut s.dev d [Reg.UDC_STAT]
                  ∧ SameMem s d)))
      ∧ (be % 16 = 15 → s.dev.rd Reg.PWR_STATE_state ≠ 0 → Gives (.udcWrite a be v) s (fun d =>
          d.pwr.heldTlp = s.dev.pwr.heldTlp ++ [.reg .legacy a v] ∧ d.udc = s.dev.udc)))
    ∧ (s.dev.udc.land = none → Gives .udcWriteLand s (fun d => d = found s))
    ∧ (∀ b v, s.dev.udc.land = some (b, v) →
        let d0 := Device.wr { s.dev with out := [], udc := { s.dev.udc with land := none } } Reg.UDC_STAT_busy 0
        (udcGuards.any (fun g => g.1 == b) = true → Gives .udcWriteLand s (fun d => d = d0))
        ∧ (udcGuards.any (fun g => g.1 == b || g.2 == b) = false → (findRow b).isSome = true →
            Becomes .udcWriteLand s ((d0.watchInta (fun d => d.plain .manager b v)).udcAct b v))
        ∧ (∀ r, (r, b) ∈ udcGuards → Becomes .udcWriteLand s (d0.udcGuarded r (~~~v))))
    ∧ (∀ h, h < 4 →
        let d0 := ((found s).free.2.wr (Reg.UDC_H_CTL_pending h) 1).mail (h / 2) (BitVec.ofNat 32 (found s).free.1)
        (s.dev.draftUp (h / 2) = false → Gives (.udcUpdate h) s (fun d =>
          d = d0 ∧ d.on (Reg.UDC_H_CTL_pending h) = true ∧ (d.seq (h / 2)).sevent = (s.dev.seq (h / 2)).sevent ||| 2 ^ evMail))
        ∧ (s.dev.draftUp (h / 2) = true → Becomes (.udcUpdate h) s ((d0.udcCommit h).castVotes))
        ∧ (s.dev.legacyHead h = true → s.dev.running h = true → s.dev.on (Reg.HEAD_STATUS_restarting h) = false →
            Gives (.udcVsync h) s (fun d =>
              (d.rd Reg.UDC_INT_STAT_events).testBit h = true ∧ RegsBut s.dev d [Reg.UDC_INT_STAT] ∧ SameMem s d))
        ∧ Gives (.udcResetHead h) s (fun d =>
            (∀ p, p < 4 → d.reg (Reg.UDC_P_CTL h p) = regReset (Reg.UDC_P_CTL h p))
              ∧ (s.dev.running h = true → ∃ p ∈ (d.head h).coming, p.group = 0 ∧ (p.words.getD 7 0#32).getLsbD 31 = false))
        ∧ (s.dev.draftUp 0 = false → Gives (.udcChimeStop h) s (fun d => d = found s))
        ∧ (s.dev.draftUp 0 = true → s.dev.handovers = [] → s.dev.on (Reg.AUD_GEN_CFG_sec h) = false → Gives (.udcChimeStop h) s (fun d =>
            tget (fun _ => []) d.aud.reqs h = tget (fun _ => []) s.dev.aud.reqs h ++ [none] ∧ d.csr = s.dev.csr))
        ∧ Gives (.udcChimeGo h) s (fun d =>
            d.reg (Reg.AUD_PRESET (8 * (192 + h))) = 0#32
              ∧ d.reg (Reg.AUD_PRESET (8 * (192 + h) + 1)) = BitVec.ofNat 32 (s.dev.rd (Reg.UDC_CHM_FREQ_freq h))
              ∧ d.reg (Reg.AUD_PRESET (8 * (192 + h) + 2)) = BitVec.ofNat 32 (s.dev.rd (Reg.UDC_CHM_CTL_vol h) * 0x80)
              ∧ (s.dev.draftUp 0 = false → d.aud = s.dev.aud) ∧ SameMem s d))
    ∧ (s.dev.on Reg.UDC_BLT_CTL_busy = true ∨ s.dev.draftUp 1 = false → Gives .udcBlitGo s (fun d => d = found s))
    ∧ (s.dev.on Reg.UDC_BLT_CTL_busy = false → s.dev.draftUp 1 = true → Gives .udcBlitGo s (fun d =>
        d.on Reg.UDC_BLT_CTL_busy = true ∧ (s.dev.blitting = false → (s.dev.copy 3).waiting.length < 16 →
          d.udc.blit = s.dev.blitSegs.drop (min 2047 s.dev.blitSegs.length)
            ∧ (d.copy 3).waiting = (s.dev.copy 3).waiting ++ [{ src := .blit, addr := s.dev.blitArea }])))
    ∧ (∀ c, (s.dev.copy 3).run = some c → c.src = .blit →
        exec .udcBlitEnd s = exec (.copyChainEnd 3 0 0) s
          ∧ ∀ st det d1, (found s).chainWork c 3 0 0 = ((st, det), d1) → s.dev.udc.blit = [] → Gives .udcBlitEnd s (fun d =>
              (d.copy 3).run = none ∧ d.on Reg.UDC_BLT_CTL_busy = false ∧ d.mems = d1.mems
                ∧ (st ≠ stDone → d.on Reg.UDC_BLT_CTL_err = true)))
    ∧ Gives .udcMixApply s (fun d => d.on Reg.UDC_MIX_CTL_pending = true ∧ SameMem s d)
    ∧ (s.dev.draftUp 0 = true → s.dev.aud.swap = none → s.dev.aud.copying = none → s.dev.udc.copyDue = false → s.dev.fallow = false →
        Gives .udcMixApply s (fun d =>
          d.udc.mixing = true ∧ d.aud.swap = some ⟨s.dev.beat.sbeat + 1, 48, some 0⟩
            ∧ ∀ o i, o < 4 → i < 8 →
                d.reg (Reg.AUD_NODE (1 - s.dev.bank) (128 * legacySinks.getD o 0 + legacySources.getD i 0)) =
                  BitVec.ofNat 32 (s.dev.rd (Reg.UDC_MIX_gain o i) * 0x100)))
    ∧ (∀ v : Word, s.dev.mode = .mixed → v.toNat / 2 ^ 16 = 0x4153 →
        Gives (.mixedSwapRequest v) s (fun d => d.reg (Reg.CSQ_MAIL 0) = v
          ∧ (d.seq 0).sevent = (s.dev.seq 0).sevent ||| 2 ^ evMail ∧ SameMem s d)
        ∧ (s.dev.draftUp 0 = true → s.dev.aud.swap = none → s.dev.aud.copying = none → s.dev.udc.copyDue = false → s.dev.fallow = false →
            v.toNat % 8192 ≤ 4096 → Gives (.mixedSwapRequest v) s (fun d =>
              d.aud.swap = some ⟨s.dev.beat.sbeat + 1, v.toNat % 8192, some 0⟩)))
    ∧ (∀ p, p < 2 →
        (tget (fun _ => []) s.dev.udc.fifos p = [] → Gives (.udcTchFifoRead p) s (fun d => d.out = [.data 0] ∧ d.csr = s.dev.csr))
        ∧ ∀ w q, tget (fun _ => []) s.dev.udc.fifos p = w :: q → Gives (.udcTchFifoRead p) s (fun d =>
            d.out = [.data w.toNat] ∧ tget (fun _ => []) d.udc.fifos p = q ∧ d.rd (Reg.UDC_TCH_STAT_count p) = q.length % 32
              ∧ RegsBut s.dev d [Reg.UDC_TCH_STAT p]))
    ∧ Gives .udcResetAll s (fun d =>
        d.udc.land = none ∧ d.udc.twins = [] ∧ d.udc.fifos = [] ∧ d.udc.blit = [] ∧ (d.seq 0).running = false ∧ (d.seq 1).running = false
          ∧ ∀ h, h < 4 → s.dev.running h = true → (d.head h).coming = [])
    ∧ (∀ off, off < 16 → Gives (.udcHeadOff off) s (fun d =>
        d.rd Reg.UDC_PWR_head_off = off
          ∧ ∀ h, h < 4 → off.testBit h = true → s.dev.running h = true →
              ∃ p ∈ (d.head h).coming, p.group = 0 ∧ (p.words.getD 7 0#32).getLsbD 31 = false))
    ∧ (∀ code, code < 4 → Gives (.udcClkdiv code) s (fun d =>
        d.rd Reg.UDC_PWR_clkdiv = code ∧ SameMem s d
          ∧ ∀ n, n < 2 → d.rd (Reg.PWR_DVFS_req_n n) = (clockPoints s.dev.grade).getD code 0))
    ∧ ∀ on, Gives (.udcStandby on) s (fun d => d.on Reg.UDC_PWR_standby = on
        ∧ (on = true → s.dev.on Reg.UDC_PWR_standby = false → s.dev.mode = .legacy → s.dev.on Reg.PWR_STATE_busy = false →
            d.pwr.req = some (1, false)))

/-! ### Loads, start-up and debug -/

/-- Loads and controls of the sequencers (R60, R72, R77 to R79, R369, R383). -/
def Obligations.SequencerControl : Prop :=
  (∀ (s : State) (ag : Agent) (q : Nat), s.dev.maySeq ag q = true →
    (s.dev.on (Reg.CSQ_LOAD_pending q) = true → Gives (.csqLoadGo ag q) s (fun d =>
      d.rd (Reg.CSQ_LOAD_result q) = resBusy ∧ d.seqs = s.dev.seqs ∧ RegsBut s.dev d [Reg.CSQ_LOAD q]))
    ∧ (s.dev.on (Reg.CSQ_LOAD_pending q) = false → Gives (.csqLoadGo ag q) s (fun d =>
        d.on (Reg.CSQ_LOAD_pending q) = true ∧ d.seq q = { s.dev.seq q with loading := true } ∧ RegsBut s.dev d [Reg.CSQ_LOAD q]))
    ∧ ((s.dev.seq q).halted = true → (q = 4 → s.dev.on Reg.FLT_SSQ_halted = false) → Gives (.csqRestart ag q) s (fun d =>
        d.seq q = { s.dev.seq q with halted := false, fresh := true, inTrap := false } ∧ d.csr = s.dev.csr))
    ∧ ((s.dev.seq q).halted = false → Gives (.csqRestart ag q) s (fun d => d = found s))
    ∧ (∀ run, Gives (.csqRun ag q run) s (fun d =>
        d.on (Reg.CSQ_CTL_run q) = run ∧ OnlyRegs s.dev d ∧ RegsBut s.dev d [Reg.CSQ_CTL q]))
    ∧ (∀ v, Gives (.csqMail ag q v) s (fun d =>
        d.reg (Reg.CSQ_MAIL q) = v ∧ d.seq q = { s.dev.seq q with sevent := (s.dev.seq q).sevent ||| 2 ^ evMail }
          ∧ RegsBut s.dev d [Reg.CSQ_MAIL q]))
    ∧ (∀ v : Word, q < 4 → Gives (.csqVote ag q v) s (fun d =>
        d.reg (Reg.CSQ_VOTE q) = (v &&& 0x7FC#32) ∧ d.reg (Reg.PWR_VOTE (q + 1)) = (v &&& 0x7FC#32)
          ∧ RegsBut s.dev d [Reg.CSQ_VOTE q, Reg.PWR_VOTE (q + 1)])))
  ∧ (∀ (s : State) (ag : Agent) (q : Nat), s.dev.maySeq ag q = false → (ag ≠ .manager ∨ 4 ≤ q) →
    Gives (.csqLoadGo ag q) s (fun d => d = found s) ∧ Gives (.csqRestart ag q) s (fun d => d = found s)
      ∧ (∀ v, Gives (.csqMail ag q v) s (fun d => d = found s)) ∧ (∀ v, Gives (.csqVote ag q v) s (fun d => d = found s))
      ∧ ∀ run, Gives (.csqRun ag q run) s (fun d => d = found s))
  ∧ ∀ (s : State) (q : Nat), q ≤ 4 → (s.dev.seq q).loading = true →
    (∀ d1, (found s).readImage (s.dev.seq q).loadAt q = (none, d1) →
      Gives (.imageVerifyDone q) s (fun d => d.rd (Reg.CSQ_LOAD_result q) = resInvalid ∧ d.on (Reg.CSQ_LOAD_pending q) = false
        ∧ (d.seq q).loading = false ∧ (d.seq q).next = none))
    ∧ ∀ b d1, (found s).readImage (s.dev.seq q).loadAt q = (some b, d1) →
        let r := d1.imageResult q b false
        Gives (.imageVerifyDone q) s (fun d => d.rd (Reg.CSQ_LOAD_result q) = r ∧ d.on (Reg.CSQ_LOAD_pending q) = decide (r = resOk)
          ∧ (d.seq q).loading = false ∧ (d.seq q).next = (if r = resOk then some (imageOf b) else none) ∧ d.mems = d1.mems)

/-- Resets, pins, start-up and links of the host (R4, R5, R280, R283, R346, R379, R443, R456 to R459, R468, R472, R474 to R479). -/
def Obligations.StartUp : Prop :=
  ∀ s : State,
    (∀ g, s.dev.pinHeld g = true → s.dev.pinState g = g.inReset)
    ∧ (∀ n, s.dev.pinHeld (.bridge n) = false → s.dev.on (Reg.HAP_CFG_enable n) = false →
        s.dev.pinState (.bridge n) = (if s.dev.glass.vhap then .lowSides else .highZ))
    ∧ (∀ n, s.dev.pinHeld (.tx n) = false → s.dev.on (Reg.TCH_CFG_enable n) = false → s.dev.pinState (.tx n) = .low)
    ∧ (∀ p, s.dev.pinHeld (.tdm p) = false → bitOn (s.dev.reg (Reg.AUD_TDM_CFG p)).toNat 31 = false → s.dev.pinState (.tdm p) = .highZ)
    ∧
    (∀ m1 m0, s.dev.boot.low = true → Gives (.resetNRise m1 m0) s (fun d =>
      d.boot.low = false ∧ d.rd Reg.GLB_MODE_pins = 2 * pinLevel m1 + pinLevel m0
        ∧ (s.dev.phase = 0 → s.dev.boot.vhold = true → s.dev.boot.brown = false → s.dev.boot.hot = false →
            s.dev.boot.stopped = false → d.phase = 1) ∧ SameMem s d))
    ∧ (s.dev.boot.low = false → Gives .resetNFall s (fun d =>
        d.boot.low = true ∧ (∀ g, d.pinState g = g.inReset) ∧ d.phase = 0 ∧ d.seqs = [] ∧ d.q = Device.reset.q ∧ d.mems.lp5x = []
          ∧ (s.dev.seed.parked = true → d.mems.mram = s.dev.mems.mram ∧ d.mems.host = s.dev.mems.host)))
    ∧ (∀ ag, s.dev.phase ≠ 0 →
        (agentSecure ag = true → Gives (.deviceReset ag) s (fun d =>
          d.phase = 0 ∧ d.seqs = [] ∧ d.q = Device.reset.q ∧ d.mems.lp5x = [] ∧ d.boot.low = s.dev.boot.low))
        ∧ (agentSecure ag = false → Gives (.deviceReset ag) s (fun d => d = found s)))
    ∧ (∀ sec t75 t90, s.dev.boot.hot = false → Gives (.thermalShutdown sec t75 t90) s (fun d =>
        d.boot.hot = true ∧ d.phase = 0 ∧ d.seqs = []))
    ∧ (s.dev.boot.hot = true → Becomes .thermalRestart s (Device.startUp { s.dev with out := [], boot := { s.dev.boot with hot := false } }))
    ∧ (s.dev.boot.vhold = false →
        Becomes .vholdGood s (Device.startUp { s.dev with out := [], boot := { s.dev.boot with vhold := true } }))
    ∧ (2 ≤ s.dev.phase → Becomes .perstNAssert s (found s).resetHost ∧ Gives .perstNAssert s (HostReset s))
    ∧ (s.dev.phase = 1 → s.dev.on Reg.SEED_STATUS_ready = false → Gives .seedMirrorReady s (fun d =>
        d.phase = 2 ∧ d.on Reg.SEED_STATUS_ready = true ∧ d.rd Reg.GLB_MODE_mode = modeBit d.mode
          ∧ (s.dev.rd Reg.GLB_MODE_pins = 0 → d.mode = .native) ∧ (s.dev.rd Reg.GLB_MODE_pins = 1 → d.mode = .legacy)
          ∧ (s.dev.rd Reg.GLB_MODE_pins = 2 → d.mode = .mixed)
          ∧ d.rd Reg.WLD_DBG_in_effect = bits (d.reg Reg.WLD_DBG).toNat 3 0))
    ∧ (∀ t : Training, s.dev.phase = 2 →
        (t.failed = [] → Gives (.trainingDone t) s (fun d =>
          d.phase = 3 ∧ d.rd Reg.MEM_TRAIN_fail_mask = 0 ∧ d.rd Reg.MEM_CFG_size = t.size % 256))
        ∧ (s.dev.fastPath t = none → (∃ b ∈ t.failed, b < 16) → Gives (.trainingDone t) s (fun d =>
            d.phase = 0xF ∧ d.rd Reg.GLB_BOOT_error = 1 ∧ (∀ b, b < 16 → (d.rd Reg.MEM_TRAIN_fail_mask).testBit b = t.failed.contains b)
              ∧ ∀ b ∈ t.failed, b < 16 → Recorded d 0x03 5 b)))
    ∧ (s.dev.phase = 3 → s.dev.on (Reg.CSQ_LOAD_pending 4) = false →
        (s.dev.noKeys = true → Gives .bootImageCheck s (fun d => d.phase = 0xF ∧ d.rd Reg.GLB_BOOT_error = 5 ∧ Recorded d 0x04 5 0))
        ∧ (s.dev.noKeys = false → s.dev.seedValue 0xFC0 % 4 = 2 → Gives .bootImageCheck s (fun d => d.phase = 4 ∧ SameMem s d))
        ∧ (s.dev.noKeys = false → s.dev.seedValue 0xFC0 % 4 ≠ 2 → contHeaderOk (s.dev.flashCopy 0) = false →
            contHeaderOk (s.dev.flashCopy 1) = false → Gives .bootImageCheck s (fun d =>
              d.phase = (if s.dev.seedValue 0xFC0 % 4 = 1 then 0xF else 4) ∧ d.rd Reg.GLB_BOOT_error = 2 ∧ Recorded d 0x04 5 0
                ∧ Recorded d 0x04 5 1))
        ∧ (s.dev.noKeys = false → s.dev.seedValue 0xFC0 % 4 ≠ 2 → contHeaderOk (s.dev.flashCopy 0) = true →
            contHeaderOk (s.dev.flashCopy 1) = false → s.dev.contRefusal (s.dev.flashCopy 0) = 0 →
            Becomes .bootImageCheck s (((found s).refuseCopy 1 2).contAccept (s.dev.flashCopy 0) 0)))
    ∧ (s.dev.phase = 4 → ∀ r d1,
        (found s).read .phys 8 (s.dev.addr64 Reg.GLB_BOOT_IMG_LO Reg.GLB_BOOT_IMG_HI) 0x400 = (r, d1) →
        (∀ e, r = .error e → Gives (.bootCmdGo .manager) s (fun d =>
          d.rd Reg.GLB_BOOT_CMD_result = resInvalid ∧ d.rd Reg.GLB_BOOT_error = 2 ∧ d.phase = 4 ∧ Recorded d 0x04 5 2))
        ∧ ∀ h b d2, r = .ok h → contHeaderOk h = true →
            d1.read .phys 8 (s.dev.addr64 Reg.GLB_BOOT_IMG_LO Reg.GLB_BOOT_IMG_HI) (contLen h) = (.ok b, d2) → d2.contRefusal b = 0 →
            Becomes (.bootCmdGo .manager) s (((d2.wr Reg.GLB_BOOT_CMD_result resOk).wr Reg.GLB_BOOT_phase 3).contAccept b 2))
    ∧ (∀ ag, ag ≠ .manager → Gives (.bootCmdGo ag) s (fun d => d = found s))
    ∧ (s.dev.phase ≠ 0 → Gives .pcieReplayLimit s (fun d =>
        Recorded d 0x03 1 0 ∧ d = ((found s).resetHost.takeOut unitHost 1600000).raise (fault 0x03 1 Reg.HIF_CTL 0)))
    ∧ (s.dev.pwr.wakeN = false → Gives .pcieLinkL0 s (fun d =>
        d.pwr = { s.dev.pwr with wakeN := true, linkL2 := false } ∧ d.out = [.pin "WAKE_N" 0 1] ∧ d.csr = s.dev.csr))
    ∧ (∀ op, s.dev.phase = 1 → s.dev.hostUp = true → Gives (.configurationRequest 0 op) s (fun d => d = { found s with out := [.crs] }))
    ∧ (∀ fn on, s.dev.hostUp = true → fn ≤ 31 → 2 ≤ s.dev.phase → (fn ≠ 0 → s.dev.phase = 5) → s.dev.asleep = false →
        Gives (.configurationRequest fn (.msixEnable on)) s (fun d =>
          d.reg (pciReg fn 0) = (if on then 1#32 else 0#32) ∧ RegsBut s.dev d [pciReg fn 0])
        ∧ Gives (.configurationRequest fn (.intDisable on)) s (fun d =>
            d.reg (pciReg fn 1) = (if on then 1#32 else 0#32) ∧ RegsBut s.dev d [pciReg fn 1]
              ∧ (d.inta ≠ s.dev.inta → d.out = [.inta d.inta]))
        ∧ Gives (.configurationRequest fn (.atsEnable on)) s (fun d =>
            d.reg (pciReg fn 2) = (if on then 1#32 else 0#32) ∧ RegsBut s.dev d [pciReg fn 2])
        ∧ (∀ o v, Gives (.configurationRequest fn (.write o v)) s (fun d => d = found s))
        ∧ ∀ o, Gives (.configurationRequest fn (.read o)) s (fun d =>
            d.out = [.data (Config.freeNat s.dev.draws % 2 ^ 32)] ∧ d.csr = s.dev.csr ∧ SameMem s d))

/-- The debug port and the test logic (R312): what its enables permit, and nothing without them. -/
def Obligations.DebugAccess : Prop :=
  ∀ s : State,
    (∀ sec a n bs v, s.dev.dbgInv sec = false →
      Gives (.debugPortAccess (.writeReg sec a v)) s (fun d => d = found s)
      ∧ Gives (.debugPortAccess (.readMem sec a n)) s (fun d => d = found s)
      ∧ Gives (.debugPortAccess (.writeMem sec a bs)) s (fun d => d = found s)
      ∧ (s.dev.dbgRead sec = false ∨ counterReg a = false → Gives (.debugPortAccess (.readReg sec a)) s (fun d => d = found s)))
    ∧ (∀ sec a v, s.dev.dbgInv sec = true → Becomes (.debugPortAccess (.writeReg sec a v)) s ((found s).regWrite (.debug sec) a v))
    ∧ (∀ sec a w d1, s.dev.dbgInv sec = true ∨ (s.dev.dbgRead sec = true ∧ counterReg a = true) →
        ((found s).settlePosted a (postedOf a)).regRead sec a = (w, d1) →
        Becomes (.debugPortAccess (.readReg sec a)) s (d1.emit (.data w.toNat)))
    ∧ (∀ sec a n bs d1, s.dev.dbgInv sec = true → (found s).read (if sec then .securePhys else .phys) 8 a n = (.ok bs, d1) →
        Becomes (.debugPortAccess (.readMem sec a n)) s (d1.emit (.bytes bs)))
    ∧ (∀ sec a bs r d1, s.dev.dbgInv sec = true → (found s).write (if sec then .securePhys else .phys) 8 a bs = (r, d1) →
        Becomes (.debugPortAccess (.writeMem sec a bs)) s d1)
    ∧ (∀ q, q ≤ 4 →
        (s.dev.dbgInv (q == 4) = true →
          Gives (.debugPortAccess (.halt q)) s (fun d => q ∈ d.boot.halts ∧ d.csr = s.dev.csr ∧ d.seqs = s.dev.seqs)
          ∧ Gives (.debugPortAccess (.go q)) s (fun d => q ∉ d.boot.halts ∧ q ∉ d.boot.steps ∧ d.seqs = s.dev.seqs)
          ∧ (q ∈ s.dev.boot.halts → Gives (.debugPortAccess (.step q)) s (fun d => d.boot.steps = s.dev.boot.steps ++ [q]))
          ∧ ∀ i w, i < 0x4000 → Gives (.debugPortAccess (.load q true i [w])) s (fun d =>
              tget (fun _ => 0xFFFFFFFF#32) (d.seq q).imem i = w ∧ OnlySeq s.dev d q))
        ∧ (s.dev.dbgInv (q == 4) = false → ∀ op ∈ [DebugOp.halt q, .step q, .go q], Gives (.debugPortAccess op) s (fun d => d = found s))
        ∧ (s.dev.dbgRead (q == 4) = true → Gives (.debugPortAccess (.trace q)) s (fun d => d.out = [.data (s.dev.seq q).pc]
            ∧ d.seqs = s.dev.seqs)))
    ∧ (∀ e, e < 8192 →
        let b := rawRead s.dev.mems.mram (0x140000 + 64 * e) 64
        s.dev.on Reg.SEED_STATUS_ready = true → s.dev.dbgRead ((leAt b 0 4).testBit 19) = true →
        Gives (.debugPortAccess (.readLog e)) s (fun d => d.out = [.bytes b] ∧ d.csr = s.dev.csr))
    ∧ ∀ op, Gives (.jtagInstruction op) s (fun d =>
        d.boot.jtag = (if (op = .extest ∨ op = .intest) ∧ s.dev.boot.low = false ∧ (s.dev.dbg 1 && s.dev.dbg 3) = false
          then .bypass else op) ∧ d.csr = s.dev.csr ∧ SameMem s d)

/-! ### The queue and reset -/

/-- A step takes the front command away and no command adds one, so a queue of commands that name what the D8 has stays one. -/
def Sys2Proof.Claims.QueueStaysWellFormed : Prop :=
  ∀ s t : State, step s = .next t → t.pending = s.pending.drop 1 ∧ (QueueWf s → QueueWf t)

/-- What the rules say of the machine at reset (R24, R36, R269, R274, R419, R475): no command waits, no beat edge has been, the arbiters
point at input 11, the twin of GLB_RST holds its complement, and start-up has not begun. -/
def Obligations.ResetState : Prop :=
  let d := State.reset.dev
  State.reset.pending = [] ∧ d.beat.started = false ∧ d.beatTime % 65536 = 0
    ∧ (∀ b, (d.arb b).ptrA = 11 ∧ (d.arb b).ptrB = 11 ∧ (d.arb b).ptrC = 11)
    ∧ (∀ a, d.reg a = regReset a) ∧ d.rd Reg.MEM_SCAN_share = 27 ∧ (∀ q, q ≤ 3 → d.rd (Reg.BEAT_SQ_BUDGET_cycles q) = 80000)
    ∧ d.reg (Reg.GLB_RST + 4) = ~~~ d.reg Reg.GLB_RST ∧ (∀ q, (d.seq q).running = false ∧ (d.seq q).imageValid = false)
    ∧ twf regReset d.csr = true ∧ twf memDflt d.mems.lp5x = true ∧ twf memDflt d.mems.mram = true ∧ QueueWf State.reset

/-! ### Statements in parts -/

/-- The queue is served in order: an empty one lets one tick of FCLK pass (the model's choice, log entry 4); a step takes the front command
away and no command adds one. -/
def Obligations.QueueIsServedInOrder : Prop := Claims.IdleStepIsATick ∧ Claims.QueueStaysWellFormed

/-- What holds a pass up (R34, R35, R37, R63, R64, R71, R73): its waits and what ends them, and the overrun of its budget. -/
def Obligations.WaitsAndOverruns : Prop := Claims.Waits ∧ Claims.Overruns

/-- Posts of every class and the other engine commands (R41, R59, R61, R65 to R67, R69). -/
def Obligations.PostsAndEngineCommands : Prop := Claims.Posts ∧ Claims.EngineCommands

/-- The memory system (R262 to R266, R269, R270, R273, R276 to R279, R282, R284, R287, R288, R292). -/
def Obligations.MemorySystem : Prop := Claims.CacheAndArbiters ∧ Claims.MemoryControllers ∧ Claims.CopyChains

/-- Touch front ends, relaxation channels and trigger pins (R207, R208, R210, R214 to R216, R221, R222, R232). -/
def Obligations.TouchPanelsAndPins : Prop := Claims.TouchCommands ∧ Claims.ButtonsAndTriggers

/-- Weft links, blocks, flits, windows and broadcasts (R385 to R392, R394, R396, R397, R399, R401, R402, R404, R406). -/
def Obligations.Weft : Prop := Claims.WeftLinks ∧ Claims.WeftTraffic

/-- Mediation calls and what they start (R93, R296 to R299, R302 to R304, R306 to R308). -/
def Obligations.Guests : Prop := Claims.MediationCalls ∧ Claims.InstanceOperations
end

