-- ==== Sys2Proof/Laws/State.lean ====
section
/-!
SUPPORT. What the small updates of the device leave alone: one lemma for each field and update, and what a register, a
field and a sequencer read as after an update of their own kind.
-/

namespace Sys2Proof.Machine

open Sys2Proof

/-! ### Sparse tables -/

theorem tget_tput_same {α : Type} (z : Nat → α) (m : List (Nat × α)) (k : Nat) (v : α) : tget z (tput m k v) k = v := by
  induction m with
  | nil => simp [tput, tget]
  | cons p r ih =>
    obtain ⟨j, x⟩ := p
    simp only [tput]
    split
    · simp [tget]
    · split
      · simp [tget]
      · simp only [tget]; rw [if_neg (by assumption)]; exact ih

theorem tget_tput_other {α : Type} (z : Nat → α) (m : List (Nat × α)) (k i : Nat) (v : α) (h : k ≠ i) :
    tget z (tput m k v) i = tget z m i := by
  induction m with
  | nil => simp [tput, tget, h]
  | cons p r ih =>
    obtain ⟨j, x⟩ := p
    simp only [tput]
    split
    · simp [tget, h]
    · split
      · rename_i e; subst e; simp [tget, h]
      · simp only [tget]; split <;> simp_all

theorem tget_tdel_same {α : Type} (z : Nat → α) (m : List (Nat × α)) (k : Nat) : tget z (tdel m k) k = z k := by
  induction m with
  | nil => rfl
  | cons p r ih =>
    obtain ⟨j, x⟩ := p
    simp only [tdel]
    split
    · exact ih
    · rename_i e
      simp only [tget, if_neg e]
      exact ih

theorem tget_tdel_other {α : Type} (z : Nat → α) (m : List (Nat × α)) (k i : Nat) (h : k ≠ i) :
    tget z (tdel m k) i = tget z m i := by
  induction m with
  | nil => rfl
  | cons p r ih =>
    obtain ⟨j, x⟩ := p
    simp only [tdel]
    split
    · rename_i e; subst e; rw [ih]; simp [tget, h]
    · simp only [tget]; split <;> simp_all

/-- A write reads back. -/
@[simp] theorem tget_tset_same {α : Type} [DecidableEq α] (z : Nat → α) (m : List (Nat × α)) (k : Nat) (v : α) :
    tget z (tset z m k v) k = v := by
  unfold tset
  split
  · rename_i e; rw [tget_tdel_same z m k]; exact e.symm
  · exact tget_tput_same z m k v

/-- A write changes no other number. -/
theorem tget_tset_other {α : Type} [DecidableEq α] (z : Nat → α) (m : List (Nat × α)) (k i : Nat) (v : α) (h : k ≠ i) :
    tget z (tset z m k v) i = tget z m i := by
  unfold tset
  split
  · exact tget_tdel_other z m k i h
  · exact tget_tput_other z m k i v h

theorem keys_tput {α : Type} (m : List (Nat × α)) (k : Nat) (v : α) :
    ∀ j ∈ (tput m k v).map (·.1), j = k ∨ j ∈ m.map (·.1) := by
  induction m with
  | nil => simp [tput]
  | cons p r ih =>
    obtain ⟨i, x⟩ := p
    simp only [tput]
    split
    · simp
    · split
      · rename_i e; subst e; simp
      · intro j hj
        simp only [List.map_cons, List.mem_cons] at hj ⊢
        rcases hj with rfl | hj
        · exact .inr (.inl rfl)
        · rcases ih j hj with rfl | h
          · exact .inl rfl
          · exact .inr (.inr h)

theorem keys_tdel {α : Type} (m : List (Nat × α)) (k : Nat) : ∀ j ∈ (tdel m k).map (·.1), j ∈ m.map (·.1) := by
  induction m with
  | nil => simp [tdel]
  | cons p r ih =>
    obtain ⟨i, x⟩ := p
    simp only [tdel]
    split
    · intro j hj; exact List.mem_cons_of_mem _ (ih j hj)
    · intro j hj
      simp only [List.map_cons, List.mem_cons] at hj ⊢
      rcases hj with rfl | hj
      · exact .inl rfl
      · exact .inr (ih j hj)

theorem twf_tdel {α : Type} [DecidableEq α] (z : Nat → α) (m : List (Nat × α)) (k : Nat) (h : twf z m = true) :
    twf z (tdel m k) = true := by
  induction m with
  | nil => rfl
  | cons p r ih =>
    obtain ⟨j, x⟩ := p
    have h' := h
    simp only [twf, Bool.and_eq_true, List.all_eq_true, decide_eq_true_eq] at h
    simp only [tdel]
    split
    · exact ih h.2
    · simp only [twf, Bool.and_eq_true, List.all_eq_true, decide_eq_true_eq]
      exact ⟨⟨h.1.1, fun i hi => h.1.2 i (keys_tdel r k i hi)⟩, ih h.2⟩

theorem twf_tput {α : Type} [DecidableEq α] (z : Nat → α) (m : List (Nat × α)) (k : Nat) (v : α) (hv : v ≠ z k)
    (h : twf z m = true) : twf z (tput m k v) = true := by
  induction m with
  | nil => simp [tput, twf, hv]
  | cons p r ih =>
    obtain ⟨j, x⟩ := p
    have h' := h
    simp only [twf, Bool.and_eq_true, List.all_eq_true, decide_eq_true_eq] at h
    simp only [tput]
    split
    · rename_i hk
      simp only [twf, Bool.and_eq_true, List.all_eq_true, decide_eq_true_eq, List.map_cons, List.mem_cons, forall_eq_or_imp]
      exact ⟨⟨hv, hk, fun i hi => Nat.lt_trans hk (h.1.2 i hi)⟩, ⟨h.1.1, h.1.2⟩, h.2⟩
    · split
      · rename_i e
        subst e
        simp only [twf, Bool.and_eq_true, List.all_eq_true, decide_eq_true_eq]
        exact ⟨⟨hv, h.1.2⟩, h.2⟩
      · simp only [twf, Bool.and_eq_true, List.all_eq_true, decide_eq_true_eq]
        refine ⟨⟨h.1.1, fun i hi => ?_⟩, ih h.2⟩
        rcases keys_tput r k v i hi with rfl | hi
        · omega
        · exact h.1.2 i hi

/-- A write keeps the canonical form. -/
theorem twf_tset {α : Type} [DecidableEq α] (z : Nat → α) (m : List (Nat × α)) (k : Nat) (v : α) (h : twf z m = true) :
    twf z (tset z m k v) = true := by
  unfold tset
  split
  · exact twf_tdel z m k h
  · exact twf_tput z m k v (by assumption) h

/-! ### Fields that an update leaves alone -/

@[simp] theorem Device.emit_grade (d : Device) (o : Out) : (d.emit o).grade = d.grade := rfl
@[simp] theorem Device.emit_mode (d : Device) (o : Out) : (d.emit o).mode = d.mode := rfl
@[simp] theorem Device.emit_csr (d : Device) (o : Out) : (d.emit o).csr = d.csr := rfl
@[simp] theorem Device.emit_act (d : Device) (o : Out) : (d.emit o).act = d.act := rfl
@[simp] theorem Device.emit_mems (d : Device) (o : Out) : (d.emit o).mems = d.mems := rfl
@[simp] theorem Device.emit_beat (d : Device) (o : Out) : (d.emit o).beat = d.beat := rfl
@[simp] theorem Device.emit_seqs (d : Device) (o : Out) : (d.emit o).seqs = d.seqs := rfl
@[simp] theorem Device.emit_flt (d : Device) (o : Out) : (d.emit o).flt = d.flt := rfl
@[simp] theorem Device.emit_q (d : Device) (o : Out) : (d.emit o).q = d.q := rfl
@[simp] theorem Device.emit_insts (d : Device) (o : Out) : (d.emit o).insts = d.insts := rfl
@[simp] theorem Device.emit_headVec (d : Device) (o : Out) : (d.emit o).headVec = d.headVec := rfl
@[simp] theorem Device.emit_handovers (d : Device) (o : Out) : (d.emit o).handovers = d.handovers := rfl
@[simp] theorem Device.emit_guards (d : Device) (o : Out) : (d.emit o).guards = d.guards := rfl
@[simp] theorem Device.emit_posted (d : Device) (o : Out) : (d.emit o).posted = d.posted := rfl
@[simp] theorem Device.emit_copies (d : Device) (o : Out) : (d.emit o).copies = d.copies := rfl
@[simp] theorem Device.emit_mem (d : Device) (o : Out) : (d.emit o).mem = d.mem := rfl
@[simp] theorem Device.emit_seed (d : Device) (o : Out) : (d.emit o).seed = d.seed := rfl
@[simp] theorem Device.emit_pwr (d : Device) (o : Out) : (d.emit o).pwr = d.pwr := rfl
@[simp] theorem Device.emit_ras (d : Device) (o : Out) : (d.emit o).ras = d.ras := rfl
@[simp] theorem Device.emit_disp (d : Device) (o : Out) : (d.emit o).disp = d.disp := rfl
@[simp] theorem Device.emit_glass (d : Device) (o : Out) : (d.emit o).glass = d.glass := rfl
@[simp] theorem Device.emit_aud (d : Device) (o : Out) : (d.emit o).aud = d.aud := rfl
@[simp] theorem Device.emit_udc (d : Device) (o : Out) : (d.emit o).udc = d.udc := rfl
@[simp] theorem Device.emit_weft (d : Device) (o : Out) : (d.emit o).weft = d.weft := rfl
@[simp] theorem Device.emit_boot (d : Device) (o : Out) : (d.emit o).boot = d.boot := rfl
@[simp] theorem Device.emit_draws (d : Device) (o : Out) : (d.emit o).draws = d.draws := rfl

@[simp] theorem Device.setReg_grade (d : Device) (a : Nat) (w : Word) : (d.setReg a w).grade = d.grade := rfl
@[simp] theorem Device.setReg_mode (d : Device) (a : Nat) (w : Word) : (d.setReg a w).mode = d.mode := rfl
@[simp] theorem Device.setReg_act (d : Device) (a : Nat) (w : Word) : (d.setReg a w).act = d.act := rfl
@[simp] theorem Device.setReg_mems (d : Device) (a : Nat) (w : Word) : (d.setReg a w).mems = d.mems := rfl
@[simp] theorem Device.setReg_beat (d : Device) (a : Nat) (w : Word) : (d.setReg a w).beat = d.beat := rfl
@[simp] theorem Device.setReg_seqs (d : Device) (a : Nat) (w : Word) : (d.setReg a w).seqs = d.seqs := rfl
@[simp] theorem Device.setReg_flt (d : Device) (a : Nat) (w : Word) : (d.setReg a w).flt = d.flt := rfl
@[simp] theorem Device.setReg_q (d : Device) (a : Nat) (w : Word) : (d.setReg a w).q = d.q := rfl
@[simp] theorem Device.setReg_insts (d : Device) (a : Nat) (w : Word) : (d.setReg a w).insts = d.insts := rfl
@[simp] theorem Device.setReg_headVec (d : Device) (a : Nat) (w : Word) : (d.setReg a w).headVec = d.headVec := rfl
@[simp] theorem Device.setReg_handovers (d : Device) (a : Nat) (w : Word) : (d.setReg a w).handovers = d.handovers := rfl
@[simp] theorem Device.setReg_guards (d : Device) (a : Nat) (w : Word) : (d.setReg a w).guards = d.guards := rfl
@[simp] theorem Device.setReg_posted (d : Device) (a : Nat) (w : Word) : (d.setReg a w).posted = d.posted := rfl
@[simp] theorem Device.setReg_copies (d : Device) (a : Nat) (w : Word) : (d.setReg a w).copies = d.copies := rfl
@[simp] theorem Device.setReg_mem (d : Device) (a : Nat) (w : Word) : (d.setReg a w).mem = d.mem := rfl
@[simp] theorem Device.setReg_seed (d : Device) (a : Nat) (w : Word) : (d.setReg a w).seed = d.seed := rfl
@[simp] theorem Device.setReg_pwr (d : Device) (a : Nat) (w : Word) : (d.setReg a w).pwr = d.pwr := rfl
@[simp] theorem Device.setReg_ras (d : Device) (a : Nat) (w : Word) : (d.setReg a w).ras = d.ras := rfl
@[simp] theorem Device.setReg_disp (d : Device) (a : Nat) (w : Word) : (d.setReg a w).disp = d.disp := rfl
@[simp] theorem Device.setReg_glass (d : Device) (a : Nat) (w : Word) : (d.setReg a w).glass = d.glass := rfl
@[simp] theorem Device.setReg_aud (d : Device) (a : Nat) (w : Word) : (d.setReg a w).aud = d.aud := rfl
@[simp] theorem Device.setReg_udc (d : Device) (a : Nat) (w : Word) : (d.setReg a w).udc = d.udc := rfl
@[simp] theorem Device.setReg_weft (d : Device) (a : Nat) (w : Word) : (d.setReg a w).weft = d.weft := rfl
@[simp] theorem Device.setReg_boot (d : Device) (a : Nat) (w : Word) : (d.setReg a w).boot = d.boot := rfl
@[simp] theorem Device.setReg_draws (d : Device) (a : Nat) (w : Word) : (d.setReg a w).draws = d.draws := rfl
@[simp] theorem Device.setReg_out (d : Device) (a : Nat) (w : Word) : (d.setReg a w).out = d.out := rfl

@[simp] theorem Device.setAct_grade (d : Device) (a : Nat) (w : Word) : (d.setAct a w).grade = d.grade := rfl
@[simp] theorem Device.setAct_mode (d : Device) (a : Nat) (w : Word) : (d.setAct a w).mode = d.mode := rfl
@[simp] theorem Device.setAct_csr (d : Device) (a : Nat) (w : Word) : (d.setAct a w).csr = d.csr := rfl
@[simp] theorem Device.setAct_mems (d : Device) (a : Nat) (w : Word) : (d.setAct a w).mems = d.mems := rfl
@[simp] theorem Device.setAct_beat (d : Device) (a : Nat) (w : Word) : (d.setAct a w).beat = d.beat := rfl
@[simp] theorem Device.setAct_seqs (d : Device) (a : Nat) (w : Word) : (d.setAct a w).seqs = d.seqs := rfl
@[simp] theorem Device.setAct_flt (d : Device) (a : Nat) (w : Word) : (d.setAct a w).flt = d.flt := rfl
@[simp] theorem Device.setAct_q (d : Device) (a : Nat) (w : Word) : (d.setAct a w).q = d.q := rfl
@[simp] theorem Device.setAct_insts (d : Device) (a : Nat) (w : Word) : (d.setAct a w).insts = d.insts := rfl
@[simp] theorem Device.setAct_headVec (d : Device) (a : Nat) (w : Word) : (d.setAct a w).headVec = d.headVec := rfl
@[simp] theorem Device.setAct_handovers (d : Device) (a : Nat) (w : Word) : (d.setAct a w).handovers = d.handovers := rfl
@[simp] theorem Device.setAct_guards (d : Device) (a : Nat) (w : Word) : (d.setAct a w).guards = d.guards := rfl
@[simp] theorem Device.setAct_posted (d : Device) (a : Nat) (w : Word) : (d.setAct a w).posted = d.posted := rfl
@[simp] theorem Device.setAct_copies (d : Device) (a : Nat) (w : Word) : (d.setAct a w).copies = d.copies := rfl
@[simp] theorem Device.setAct_mem (d : Device) (a : Nat) (w : Word) : (d.setAct a w).mem = d.mem := rfl
@[simp] theorem Device.setAct_seed (d : Device) (a : Nat) (w : Word) : (d.setAct a w).seed = d.seed := rfl
@[simp] theorem Device.setAct_pwr (d : Device) (a : Nat) (w : Word) : (d.setAct a w).pwr = d.pwr := rfl
@[simp] theorem Device.setAct_ras (d : Device) (a : Nat) (w : Word) : (d.setAct a w).ras = d.ras := rfl
@[simp] theorem Device.setAct_disp (d : Device) (a : Nat) (w : Word) : (d.setAct a w).disp = d.disp := rfl
@[simp] theorem Device.setAct_glass (d : Device) (a : Nat) (w : Word) : (d.setAct a w).glass = d.glass := rfl
@[simp] theorem Device.setAct_aud (d : Device) (a : Nat) (w : Word) : (d.setAct a w).aud = d.aud := rfl
@[simp] theorem Device.setAct_udc (d : Device) (a : Nat) (w : Word) : (d.setAct a w).udc = d.udc := rfl
@[simp] theorem Device.setAct_weft (d : Device) (a : Nat) (w : Word) : (d.setAct a w).weft = d.weft := rfl
@[simp] theorem Device.setAct_boot (d : Device) (a : Nat) (w : Word) : (d.setAct a w).boot = d.boot := rfl
@[simp] theorem Device.setAct_draws (d : Device) (a : Nat) (w : Word) : (d.setAct a w).draws = d.draws := rfl
@[simp] theorem Device.setAct_out (d : Device) (a : Nat) (w : Word) : (d.setAct a w).out = d.out := rfl

@[simp] theorem Device.applyShadow_grade (d : Device) (a : Nat) : (d.applyShadow a).grade = d.grade := rfl
@[simp] theorem Device.applyShadow_mode (d : Device) (a : Nat) : (d.applyShadow a).mode = d.mode := rfl
@[simp] theorem Device.applyShadow_csr (d : Device) (a : Nat) : (d.applyShadow a).csr = d.csr := rfl
@[simp] theorem Device.applyShadow_mems (d : Device) (a : Nat) : (d.applyShadow a).mems = d.mems := rfl
@[simp] theorem Device.applyShadow_beat (d : Device) (a : Nat) : (d.applyShadow a).beat = d.beat := rfl
@[simp] theorem Device.applyShadow_seqs (d : Device) (a : Nat) : (d.applyShadow a).seqs = d.seqs := rfl
@[simp] theorem Device.applyShadow_flt (d : Device) (a : Nat) : (d.applyShadow a).flt = d.flt := rfl
@[simp] theorem Device.applyShadow_q (d : Device) (a : Nat) : (d.applyShadow a).q = d.q := rfl
@[simp] theorem Device.applyShadow_insts (d : Device) (a : Nat) : (d.applyShadow a).insts = d.insts := rfl
@[simp] theorem Device.applyShadow_headVec (d : Device) (a : Nat) : (d.applyShadow a).headVec = d.headVec := rfl
@[simp] theorem Device.applyShadow_handovers (d : Device) (a : Nat) : (d.applyShadow a).handovers = d.handovers := rfl
@[simp] theorem Device.applyShadow_guards (d : Device) (a : Nat) : (d.applyShadow a).guards = d.guards := rfl
@[simp] theorem Device.applyShadow_posted (d : Device) (a : Nat) : (d.applyShadow a).posted = d.posted := rfl
@[simp] theorem Device.applyShadow_copies (d : Device) (a : Nat) : (d.applyShadow a).copies = d.copies := rfl
@[simp] theorem Device.applyShadow_mem (d : Device) (a : Nat) : (d.applyShadow a).mem = d.mem := rfl
@[simp] theorem Device.applyShadow_seed (d : Device) (a : Nat) : (d.applyShadow a).seed = d.seed := rfl
@[simp] theorem Device.applyShadow_pwr (d : Device) (a : Nat) : (d.applyShadow a).pwr = d.pwr := rfl
@[simp] theorem Device.applyShadow_ras (d : Device) (a : Nat) : (d.applyShadow a).ras = d.ras := rfl
@[simp] theorem Device.applyShadow_disp (d : Device) (a : Nat) : (d.applyShadow a).disp = d.disp := rfl
@[simp] theorem Device.applyShadow_glass (d : Device) (a : Nat) : (d.applyShadow a).glass = d.glass := rfl
@[simp] theorem Device.applyShadow_aud (d : Device) (a : Nat) : (d.applyShadow a).aud = d.aud := rfl
@[simp] theorem Device.applyShadow_udc (d : Device) (a : Nat) : (d.applyShadow a).udc = d.udc := rfl
@[simp] theorem Device.applyShadow_weft (d : Device) (a : Nat) : (d.applyShadow a).weft = d.weft := rfl
@[simp] theorem Device.applyShadow_boot (d : Device) (a : Nat) : (d.applyShadow a).boot = d.boot := rfl
@[simp] theorem Device.applyShadow_draws (d : Device) (a : Nat) : (d.applyShadow a).draws = d.draws := rfl
@[simp] theorem Device.applyShadow_out (d : Device) (a : Nat) : (d.applyShadow a).out = d.out := rfl

@[simp] theorem Device.wr_grade (d : Device) (f : Fld) (v : Nat) : (d.wr f v).grade = d.grade := rfl
@[simp] theorem Device.wr_mode (d : Device) (f : Fld) (v : Nat) : (d.wr f v).mode = d.mode := rfl
@[simp] theorem Device.wr_act (d : Device) (f : Fld) (v : Nat) : (d.wr f v).act = d.act := rfl
@[simp] theorem Device.wr_mems (d : Device) (f : Fld) (v : Nat) : (d.wr f v).mems = d.mems := rfl
@[simp] theorem Device.wr_beat (d : Device) (f : Fld) (v : Nat) : (d.wr f v).beat = d.beat := rfl
@[simp] theorem Device.wr_seqs (d : Device) (f : Fld) (v : Nat) : (d.wr f v).seqs = d.seqs := rfl
@[simp] theorem Device.wr_flt (d : Device) (f : Fld) (v : Nat) : (d.wr f v).flt = d.flt := rfl
@[simp] theorem Device.wr_q (d : Device) (f : Fld) (v : Nat) : (d.wr f v).q = d.q := rfl
@[simp] theorem Device.wr_insts (d : Device) (f : Fld) (v : Nat) : (d.wr f v).insts = d.insts := rfl
@[simp] theorem Device.wr_headVec (d : Device) (f : Fld) (v : Nat) : (d.wr f v).headVec = d.headVec := rfl
@[simp] theorem Device.wr_handovers (d : Device) (f : Fld) (v : Nat) : (d.wr f v).handovers = d.handovers := rfl
@[simp] theorem Device.wr_guards (d : Device) (f : Fld) (v : Nat) : (d.wr f v).guards = d.guards := rfl
@[simp] theorem Device.wr_posted (d : Device) (f : Fld) (v : Nat) : (d.wr f v).posted = d.posted := rfl
@[simp] theorem Device.wr_copies (d : Device) (f : Fld) (v : Nat) : (d.wr f v).copies = d.copies := rfl
@[simp] theorem Device.wr_mem (d : Device) (f : Fld) (v : Nat) : (d.wr f v).mem = d.mem := rfl
@[simp] theorem Device.wr_seed (d : Device) (f : Fld) (v : Nat) : (d.wr f v).seed = d.seed := rfl
@[simp] theorem Device.wr_pwr (d : Device) (f : Fld) (v : Nat) : (d.wr f v).pwr = d.pwr := rfl
@[simp] theorem Device.wr_ras (d : Device) (f : Fld) (v : Nat) : (d.wr f v).ras = d.ras := rfl
@[simp] theorem Device.wr_disp (d : Device) (f : Fld) (v : Nat) : (d.wr f v).disp = d.disp := rfl
@[simp] theorem Device.wr_glass (d : Device) (f : Fld) (v : Nat) : (d.wr f v).glass = d.glass := rfl
@[simp] theorem Device.wr_aud (d : Device) (f : Fld) (v : Nat) : (d.wr f v).aud = d.aud := rfl
@[simp] theorem Device.wr_udc (d : Device) (f : Fld) (v : Nat) : (d.wr f v).udc = d.udc := rfl
@[simp] theorem Device.wr_weft (d : Device) (f : Fld) (v : Nat) : (d.wr f v).weft = d.weft := rfl
@[simp] theorem Device.wr_boot (d : Device) (f : Fld) (v : Nat) : (d.wr f v).boot = d.boot := rfl
@[simp] theorem Device.wr_draws (d : Device) (f : Fld) (v : Nat) : (d.wr f v).draws = d.draws := rfl
@[simp] theorem Device.wr_out (d : Device) (f : Fld) (v : Nat) : (d.wr f v).out = d.out := rfl

@[simp] theorem Device.bump_grade (d : Device) (f : Fld) : (d.bump f).grade = d.grade := rfl
@[simp] theorem Device.bump_mode (d : Device) (f : Fld) : (d.bump f).mode = d.mode := rfl
@[simp] theorem Device.bump_act (d : Device) (f : Fld) : (d.bump f).act = d.act := rfl
@[simp] theorem Device.bump_mems (d : Device) (f : Fld) : (d.bump f).mems = d.mems := rfl
@[simp] theorem Device.bump_beat (d : Device) (f : Fld) : (d.bump f).beat = d.beat := rfl
@[simp] theorem Device.bump_seqs (d : Device) (f : Fld) : (d.bump f).seqs = d.seqs := rfl
@[simp] theorem Device.bump_flt (d : Device) (f : Fld) : (d.bump f).flt = d.flt := rfl
@[simp] theorem Device.bump_q (d : Device) (f : Fld) : (d.bump f).q = d.q := rfl
@[simp] theorem Device.bump_insts (d : Device) (f : Fld) : (d.bump f).insts = d.insts := rfl
@[simp] theorem Device.bump_headVec (d : Device) (f : Fld) : (d.bump f).headVec = d.headVec := rfl
@[simp] theorem Device.bump_handovers (d : Device) (f : Fld) : (d.bump f).handovers = d.handovers := rfl
@[simp] theorem Device.bump_guards (d : Device) (f : Fld) : (d.bump f).guards = d.guards := rfl
@[simp] theorem Device.bump_posted (d : Device) (f : Fld) : (d.bump f).posted = d.posted := rfl
@[simp] theorem Device.bump_copies (d : Device) (f : Fld) : (d.bump f).copies = d.copies := rfl
@[simp] theorem Device.bump_mem (d : Device) (f : Fld) : (d.bump f).mem = d.mem := rfl
@[simp] theorem Device.bump_seed (d : Device) (f : Fld) : (d.bump f).seed = d.seed := rfl
@[simp] theorem Device.bump_pwr (d : Device) (f : Fld) : (d.bump f).pwr = d.pwr := rfl
@[simp] theorem Device.bump_ras (d : Device) (f : Fld) : (d.bump f).ras = d.ras := rfl
@[simp] theorem Device.bump_disp (d : Device) (f : Fld) : (d.bump f).disp = d.disp := rfl
@[simp] theorem Device.bump_glass (d : Device) (f : Fld) : (d.bump f).glass = d.glass := rfl
@[simp] theorem Device.bump_aud (d : Device) (f : Fld) : (d.bump f).aud = d.aud := rfl
@[simp] theorem Device.bump_udc (d : Device) (f : Fld) : (d.bump f).udc = d.udc := rfl
@[simp] theorem Device.bump_weft (d : Device) (f : Fld) : (d.bump f).weft = d.weft := rfl
@[simp] theorem Device.bump_boot (d : Device) (f : Fld) : (d.bump f).boot = d.boot := rfl
@[simp] theorem Device.bump_draws (d : Device) (f : Fld) : (d.bump f).draws = d.draws := rfl
@[simp] theorem Device.bump_out (d : Device) (f : Fld) : (d.bump f).out = d.out := rfl

@[simp] theorem Device.bumpBy_grade (d : Device) (f : Fld) (n : Nat) : (d.bumpBy f n).grade = d.grade := rfl
@[simp] theorem Device.bumpBy_mode (d : Device) (f : Fld) (n : Nat) : (d.bumpBy f n).mode = d.mode := rfl
@[simp] theorem Device.bumpBy_act (d : Device) (f : Fld) (n : Nat) : (d.bumpBy f n).act = d.act := rfl
@[simp] theorem Device.bumpBy_mems (d : Device) (f : Fld) (n : Nat) : (d.bumpBy f n).mems = d.mems := rfl
@[simp] theorem Device.bumpBy_beat (d : Device) (f : Fld) (n : Nat) : (d.bumpBy f n).beat = d.beat := rfl
@[simp] theorem Device.bumpBy_seqs (d : Device) (f : Fld) (n : Nat) : (d.bumpBy f n).seqs = d.seqs := rfl
@[simp] theorem Device.bumpBy_flt (d : Device) (f : Fld) (n : Nat) : (d.bumpBy f n).flt = d.flt := rfl
@[simp] theorem Device.bumpBy_q (d : Device) (f : Fld) (n : Nat) : (d.bumpBy f n).q = d.q := rfl
@[simp] theorem Device.bumpBy_insts (d : Device) (f : Fld) (n : Nat) : (d.bumpBy f n).insts = d.insts := rfl
@[simp] theorem Device.bumpBy_headVec (d : Device) (f : Fld) (n : Nat) : (d.bumpBy f n).headVec = d.headVec := rfl
@[simp] theorem Device.bumpBy_handovers (d : Device) (f : Fld) (n : Nat) : (d.bumpBy f n).handovers = d.handovers := rfl
@[simp] theorem Device.bumpBy_guards (d : Device) (f : Fld) (n : Nat) : (d.bumpBy f n).guards = d.guards := rfl
@[simp] theorem Device.bumpBy_posted (d : Device) (f : Fld) (n : Nat) : (d.bumpBy f n).posted = d.posted := rfl
@[simp] theorem Device.bumpBy_copies (d : Device) (f : Fld) (n : Nat) : (d.bumpBy f n).copies = d.copies := rfl
@[simp] theorem Device.bumpBy_mem (d : Device) (f : Fld) (n : Nat) : (d.bumpBy f n).mem = d.mem := rfl
@[simp] theorem Device.bumpBy_seed (d : Device) (f : Fld) (n : Nat) : (d.bumpBy f n).seed = d.seed := rfl
@[simp] theorem Device.bumpBy_pwr (d : Device) (f : Fld) (n : Nat) : (d.bumpBy f n).pwr = d.pwr := rfl
@[simp] theorem Device.bumpBy_ras (d : Device) (f : Fld) (n : Nat) : (d.bumpBy f n).ras = d.ras := rfl
@[simp] theorem Device.bumpBy_disp (d : Device) (f : Fld) (n : Nat) : (d.bumpBy f n).disp = d.disp := rfl
@[simp] theorem Device.bumpBy_glass (d : Device) (f : Fld) (n : Nat) : (d.bumpBy f n).glass = d.glass := rfl
@[simp] theorem Device.bumpBy_aud (d : Device) (f : Fld) (n : Nat) : (d.bumpBy f n).aud = d.aud := rfl
@[simp] theorem Device.bumpBy_udc (d : Device) (f : Fld) (n : Nat) : (d.bumpBy f n).udc = d.udc := rfl
@[simp] theorem Device.bumpBy_weft (d : Device) (f : Fld) (n : Nat) : (d.bumpBy f n).weft = d.weft := rfl
@[simp] theorem Device.bumpBy_boot (d : Device) (f : Fld) (n : Nat) : (d.bumpBy f n).boot = d.boot := rfl
@[simp] theorem Device.bumpBy_draws (d : Device) (f : Fld) (n : Nat) : (d.bumpBy f n).draws = d.draws := rfl
@[simp] theorem Device.bumpBy_out (d : Device) (f : Fld) (n : Nat) : (d.bumpBy f n).out = d.out := rfl

@[simp] theorem Device.count_grade (d : Device) (f : Fld) : (d.count f).grade = d.grade := rfl
@[simp] theorem Device.count_mode (d : Device) (f : Fld) : (d.count f).mode = d.mode := rfl
@[simp] theorem Device.count_act (d : Device) (f : Fld) : (d.count f).act = d.act := rfl
@[simp] theorem Device.count_mems (d : Device) (f : Fld) : (d.count f).mems = d.mems := rfl
@[simp] theorem Device.count_beat (d : Device) (f : Fld) : (d.count f).beat = d.beat := rfl
@[simp] theorem Device.count_seqs (d : Device) (f : Fld) : (d.count f).seqs = d.seqs := rfl
@[simp] theorem Device.count_flt (d : Device) (f : Fld) : (d.count f).flt = d.flt := rfl
@[simp] theorem Device.count_q (d : Device) (f : Fld) : (d.count f).q = d.q := rfl
@[simp] theorem Device.count_insts (d : Device) (f : Fld) : (d.count f).insts = d.insts := rfl
@[simp] theorem Device.count_headVec (d : Device) (f : Fld) : (d.count f).headVec = d.headVec := rfl
@[simp] theorem Device.count_handovers (d : Device) (f : Fld) : (d.count f).handovers = d.handovers := rfl
@[simp] theorem Device.count_guards (d : Device) (f : Fld) : (d.count f).guards = d.guards := rfl
@[simp] theorem Device.count_posted (d : Device) (f : Fld) : (d.count f).posted = d.posted := rfl
@[simp] theorem Device.count_copies (d : Device) (f : Fld) : (d.count f).copies = d.copies := rfl
@[simp] theorem Device.count_mem (d : Device) (f : Fld) : (d.count f).mem = d.mem := rfl
@[simp] theorem Device.count_seed (d : Device) (f : Fld) : (d.count f).seed = d.seed := rfl
@[simp] theorem Device.count_pwr (d : Device) (f : Fld) : (d.count f).pwr = d.pwr := rfl
@[simp] theorem Device.count_ras (d : Device) (f : Fld) : (d.count f).ras = d.ras := rfl
@[simp] theorem Device.count_disp (d : Device) (f : Fld) : (d.count f).disp = d.disp := rfl
@[simp] theorem Device.count_glass (d : Device) (f : Fld) : (d.count f).glass = d.glass := rfl
@[simp] theorem Device.count_aud (d : Device) (f : Fld) : (d.count f).aud = d.aud := rfl
@[simp] theorem Device.count_udc (d : Device) (f : Fld) : (d.count f).udc = d.udc := rfl
@[simp] theorem Device.count_weft (d : Device) (f : Fld) : (d.count f).weft = d.weft := rfl
@[simp] theorem Device.count_boot (d : Device) (f : Fld) : (d.count f).boot = d.boot := rfl
@[simp] theorem Device.count_draws (d : Device) (f : Fld) : (d.count f).draws = d.draws := rfl
@[simp] theorem Device.count_out (d : Device) (f : Fld) : (d.count f).out = d.out := rfl

@[simp] theorem Device.worst_grade (d : Device) (f : Fld) (v : Nat) : (d.worst f v).grade = d.grade := rfl
@[simp] theorem Device.worst_mode (d : Device) (f : Fld) (v : Nat) : (d.worst f v).mode = d.mode := rfl
@[simp] theorem Device.worst_act (d : Device) (f : Fld) (v : Nat) : (d.worst f v).act = d.act := rfl
@[simp] theorem Device.worst_mems (d : Device) (f : Fld) (v : Nat) : (d.worst f v).mems = d.mems := rfl
@[simp] theorem Device.worst_beat (d : Device) (f : Fld) (v : Nat) : (d.worst f v).beat = d.beat := rfl
@[simp] theorem Device.worst_seqs (d : Device) (f : Fld) (v : Nat) : (d.worst f v).seqs = d.seqs := rfl
@[simp] theorem Device.worst_flt (d : Device) (f : Fld) (v : Nat) : (d.worst f v).flt = d.flt := rfl
@[simp] theorem Device.worst_q (d : Device) (f : Fld) (v : Nat) : (d.worst f v).q = d.q := rfl
@[simp] theorem Device.worst_insts (d : Device) (f : Fld) (v : Nat) : (d.worst f v).insts = d.insts := rfl
@[simp] theorem Device.worst_headVec (d : Device) (f : Fld) (v : Nat) : (d.worst f v).headVec = d.headVec := rfl
@[simp] theorem Device.worst_handovers (d : Device) (f : Fld) (v : Nat) : (d.worst f v).handovers = d.handovers := rfl
@[simp] theorem Device.worst_guards (d : Device) (f : Fld) (v : Nat) : (d.worst f v).guards = d.guards := rfl
@[simp] theorem Device.worst_posted (d : Device) (f : Fld) (v : Nat) : (d.worst f v).posted = d.posted := rfl
@[simp] theorem Device.worst_copies (d : Device) (f : Fld) (v : Nat) : (d.worst f v).copies = d.copies := rfl
@[simp] theorem Device.worst_mem (d : Device) (f : Fld) (v : Nat) : (d.worst f v).mem = d.mem := rfl
@[simp] theorem Device.worst_seed (d : Device) (f : Fld) (v : Nat) : (d.worst f v).seed = d.seed := rfl
@[simp] theorem Device.worst_pwr (d : Device) (f : Fld) (v : Nat) : (d.worst f v).pwr = d.pwr := rfl
@[simp] theorem Device.worst_ras (d : Device) (f : Fld) (v : Nat) : (d.worst f v).ras = d.ras := rfl
@[simp] theorem Device.worst_disp (d : Device) (f : Fld) (v : Nat) : (d.worst f v).disp = d.disp := rfl
@[simp] theorem Device.worst_glass (d : Device) (f : Fld) (v : Nat) : (d.worst f v).glass = d.glass := rfl
@[simp] theorem Device.worst_aud (d : Device) (f : Fld) (v : Nat) : (d.worst f v).aud = d.aud := rfl
@[simp] theorem Device.worst_udc (d : Device) (f : Fld) (v : Nat) : (d.worst f v).udc = d.udc := rfl
@[simp] theorem Device.worst_weft (d : Device) (f : Fld) (v : Nat) : (d.worst f v).weft = d.weft := rfl
@[simp] theorem Device.worst_boot (d : Device) (f : Fld) (v : Nat) : (d.worst f v).boot = d.boot := rfl
@[simp] theorem Device.worst_draws (d : Device) (f : Fld) (v : Nat) : (d.worst f v).draws = d.draws := rfl
@[simp] theorem Device.worst_out (d : Device) (f : Fld) (v : Nat) : (d.worst f v).out = d.out := rfl

@[simp] theorem Device.setSeq_grade (d : Device) (q : Nat) (x : Seq) : (d.setSeq q x).grade = d.grade := rfl
@[simp] theorem Device.setSeq_mode (d : Device) (q : Nat) (x : Seq) : (d.setSeq q x).mode = d.mode := rfl
@[simp] theorem Device.setSeq_csr (d : Device) (q : Nat) (x : Seq) : (d.setSeq q x).csr = d.csr := rfl
@[simp] theorem Device.setSeq_act (d : Device) (q : Nat) (x : Seq) : (d.setSeq q x).act = d.act := rfl
@[simp] theorem Device.setSeq_mems (d : Device) (q : Nat) (x : Seq) : (d.setSeq q x).mems = d.mems := rfl
@[simp] theorem Device.setSeq_beat (d : Device) (q : Nat) (x : Seq) : (d.setSeq q x).beat = d.beat := rfl
@[simp] theorem Device.setSeq_flt (d : Device) (q : Nat) (x : Seq) : (d.setSeq q x).flt = d.flt := rfl
@[simp] theorem Device.setSeq_q (d : Device) (q : Nat) (x : Seq) : (d.setSeq q x).q = d.q := rfl
@[simp] theorem Device.setSeq_insts (d : Device) (q : Nat) (x : Seq) : (d.setSeq q x).insts = d.insts := rfl
@[simp] theorem Device.setSeq_headVec (d : Device) (q : Nat) (x : Seq) : (d.setSeq q x).headVec = d.headVec := rfl
@[simp] theorem Device.setSeq_handovers (d : Device) (q : Nat) (x : Seq) : (d.setSeq q x).handovers = d.handovers := rfl
@[simp] theorem Device.setSeq_guards (d : Device) (q : Nat) (x : Seq) : (d.setSeq q x).guards = d.guards := rfl
@[simp] theorem Device.setSeq_posted (d : Device) (q : Nat) (x : Seq) : (d.setSeq q x).posted = d.posted := rfl
@[simp] theorem Device.setSeq_copies (d : Device) (q : Nat) (x : Seq) : (d.setSeq q x).copies = d.copies := rfl
@[simp] theorem Device.setSeq_mem (d : Device) (q : Nat) (x : Seq) : (d.setSeq q x).mem = d.mem := rfl
@[simp] theorem Device.setSeq_seed (d : Device) (q : Nat) (x : Seq) : (d.setSeq q x).seed = d.seed := rfl
@[simp] theorem Device.setSeq_pwr (d : Device) (q : Nat) (x : Seq) : (d.setSeq q x).pwr = d.pwr := rfl
@[simp] theorem Device.setSeq_ras (d : Device) (q : Nat) (x : Seq) : (d.setSeq q x).ras = d.ras := rfl
@[simp] theorem Device.setSeq_disp (d : Device) (q : Nat) (x : Seq) : (d.setSeq q x).disp = d.disp := rfl
@[simp] theorem Device.setSeq_glass (d : Device) (q : Nat) (x : Seq) : (d.setSeq q x).glass = d.glass := rfl
@[simp] theorem Device.setSeq_aud (d : Device) (q : Nat) (x : Seq) : (d.setSeq q x).aud = d.aud := rfl
@[simp] theorem Device.setSeq_udc (d : Device) (q : Nat) (x : Seq) : (d.setSeq q x).udc = d.udc := rfl
@[simp] theorem Device.setSeq_weft (d : Device) (q : Nat) (x : Seq) : (d.setSeq q x).weft = d.weft := rfl
@[simp] theorem Device.setSeq_boot (d : Device) (q : Nat) (x : Seq) : (d.setSeq q x).boot = d.boot := rfl
@[simp] theorem Device.setSeq_draws (d : Device) (q : Nat) (x : Seq) : (d.setSeq q x).draws = d.draws := rfl
@[simp] theorem Device.setSeq_out (d : Device) (q : Nat) (x : Seq) : (d.setSeq q x).out = d.out := rfl

@[simp] theorem Device.modSeq_grade (d : Device) (q : Nat) (f : Seq → Seq) : (d.modSeq q f).grade = d.grade := rfl
@[simp] theorem Device.modSeq_mode (d : Device) (q : Nat) (f : Seq → Seq) : (d.modSeq q f).mode = d.mode := rfl
@[simp] theorem Device.modSeq_csr (d : Device) (q : Nat) (f : Seq → Seq) : (d.modSeq q f).csr = d.csr := rfl
@[simp] theorem Device.modSeq_act (d : Device) (q : Nat) (f : Seq → Seq) : (d.modSeq q f).act = d.act := rfl
@[simp] theorem Device.modSeq_mems (d : Device) (q : Nat) (f : Seq → Seq) : (d.modSeq q f).mems = d.mems := rfl
@[simp] theorem Device.modSeq_beat (d : Device) (q : Nat) (f : Seq → Seq) : (d.modSeq q f).beat = d.beat := rfl
@[simp] theorem Device.modSeq_flt (d : Device) (q : Nat) (f : Seq → Seq) : (d.modSeq q f).flt = d.flt := rfl
@[simp] theorem Device.modSeq_q (d : Device) (q : Nat) (f : Seq → Seq) : (d.modSeq q f).q = d.q := rfl
@[simp] theorem Device.modSeq_insts (d : Device) (q : Nat) (f : Seq → Seq) : (d.modSeq q f).insts = d.insts := rfl
@[simp] theorem Device.modSeq_headVec (d : Device) (q : Nat) (f : Seq → Seq) : (d.modSeq q f).headVec = d.headVec := rfl
@[simp] theorem Device.modSeq_handovers (d : Device) (q : Nat) (f : Seq → Seq) : (d.modSeq q f).handovers = d.handovers := rfl
@[simp] theorem Device.modSeq_guards (d : Device) (q : Nat) (f : Seq → Seq) : (d.modSeq q f).guards = d.guards := rfl
@[simp] theorem Device.modSeq_posted (d : Device) (q : Nat) (f : Seq → Seq) : (d.modSeq q f).posted = d.posted := rfl
@[simp] theorem Device.modSeq_copies (d : Device) (q : Nat) (f : Seq → Seq) : (d.modSeq q f).copies = d.copies := rfl
@[simp] theorem Device.modSeq_mem (d : Device) (q : Nat) (f : Seq → Seq) : (d.modSeq q f).mem = d.mem := rfl
@[simp] theorem Device.modSeq_seed (d : Device) (q : Nat) (f : Seq → Seq) : (d.modSeq q f).seed = d.seed := rfl
@[simp] theorem Device.modSeq_pwr (d : Device) (q : Nat) (f : Seq → Seq) : (d.modSeq q f).pwr = d.pwr := rfl
@[simp] theorem Device.modSeq_ras (d : Device) (q : Nat) (f : Seq → Seq) : (d.modSeq q f).ras = d.ras := rfl
@[simp] theorem Device.modSeq_disp (d : Device) (q : Nat) (f : Seq → Seq) : (d.modSeq q f).disp = d.disp := rfl
@[simp] theorem Device.modSeq_glass (d : Device) (q : Nat) (f : Seq → Seq) : (d.modSeq q f).glass = d.glass := rfl
@[simp] theorem Device.modSeq_aud (d : Device) (q : Nat) (f : Seq → Seq) : (d.modSeq q f).aud = d.aud := rfl
@[simp] theorem Device.modSeq_udc (d : Device) (q : Nat) (f : Seq → Seq) : (d.modSeq q f).udc = d.udc := rfl
@[simp] theorem Device.modSeq_weft (d : Device) (q : Nat) (f : Seq → Seq) : (d.modSeq q f).weft = d.weft := rfl
@[simp] theorem Device.modSeq_boot (d : Device) (q : Nat) (f : Seq → Seq) : (d.modSeq q f).boot = d.boot := rfl
@[simp] theorem Device.modSeq_draws (d : Device) (q : Nat) (f : Seq → Seq) : (d.modSeq q f).draws = d.draws := rfl
@[simp] theorem Device.modSeq_out (d : Device) (q : Nat) (f : Seq → Seq) : (d.modSeq q f).out = d.out := rfl

@[simp] theorem Device.event_grade (d : Device) (q b : Nat) : (d.event q b).grade = d.grade := rfl
@[simp] theorem Device.event_mode (d : Device) (q b : Nat) : (d.event q b).mode = d.mode := rfl
@[simp] theorem Device.event_csr (d : Device) (q b : Nat) : (d.event q b).csr = d.csr := rfl
@[simp] theorem Device.event_act (d : Device) (q b : Nat) : (d.event q b).act = d.act := rfl
@[simp] theorem Device.event_mems (d : Device) (q b : Nat) : (d.event q b).mems = d.mems := rfl
@[simp] theorem Device.event_beat (d : Device) (q b : Nat) : (d.event q b).beat = d.beat := rfl
@[simp] theorem Device.event_flt (d : Device) (q b : Nat) : (d.event q b).flt = d.flt := rfl
@[simp] theorem Device.event_q (d : Device) (q b : Nat) : (d.event q b).q = d.q := rfl
@[simp] theorem Device.event_insts (d : Device) (q b : Nat) : (d.event q b).insts = d.insts := rfl
@[simp] theorem Device.event_headVec (d : Device) (q b : Nat) : (d.event q b).headVec = d.headVec := rfl
@[simp] theorem Device.event_handovers (d : Device) (q b : Nat) : (d.event q b).handovers = d.handovers := rfl
@[simp] theorem Device.event_guards (d : Device) (q b : Nat) : (d.event q b).guards = d.guards := rfl
@[simp] theorem Device.event_posted (d : Device) (q b : Nat) : (d.event q b).posted = d.posted := rfl
@[simp] theorem Device.event_copies (d : Device) (q b : Nat) : (d.event q b).copies = d.copies := rfl
@[simp] theorem Device.event_mem (d : Device) (q b : Nat) : (d.event q b).mem = d.mem := rfl
@[simp] theorem Device.event_seed (d : Device) (q b : Nat) : (d.event q b).seed = d.seed := rfl
@[simp] theorem Device.event_pwr (d : Device) (q b : Nat) : (d.event q b).pwr = d.pwr := rfl
@[simp] theorem Device.event_ras (d : Device) (q b : Nat) : (d.event q b).ras = d.ras := rfl
@[simp] theorem Device.event_disp (d : Device) (q b : Nat) : (d.event q b).disp = d.disp := rfl
@[simp] theorem Device.event_glass (d : Device) (q b : Nat) : (d.event q b).glass = d.glass := rfl
@[simp] theorem Device.event_aud (d : Device) (q b : Nat) : (d.event q b).aud = d.aud := rfl
@[simp] theorem Device.event_udc (d : Device) (q b : Nat) : (d.event q b).udc = d.udc := rfl
@[simp] theorem Device.event_weft (d : Device) (q b : Nat) : (d.event q b).weft = d.weft := rfl
@[simp] theorem Device.event_boot (d : Device) (q b : Nat) : (d.event q b).boot = d.boot := rfl
@[simp] theorem Device.event_draws (d : Device) (q b : Nat) : (d.event q b).draws = d.draws := rfl
@[simp] theorem Device.event_out (d : Device) (q b : Nat) : (d.event q b).out = d.out := rfl

@[simp] theorem Device.modInst_grade (d : Device) (i : Nat) (f : Inst → Inst) : (d.modInst i f).grade = d.grade := rfl
@[simp] theorem Device.modInst_mode (d : Device) (i : Nat) (f : Inst → Inst) : (d.modInst i f).mode = d.mode := rfl
@[simp] theorem Device.modInst_csr (d : Device) (i : Nat) (f : Inst → Inst) : (d.modInst i f).csr = d.csr := rfl
@[simp] theorem Device.modInst_act (d : Device) (i : Nat) (f : Inst → Inst) : (d.modInst i f).act = d.act := rfl
@[simp] theorem Device.modInst_mems (d : Device) (i : Nat) (f : Inst → Inst) : (d.modInst i f).mems = d.mems := rfl
@[simp] theorem Device.modInst_beat (d : Device) (i : Nat) (f : Inst → Inst) : (d.modInst i f).beat = d.beat := rfl
@[simp] theorem Device.modInst_seqs (d : Device) (i : Nat) (f : Inst → Inst) : (d.modInst i f).seqs = d.seqs := rfl
@[simp] theorem Device.modInst_flt (d : Device) (i : Nat) (f : Inst → Inst) : (d.modInst i f).flt = d.flt := rfl
@[simp] theorem Device.modInst_q (d : Device) (i : Nat) (f : Inst → Inst) : (d.modInst i f).q = d.q := rfl
@[simp] theorem Device.modInst_headVec (d : Device) (i : Nat) (f : Inst → Inst) : (d.modInst i f).headVec = d.headVec := rfl
@[simp] theorem Device.modInst_handovers (d : Device) (i : Nat) (f : Inst → Inst) : (d.modInst i f).handovers = d.handovers := rfl
@[simp] theorem Device.modInst_guards (d : Device) (i : Nat) (f : Inst → Inst) : (d.modInst i f).guards = d.guards := rfl
@[simp] theorem Device.modInst_posted (d : Device) (i : Nat) (f : Inst → Inst) : (d.modInst i f).posted = d.posted := rfl
@[simp] theorem Device.modInst_copies (d : Device) (i : Nat) (f : Inst → Inst) : (d.modInst i f).copies = d.copies := rfl
@[simp] theorem Device.modInst_mem (d : Device) (i : Nat) (f : Inst → Inst) : (d.modInst i f).mem = d.mem := rfl
@[simp] theorem Device.modInst_seed (d : Device) (i : Nat) (f : Inst → Inst) : (d.modInst i f).seed = d.seed := rfl
@[simp] theorem Device.modInst_pwr (d : Device) (i : Nat) (f : Inst → Inst) : (d.modInst i f).pwr = d.pwr := rfl
@[simp] theorem Device.modInst_ras (d : Device) (i : Nat) (f : Inst → Inst) : (d.modInst i f).ras = d.ras := rfl
@[simp] theorem Device.modInst_disp (d : Device) (i : Nat) (f : Inst → Inst) : (d.modInst i f).disp = d.disp := rfl
@[simp] theorem Device.modInst_glass (d : Device) (i : Nat) (f : Inst → Inst) : (d.modInst i f).glass = d.glass := rfl
@[simp] theorem Device.modInst_aud (d : Device) (i : Nat) (f : Inst → Inst) : (d.modInst i f).aud = d.aud := rfl
@[simp] theorem Device.modInst_udc (d : Device) (i : Nat) (f : Inst → Inst) : (d.modInst i f).udc = d.udc := rfl
@[simp] theorem Device.modInst_weft (d : Device) (i : Nat) (f : Inst → Inst) : (d.modInst i f).weft = d.weft := rfl
@[simp] theorem Device.modInst_boot (d : Device) (i : Nat) (f : Inst → Inst) : (d.modInst i f).boot = d.boot := rfl
@[simp] theorem Device.modInst_draws (d : Device) (i : Nat) (f : Inst → Inst) : (d.modInst i f).draws = d.draws := rfl
@[simp] theorem Device.modInst_out (d : Device) (i : Nat) (f : Inst → Inst) : (d.modInst i f).out = d.out := rfl

@[simp] theorem Device.signal_grade (d : Device) (i v : Nat) : (d.signal i v).grade = d.grade := rfl
@[simp] theorem Device.signal_mode (d : Device) (i v : Nat) : (d.signal i v).mode = d.mode := rfl
@[simp] theorem Device.signal_csr (d : Device) (i v : Nat) : (d.signal i v).csr = d.csr := rfl
@[simp] theorem Device.signal_act (d : Device) (i v : Nat) : (d.signal i v).act = d.act := rfl
@[simp] theorem Device.signal_mems (d : Device) (i v : Nat) : (d.signal i v).mems = d.mems := rfl
@[simp] theorem Device.signal_beat (d : Device) (i v : Nat) : (d.signal i v).beat = d.beat := rfl
@[simp] theorem Device.signal_seqs (d : Device) (i v : Nat) : (d.signal i v).seqs = d.seqs := rfl
@[simp] theorem Device.signal_flt (d : Device) (i v : Nat) : (d.signal i v).flt = d.flt := rfl
@[simp] theorem Device.signal_q (d : Device) (i v : Nat) : (d.signal i v).q = d.q := rfl
@[simp] theorem Device.signal_insts (d : Device) (i v : Nat) : (d.signal i v).insts = d.insts := rfl
@[simp] theorem Device.signal_headVec (d : Device) (i v : Nat) : (d.signal i v).headVec = d.headVec := rfl
@[simp] theorem Device.signal_handovers (d : Device) (i v : Nat) : (d.signal i v).handovers = d.handovers := rfl
@[simp] theorem Device.signal_guards (d : Device) (i v : Nat) : (d.signal i v).guards = d.guards := rfl
@[simp] theorem Device.signal_posted (d : Device) (i v : Nat) : (d.signal i v).posted = d.posted := rfl
@[simp] theorem Device.signal_copies (d : Device) (i v : Nat) : (d.signal i v).copies = d.copies := rfl
@[simp] theorem Device.signal_mem (d : Device) (i v : Nat) : (d.signal i v).mem = d.mem := rfl
@[simp] theorem Device.signal_seed (d : Device) (i v : Nat) : (d.signal i v).seed = d.seed := rfl
@[simp] theorem Device.signal_pwr (d : Device) (i v : Nat) : (d.signal i v).pwr = d.pwr := rfl
@[simp] theorem Device.signal_ras (d : Device) (i v : Nat) : (d.signal i v).ras = d.ras := rfl
@[simp] theorem Device.signal_disp (d : Device) (i v : Nat) : (d.signal i v).disp = d.disp := rfl
@[simp] theorem Device.signal_glass (d : Device) (i v : Nat) : (d.signal i v).glass = d.glass := rfl
@[simp] theorem Device.signal_aud (d : Device) (i v : Nat) : (d.signal i v).aud = d.aud := rfl
@[simp] theorem Device.signal_udc (d : Device) (i v : Nat) : (d.signal i v).udc = d.udc := rfl
@[simp] theorem Device.signal_weft (d : Device) (i v : Nat) : (d.signal i v).weft = d.weft := rfl
@[simp] theorem Device.signal_boot (d : Device) (i v : Nat) : (d.signal i v).boot = d.boot := rfl
@[simp] theorem Device.signal_draws (d : Device) (i v : Nat) : (d.signal i v).draws = d.draws := rfl

/-! ### Registers and sequencers after an update -/

/-- Another register is unchanged. -/
theorem Device.reg_setReg_other (d : Device) (a b : Nat) (w : Word) (h : a ≠ b) : (d.setReg a w).reg b = d.reg b :=
  tget_tset_other regReset d.csr a b w h

/-- A register reads what was written. -/
@[simp] theorem Device.reg_setReg_same (d : Device) (a : Nat) (w : Word) : (d.setReg a w).reg a = w :=
  tget_tset_same regReset d.csr a w

/-- Another sequencer is unchanged. -/
theorem Device.seq_setSeq_other (d : Device) (q p : Nat) (x : Seq) (h : q ≠ p) : (d.setSeq q x).seq p = d.seq p :=
  tget_tset_other (fun _ => Seq.reset) d.seqs q p x h

/-- A sequencer is what it was set to. -/
@[simp] theorem Device.seq_setSeq_same (d : Device) (q : Nat) (x : Seq) : (d.setSeq q x).seq q = x :=
  tget_tset_same (fun _ => Seq.reset) d.seqs q x

@[simp] theorem Device.seq_setReg (d : Device) (a : Nat) (w : Word) (q : Nat) : (d.setReg a w).seq q = d.seq q := rfl
@[simp] theorem Device.seq_wr (d : Device) (f : Fld) (v q : Nat) : (d.wr f v).seq q = d.seq q := rfl
@[simp] theorem Device.seq_emit (d : Device) (o : Out) (q : Nat) : (d.emit o).seq q = d.seq q := rfl
@[simp] theorem Device.reg_setSeq (d : Device) (q : Nat) (x : Seq) (a : Nat) : (d.setSeq q x).reg a = d.reg a := rfl
@[simp] theorem Device.reg_emit (d : Device) (o : Out) (a : Nat) : (d.emit o).reg a = d.reg a := rfl
@[simp] theorem Device.rd_setSeq (d : Device) (q : Nat) (x : Seq) (f : Fld) : (d.setSeq q x).rd f = d.rd f := rfl
@[simp] theorem Device.rd_emit (d : Device) (o : Out) (f : Fld) : (d.emit o).rd f = d.rd f := rfl

/-- An event whose condition is met has its effect. -/
@[simp] theorem Device.when_true (d : Device) (f : Device → Device) : d.when true f = f d := rfl

/-- An event whose condition is not met changes nothing. -/
@[simp] theorem Device.when_false (d : Device) (f : Device → Device) : d.when false f = d := rfl

/-! ### The ways of answering -/

/-- A command whose effect on the device is `f` answers a next state with the queue as it was. -/
theorem onDev_next (s : State) (f : Device → Device) :
    onDev s f = .next { s with dev := f { s.dev with out := [] } } := rfl

/-- A step takes the command at the front of the queue. -/
theorem step_cons (s : State) (c : Instr) (cs : List Instr) (h : s.pending = c :: cs) :
    step s = exec c { s with pending := cs } := by
  unfold step; rw [h]

/-- With no command the step is a tick of FCLK. -/
theorem step_nil (s : State) (h : s.pending = []) : step s = .next s.idle := by
  unfold step; rw [h]

end Sys2Proof.Machine
end

