-- ==== Sys2Proof/Laws/Memory.lean ====
section
/-!
SUPPORT. What the shared operations on the byte memories do: a read after a write gives the bytes written, every other byte stays as it
was, and each operation keeps the canonical form.
-/

namespace Sys2Proof.Machine

open Sys2Proof

/-! ### Bytes -/

theorem tget_rawWrite_below (m : List (Nat × Byte)) (a i : Nat) (bs : List Byte) (h : i < a) :
    tget memDflt (rawWrite m a bs) i = tget memDflt m i := by
  induction bs generalizing m a with
  | nil => rfl
  | cons b bs ih => rw [rawWrite, ih _ _ (by omega), tget_tset_other _ _ _ _ _ (by omega)]

/-- A byte outside the bytes written is as it was. -/
theorem tget_rawWrite_outside (m : List (Nat × Byte)) (a i : Nat) (bs : List Byte) (h : i < a ∨ a + bs.length ≤ i) :
    tget memDflt (rawWrite m a bs) i = tget memDflt m i := by
  induction bs generalizing m a with
  | nil => rfl
  | cons b bs ih =>
    simp only [List.length_cons] at h
    rw [rawWrite, ih _ _ (by omega), tget_tset_other _ _ _ _ _ (by omega)]

/-- A byte within the bytes written is the byte written there. -/
theorem tget_rawWrite_inside (m : List (Nat × Byte)) (a k : Nat) (bs : List Byte) (h : k < bs.length) :
    tget memDflt (rawWrite m a bs) (a + k) = bs[k] := by
  induction bs generalizing m a k with
  | nil => simp at h
  | cons b bs ih =>
    rw [rawWrite]
    cases k with
    | zero => rw [tget_rawWrite_below _ _ _ _ (by omega), Nat.add_zero, tget_tset_same]; rfl
    | succ k =>
      have := ih (tset memDflt m a b) (a + 1) k (by simpa using h)
      rw [show a + (k + 1) = a + 1 + k by omega, this]; rfl

@[simp] theorem rawRead_length (m : List (Nat × Byte)) (a n : Nat) : (rawRead m a n).length = n := by simp [rawRead]

/-- A read of the bytes just written gives them. -/
theorem rawRead_rawWrite (m : List (Nat × Byte)) (a : Nat) (bs : List Byte) : rawRead (rawWrite m a bs) a bs.length = bs := by
  apply List.ext_getElem
  · simp
  · intro k h1 h2
    simp only [rawRead, List.getElem_map, List.getElem_range]
    exact tget_rawWrite_inside m a k bs h2

theorem twf_rawWrite (m : List (Nat × Byte)) (a : Nat) (bs : List Byte) (h : twf memDflt m = true) :
    twf memDflt (rawWrite m a bs) = true := by
  induction bs generalizing m a with
  | nil => exact h
  | cons b bs ih => exact ih _ _ (twf_tset _ _ _ _ h)

/-! ### The canonical form -/

theorem Memory.wf_iff (m : Mems) : Memory.wf m = true ↔
    twf memDflt m.lp5x = true ∧ twf memDflt m.host = true ∧ twf memDflt m.flash = true ∧ twf memDflt m.mram = true := by
  simp [Memory.wf, and_assoc]

/-- The bytes of two sets of memories are the same. -/
def Mems.sameBytes (m n : Mems) : Prop := m.lp5x = n.lp5x ∧ m.host = n.host ∧ m.flash = n.flash ∧ m.mram = n.mram

theorem Mems.sameBytes_refl (m : Mems) : m.sameBytes m := ⟨rfl, rfl, rfl, rfl⟩

theorem Mems.sameBytes_of_eq {m n : Mems} (h : m = n) : m.sameBytes n := h ▸ m.sameBytes_refl

theorem Mems.sameBytes_trans {m n o : Mems} (h : m.sameBytes n) (k : n.sameBytes o) : m.sameBytes o :=
  ⟨h.1.trans k.1, h.2.1.trans k.2.1, h.2.2.1.trans k.2.2.1, h.2.2.2.trans k.2.2.2⟩

theorem Memory.wf_same {m n : Mems} (h : m.sameBytes n) : Memory.wf m = Memory.wf n := by
  simp only [Memory.wf, h.1, h.2.1, h.2.2.1, h.2.2.2]

@[simp] theorem Device.raise_mems (d : Device) (r : FaultRec) : (d.raise r).mems = d.mems := by
  unfold Device.raise; exact Device.bump_mems _ _

@[simp] theorem Device.violate_mems (d : Device) (i : Option Nat) (pa : Nat) : (d.violate i pa).mems = d.mems := by
  unfold Device.violate; rw [Device.raise_mems]; exact Device.wr_mems _ _ _

theorem Device.normalPhys_mems (d : Device) (i : Option Nat) (pa : Nat) : (d.normalPhys i pa).2.mems = d.mems := by
  unfold Device.normalPhys; split
  · rfl
  · split
    · exact Device.violate_mems _ _ _
    · rfl

@[simp] theorem Device.setScSet_mems (d : Device) (k : Nat) (ls : List ScLine) : (d.setScSet k ls).mems = d.mems := rfl

@[simp] theorem Device.ctlPush_mems (d : Device) (input : Nat) (u w : Bool) (pa n : Nat) : (d.ctlPush input u w pa n).mems = d.mems := rfl

@[simp] theorem Device.scTouch_mems (d : Device) (input : Nat) (w : Bool) (pa n : Nat) (u : Bool) :
    (d.scTouch input w pa n u).mems = d.mems := by
  unfold Device.scTouch
  dsimp only
  split
  · simp
  · split
    · split <;> simp
    · split
      · simp
      · split <;> split <;> simp

theorem Device.foldl_mems {α : Type} (f : Device → α → Device) (hf : ∀ d x, (f d x).mems = d.mems) (l : List α) (d : Device) :
    (l.foldl f d).mems = d.mems := by
  induction l generalizing d with
  | nil => rfl
  | cons x l ih => rw [List.foldl_cons, ih, hf]

@[simp] theorem Device.scSpan_mems (d : Device) (input : Nat) (w : Bool) (pa n : Nat) (u : Bool) :
    (d.scSpan input w pa n u).mems = d.mems :=
  Device.foldl_mems _ (fun _ _ => Device.scTouch_mems _ _ _ _ _ _) _ _

@[simp] theorem Device.walkPass_mems (d : Device) (i va : Nat) : (d.walkPass i va).mems = d.mems :=
  Device.foldl_mems _ (fun _ _ => Device.scSpan_mems _ _ _ _ _ _) _ _

theorem Device.entry_bytes (d : Device) (i va : Nat) : (d.entry i va).2.mems.sameBytes d.mems := by
  unfold Device.entry
  split
  · exact Mems.sameBytes_refl _
  · split
    · exact Mems.sameBytes_refl _
    · have hf := d.walkPass_mems i va
      split
      · dsimp only; rw [hf]; exact ⟨rfl, rfl, rfl, rfl⟩
      · rw [Device.violate_mems, hf]; exact Mems.sameBytes_refl _
      · rw [hf]; exact Mems.sameBytes_refl _

/-- Looking up where an address leads changes no byte. -/
theorem Device.target_bytes (d : Device) (sp : Space) (w : Bool) (a : Nat) : (d.target sp w a).2.mems.sameBytes d.mems := by
  unfold Device.target
  split
  · have h := d.entry_bytes ‹Nat› a
    split
    · rename_i e; rw [e] at h; exact h
    · rename_i e; rw [e] at h
      split
      · exact h
      · dsimp only
        split
        · split
          · exact h
          · exact h
        · exact Mems.sameBytes_trans (Mems.sameBytes_of_eq (Device.normalPhys_mems _ _ _)) h
  · split <;> exact Mems.sameBytes_refl _
  · split <;> exact Mems.sameBytes_refl _
  · exact Mems.sameBytes_of_eq (Device.normalPhys_mems _ _ _)
  · split
    · exact Mems.sameBytes_of_eq (Device.normalPhys_mems _ _ _)
    · exact Mems.sameBytes_refl _

/-- A read changes no byte. -/
theorem Device.readAt_mems (d : Device) (input : Nat) (t : Target) (n : Nat) (who : Option (Nat × Nat)) (u : Bool) :
    (d.readAt input t n who u).2.mems = d.mems := by
  unfold Device.readAt
  split
  · split <;> simp
  · split
    · simp
    · split <;> simp

theorem Device.readSpans_bytes (d : Device) (sp : Space) (input : Nat) (l : List (Nat × Nat)) :
    (d.readSpans sp input l).2.mems.sameBytes d.mems := by
  induction l generalizing d with
  | nil => exact Mems.sameBytes_refl _
  | cons p l ih =>
    obtain ⟨a, n⟩ := p
    rw [Device.readSpans]
    have ht := d.target_bytes sp false a
    split
    · rename_i e; rw [e] at ht; exact ht
    · rename_i t d1 e; rw [e] at ht
      have hr := d1.readAt_mems input t n (spaceWho sp a) false
      split
      · rename_i e; rw [e] at hr; exact Mems.sameBytes_trans (Mems.sameBytes_of_eq hr) ht
      · rename_i bs d2 e; rw [e] at hr
        have h2 := Mems.sameBytes_trans (ih d2) (Mems.sameBytes_trans (Mems.sameBytes_of_eq hr) ht)
        split
        · rename_i e; rw [e] at h2; exact h2
        · rename_i e; rw [e] at h2; exact h2

/-- A read of any space changes no byte. -/
theorem Device.read_bytes (d : Device) (sp : Space) (input a n : Nat) : (d.read sp input a n).2.mems.sameBytes d.mems :=
  d.readSpans_bytes sp input _

/-- A read keeps the canonical form. -/
theorem Device.read_wf (d : Device) (sp : Space) (input a n : Nat) (h : Memory.wf d.mems = true) :
    Memory.wf (d.read sp input a n).2.mems = true := by
  rw [Memory.wf_same (d.read_bytes sp input a n)]; exact h

/-- A write at a target keeps the canonical form. -/
theorem Device.writeAt_wf (d : Device) (input : Nat) (t : Target) (bs : List Byte) (u : Bool) (h : Memory.wf d.mems = true) :
    Memory.wf (d.writeAt input t bs u).2.mems = true := by
  have h0 := h
  rw [Memory.wf_iff] at h
  obtain ⟨h1, h2, h3, h4⟩ := h
  unfold Device.writeAt
  split
  · split
    · rw [Device.raise_mems]; exact h0
    · rw [Memory.wf_iff]; exact ⟨h1, twf_rawWrite _ _ _ h2, h3, h4⟩
  · split
    · exact h0
    · rw [Memory.wf_iff]
      dsimp only
      rw [Device.scSpan_mems]
      exact ⟨twf_rawWrite _ _ _ h1, h2, h3, h4⟩

theorem Device.writeSpans_wf (d : Device) (sp : Space) (input : Nat) (bs : List Byte) (l : List (Nat × Nat))
    (h : Memory.wf d.mems = true) : Memory.wf (d.writeSpans sp input bs l).2.mems = true := by
  induction l generalizing d bs with
  | nil => exact h
  | cons p l ih =>
    obtain ⟨a, n⟩ := p
    rw [Device.writeSpans]
    have ht := Memory.wf_same (d.target_bytes sp true a)
    split
    · rename_i e; rw [e] at ht; rw [ht]; exact h
    · rename_i t d1 e; rw [e] at ht
      have hw := d1.writeAt_wf input t (bs.take n) false (by rw [ht]; exact h)
      split
      · rename_i e; rw [e] at hw; exact hw
      · rename_i e; rw [e] at hw; exact ih _ _ hw

/-- A write without the dirty log keeps the canonical form. -/
theorem Device.writeRaw_wf (d : Device) (sp : Space) (input a : Nat) (bs : List Byte) (h : Memory.wf d.mems = true) :
    Memory.wf (d.writeRaw sp input a bs).2.mems = true := d.writeSpans_wf sp input bs _ h

theorem Device.ringCons_wf (d : Device) (sp : Space) (input base k size : Nat) (h : Memory.wf d.mems = true) :
    Memory.wf (d.ringCons sp input base k size).2.mems = true := by
  have hr := d.read_wf sp input (base + 2 ^ k * size) 4 h
  have e : (d.ringCons sp input base k size).2 = (d.read sp input (base + 2 ^ k * size) 4).2 := by
    unfold Device.ringCons
    generalize d.read sp input (base + 2 ^ k * size) 4 = p
    obtain ⟨r, d1⟩ := p
    cases r <;> rfl
  rw [e]; exact hr

theorem Device.dlogAppend_wf (d : Device) (i va : Nat) (h : Memory.wf d.mems = true) : Memory.wf (d.dlogAppend i va).mems = true := by
  unfold Device.dlogAppend
  dsimp only
  have hr := d.ringCons_wf (.inst 0) 8 (d.inst i).dlogBase (d.inst i).dlogLog2 8 h
  split
  · rename_i e; rw [e] at hr; dsimp only at hr; rw [Device.wr_mems]; exact hr
  · rename_i c d1 e; rw [e] at hr; dsimp only at hr
    split
    · rw [Device.wr_mems]; exact hr
    · have hw := fun a bs => d1.writeRaw_wf (.inst 0) 8 a bs hr
      split
      · rw [Device.signal_mems, Device.wr_mems]; exact hw _ _
      · rw [Device.wr_mems]; exact hw _ _

theorem Device.dlogPage_wf (d : Device) (i va : Nat) (h : Memory.wf d.mems = true) : Memory.wf (d.dlogPage i va).mems = true := by
  unfold Device.dlogPage
  split
  · exact h
  · split
    · exact h
    · split
      · exact h
      · apply Device.dlogAppend_wf
        rw [Memory.wf_iff] at h ⊢
        dsimp only
        rw [Device.scSpan_mems]
        exact ⟨twf_rawWrite _ _ _ h.1, h.2⟩

theorem Device.foldl_wf {α : Type} (f : Device → α → Device) (hf : ∀ d x, Memory.wf d.mems = true → Memory.wf (f d x).mems = true)
    (l : List α) (d : Device) (h : Memory.wf d.mems = true) : Memory.wf (l.foldl f d).mems = true := by
  induction l generalizing d with
  | nil => exact h
  | cons x l ih => exact ih _ (hf _ _ h)

/-- A write to any space keeps the canonical form. -/
theorem Device.write_wf (d : Device) (sp : Space) (input a : Nat) (bs : List Byte) (h : Memory.wf d.mems = true) :
    Memory.wf (d.write sp input a bs).2.mems = true := by
  unfold Device.write
  have hw := d.writeRaw_wf sp input a bs h
  split
  · rename_i e; rw [e] at hw; exact hw
  · rename_i e; rw [e] at hw
    split
    · exact Device.foldl_wf _ (fun _ _ h => Device.dlogPage_wf _ _ _ h) _ _ hw
    · exact hw

/-- A write of the MRAM keeps the canonical form. -/
theorem Device.mramWrite_wf (d : Device) (o : Nat) (bs : List Byte) (h : Memory.wf d.mems = true) :
    Memory.wf (d.mramWrite o bs).mems = true := by
  rw [Memory.wf_iff] at h ⊢
  exact ⟨h.1, h.2.1, h.2.2.1, twf_rawWrite _ _ _ h.2.2.2⟩

/-- A reset keeps the canonical form. -/
theorem Device.blank_wf (d : Device) (h : Memory.wf d.mems = true) : Memory.wf d.blank.mems = true := by
  have e : d.blank.mems = { Device.reset.mems with host := d.mems.host, flash := d.mems.flash, mram := d.mems.mram } :=
    Device.foldl_mems (fun x n => x.wr (Reg.PWR_DVFS_req_n n) (gradePoint d.grade)) (fun _ _ => rfl) _ _
  rw [e]
  rw [Memory.wf_iff] at h ⊢
  exact ⟨rfl, h.2⟩

/-- The memories at reset are in the canonical form. -/
theorem State.reset_memory_wf : Memory.wf State.reset.dev.mems = true := rfl

end Sys2Proof.Machine
end

