-- ==== Sys2Proof/Laws/Scalar.lean ====
section
/-!
SUPPORT. What an instruction of a sequencer can do: the shared operations of `Machine/Trap.lean` and `Machine/Scalar.lean` said
once, for the statements about instructions.
-/

namespace Sys2Proof.Machine

open Sys2Proof

/-! ### Registers of a sequencer -/

theorem Seq.gr_setGr (x : Seq) (r k : Nat) (w : Word) :
    (x.setGr r w).gr k = if k = r ∧ r ≠ 0 then w else x.gr k := by
  unfold Seq.setGr Seq.gr
  by_cases hr : r = 0
  · subst hr; simp
  · rw [if_neg hr]
    by_cases hk : k = r
    · subst hk; simp [hr]
    · simp only [hk, false_and, if_false]
      by_cases h0 : k = 0
      · simp [h0]
      · simp only [h0, if_false]
        exact tget_tset_other _ _ _ _ _ (fun h => hk h.symm)

@[simp] theorem Seq.gr_zero (x : Seq) : x.gr 0 = 0#32 := rfl

/-- What else a write of a general register leaves alone. -/
@[simp] theorem Seq.setGr_g (x : Seq) (r : Nat) (w : Word) (h : r = 0) : (x.setGr r w).g = x.g := by simp [Seq.setGr, h]

theorem Seq.setGr_eq (x : Seq) (r : Nat) (w : Word) : x.setGr r w = { x with g := (x.setGr r w).g } := by
  unfold Seq.setGr; split <;> rfl

/-! ### Issuing an instruction -/

/-- The tick at which the next instruction of sequencer `q` issues. -/
def Device.issueTick (d : Device) (q : Nat) : Nat := max (d.seq q).now (d.atTick (d.seq q).now).beat.stick

/-- The cycles that an instruction of `cycles` cycles with the operands `reads` counts: one more after a load that it waits for. -/
def Seq.counted (x : Seq) (cycles : Nat) (reads : List Nat) : Nat :=
  cycles + (if x.loadRd != 0 && reads.contains x.loadRd then 1 else 0)

/-- The device as an instruction of sequencer `q` finds it. -/
def Device.issued (d : Device) (q : Nat) : Device := d.atTick (d.seq q).now

/-- The sequencer as its instruction finds it, with its cycles counted. -/
def Device.issuedSeq (d : Device) (q cycles : Nat) (reads : List Nat) : Seq :=
  let x := d.seq q
  { x with now := d.issueTick q + x.counted cycles reads, spass := x.spass + x.counted cycles reads, loadRd := 0 }

@[simp] theorem Device.seq_atTick (d : Device) (t q : Nat) : (d.atTick t).seq q = d.seq q := by
  unfold Device.atTick; split <;> rfl

theorem Device.atTick_only (d : Device) (t : Nat) : ∃ b, d.atTick t = { d with beat := b } := by
  unfold Device.atTick; split
  · exact ⟨_, rfl⟩
  · exact ⟨d.beat, rfl⟩

theorem executes_canRun {s : State} {q : Nat} (h : Executes s q) : ({ s.dev with out := [] } : Device).canRun q = true := by
  obtain ⟨h4, h1, h2, h3⟩ := h
  have e : ∀ p, ({ s.dev with out := [] } : Device).seq p = s.dev.seq p := fun _ => rfl
  simp [Device.canRun, e, h1, h2, h3, h4]

/-- How an instruction's end leaves the device: a trap acts on the device `d0` before the instruction, anything else on the
device `d1` with its cycles counted. -/
def Ran.ends (r : Ran) (d0 d1 : Device) (q : Nat) : Device :=
  match r with
  | .trap c v => Ran.finish (.trap c v) d0 q
  | r => r.finish d1 q

/-- What an instruction of a running sequencer does: the end of its body, run on the sequencer with its cycles counted. -/
theorem runInstr_spec (d : Device) (q cycles : Nat) (reads : List Nat) (f : Device → Seq → Ran) (hr : d.canRun q = true)
    (hh : d.boot.halts = []) :
    d.runInstr q cycles reads f =
      (f ((d.issued q).setSeq q (d.issuedSeq q cycles reads)) (d.issuedSeq q cycles reads)).ends
        ((d.issued q).setSeq q { d.seq q with now := d.issueTick q, loadRd := 0 })
        ((d.issued q).setSeq q (d.issuedSeq q cycles reads)) q := by
  have hu : d.useStep q = d := by simp [Device.useStep, hh]
  have hs : (d.atTick (d.seq q).now).seq q = d.seq q := Device.seq_atTick d _ q
  unfold Device.runInstr
  rw [if_pos hr, hu]
  simp only [hs]
  rfl

/-- The pc moves on. -/
theorem advance_spec (d : Device) (q : Nat) (h : (d.seq q).pc + 4 < 0x10000) :
    d.advance q = d.modSeq q (fun x => { x with pc := x.pc + 4 }) := by
  unfold Device.advance
  simp only
  rw [if_neg (by omega)]
  rfl

@[simp] theorem Device.seq_modSeq_same (d : Device) (q : Nat) (f : Seq → Seq) : (d.modSeq q f).seq q = f (d.seq q) := by
  simp [Device.modSeq]

theorem Device.seq_modSeq_other (d : Device) (q p : Nat) (f : Seq → Seq) (h : q ≠ p) : (d.modSeq q f).seq p = d.seq p := by
  unfold Device.modSeq; exact Device.seq_setSeq_other d q p _ h

/-- An instruction whose only effect is on its sequencer: that effect, the pc four further, its cycles counted; no other
sequencer and nothing else of the device changes but the time. -/
theorem runSeq_spec (d : Device) (q cycles : Nat) (reads : List Nat) (f : Seq → Seq) (hr : d.canRun q = true)
    (hh : d.boot.halts = []) (hp : (f (d.issuedSeq q cycles reads)).pc + 4 < 0x10000) :
    (d.runSeq q cycles reads f).seq q =
        { f (d.issuedSeq q cycles reads) with pc := (f (d.issuedSeq q cycles reads)).pc + 4 } ∧
      OnlySeq d (d.runSeq q cycles reads f) q := by
  have e : d.runSeq q cycles reads f =
      (((d.issued q).setSeq q (d.issuedSeq q cycles reads)).setSeq q (f (d.issuedSeq q cycles reads))).modSeq q
        (fun x => { x with pc := x.pc + 4 }) := by
    unfold Device.runSeq
    rw [runInstr_spec d q cycles reads _ hr hh]
    simp only [Ran.ends, Ran.finish]
    exact advance_spec _ _ (by simpa using hp)
  rw [e]
  refine ⟨by simp, ?_, ?_⟩
  · obtain ⟨b, hb⟩ := Device.atTick_only d (d.seq q).now
    simp only [Device.issued, hb]
    rfl
  · intro p hpq
    rw [Device.seq_modSeq_other _ _ _ _ (Ne.symm hpq), Device.seq_setSeq_other _ _ _ _ (Ne.symm hpq),
      Device.seq_setSeq_other _ _ _ _ (Ne.symm hpq)]
    simp [Device.issued]

end Sys2Proof.Machine
end

