-- ==== Sys2Proof/Tests/Slice0.lean ====
section
/-!
SUPPORT. Tests. For every statement of Obligations.lean that has hypotheses, a theorem (witness_<statement>…) shows states and operands
that meet them, clause by clause, at the ends of their ranges; small theorems (test_…) compare one step with a value worked out from
the manual; and one ill-formed command for each check of WellFormed.lean is refused.
-/
set_option Elab.async false

namespace Sys2Proof.Tests
open Sys2Proof Sys2Proof.Machine Sys2Proof.Claims

/-- The device that a command leaves; the device as it was where the command does not answer a next state. -/
def after (i : Instr) (s : State) : Device :=
  match exec i s with
  | .next t => t.dev
  | _ => s.dev

/-- The device after start-up, with no domain up. -/
def dev5 : Device := Device.reset.wr Reg.GLB_BOOT_phase 5

/-- A state with that device. -/
def st (d : Device) : State := { dev := d, pending := [] }

/-- A state in which sequencer `q` runs a pass. -/
def run (q : Nat) (f : Seq → Seq) : State :=
  st (dev5.modSeq q (fun x => f { x with running := true, imageValid := true, stvec := 0x100#32, pc := 0x40, g := [(1, 7#32), (2, 0xFFFFFFFF#32)] }))

/-- A shadowed field with `v` in effect. -/
def wrAct (d : Device) (f : Fld) (v : Nat) : Device := d.setAct f.addr (w32 (putBits (d.actReg f.addr).toNat f.hi f.lo v))

/-- A device on which page 0 of INST_0 and of INST_1 is host memory, whose bytes are zero but for those given. -/
def mapped (d : Device) (bytes : List (Nat × Byte)) : Device :=
  { d with mems := { d.mems with host := bytes, tlb := [⟨0, 0, 0, true, true, true, 0⟩, ⟨1, 0, 0, true, true, true, 0⟩] } }

/-- A run that ends well has a result and a device. -/
theorem ran {ε α : Type} (p : Except ε α × Device) (h : p.1.isOk = true) : ∃ a d, p = (.ok a, d) := by
  obtain ⟨r, d⟩ := p
  cases r with
  | ok a => exact ⟨a, d, rfl⟩
  | error e => simp [Except.isOk, Except.toBool] at h

/-- A property of every active lane. -/
theorem lanes {x : Wave} {P : Nat → Prop} (h : ∀ l, l < 32 → P l) : ∀ l, act x l = true → P l := by
  intro l hl
  simp only [act, Bool.and_eq_true, decide_eq_true_eq] at hl
  exact h l hl.1
/-! ### Sequencers -/

/-- A pass at the last instruction that another can follow, with g1 and g2 as operands. -/
def atEnd : State := run 0 fun x => { x with pc := 0xFFF8 }

theorem witness_RegisterArithmetic : Executes atEnd 0 ∧ (atEnd.dev.seq 0).pc < 0xFFFC := by unfold Executes; decide +kernel
theorem witness_ImmediateArithmetic : Executes atEnd 0 ∧ (atEnd.dev.seq 0).pc < 0xFFFC := by unfold Executes; decide +kernel
theorem witness_ComparesAndLui : Executes atEnd 0 ∧ (atEnd.dev.seq 0).pc < 0xFFFC := by unfold Executes; decide +kernel
theorem witness_RegisterZero : Executes atEnd 0 ∧ (atEnd.dev.seq 0).pc < 0xFFFC := by unfold Executes; decide +kernel

theorem test_add_wraps : let d := after (.add 0 3 1 2) (run 0 id)
    (d.seq 0).gr 3 = 6#32 ∧ (d.seq 0).c = true ∧ (d.seq 0).v = false ∧ (d.seq 0).pc = 0x44 := by decide +kernel
theorem test_sub_to_zero_register : let d := after (.sub 0 0 1 2) (run 0 id)
    (d.seq 0).gr 0 = 0#32 ∧ (d.seq 0).c = true ∧ (d.seq 0).z = false ∧ (d.seq 0).n = false := by decide +kernel
theorem test_mulh_of_negative : ((after (.mulh 0 3 2 1) (run 0 id)).seq 0).gr 3 = 0xFFFFFFFF#32 := by decide +kernel
theorem test_mulhu : ((after (.mulhu 0 3 2 1) (run 0 id)).seq 0).gr 3 = 6#32 := by decide +kernel
theorem test_divu_by_zero : let d := after (.divu 0 3 1 0) (run 0 id)
    (d.seq 0).gr 3 = 0xFFFFFFFF#32 ∧ (d.seq 0).v = true := by decide +kernel
theorem test_remu_by_zero : let d := after (.remu 0 3 1 0) (run 0 id)
    (d.seq 0).gr 3 = 7#32 ∧ (d.seq 0).v = true := by decide +kernel
theorem test_sra_shifts_sign_in : let d := after (.srai 0 3 2 4) (run 0 id)
    (d.seq 0).gr 3 = 0xFFFFFFFF#32 ∧ (d.seq 0).c = true := by decide +kernel
theorem test_shl_by_zero_keeps_c : let d := after (.shli 0 3 1 0) (run 0 fun x => { x with c := true })
    (d.seq 0).gr 3 = 7#32 ∧ (d.seq 0).c = true := by decide +kernel
theorem test_lui : ((after (.lui 0 3 0x3FFFFF) (run 0 id)).seq 0).gr 3 = 0xFFFFFC00#32 := by decide +kernel
theorem test_addi_negative : ((after (.addi 0 3 1 (-4)) (run 0 id)).seq 0).gr 3 = 3#32 := by decide +kernel

/-- g1 = 4 below the end of the DMEM of CSQ0, and g2 = −1. -/
def memEnd : State := run 0 fun x => { x with g := [(1, 0x7FFC#32), (2, 0xFFFFFFFF#32), (3, 0x8081#32)], dmem := [(0x1FFF, 0x8A0B0C0D#32)] }

theorem witness_Loads_and_Stores : Executes memEnd 0 ∧ (memEnd.dev.seq 0).pc < 0xFFFC
    ∧ (effAddr memEnd 0 1 0).toNat < dmemBytes 0 ∧ (effAddr memEnd 0 1 0).toNat % 4 = 0
    ∧ (effAddr memEnd 0 1 2).toNat < dmemBytes 0 ∧ (effAddr memEnd 0 1 2).toNat % 2 = 0
    ∧ (effAddr memEnd 0 1 3).toNat < dmemBytes 0 ∧ (effAddr memEnd 0 1 3).toNat % 1 = 0 := by unfold Executes; decide +kernel
theorem test_loads : ((after (.ldw 0 5 1 0 .clean) memEnd).seq 0).gr 5 = 0x8A0B0C0D#32
    ∧ ((after (.ldh 0 5 1 2 .clean) memEnd).seq 0).gr 5 = 0xFFFF8A0B#32 ∧ ((after (.ldhu 0 5 1 2 .clean) memEnd).seq 0).gr 5 = 0x8A0B#32
    ∧ ((after (.ldb 0 5 1 3 .corrected) memEnd).seq 0).gr 5 = 0xFFFFFF8A#32
    ∧ ((after (.ldbu 0 5 1 1 .clean) memEnd).seq 0).gr 5 = 0xC#32 := by decide +kernel
theorem test_stores : ((after (.sth 0 3 1 2) memEnd).seq 0).dword 0x1FFF = 0x80810C0D#32
    ∧ ((after (.stb 0 3 1 1) memEnd).seq 0).dword 0x1FFF = 0x8A0B810D#32
    ∧ ((after (.stw 0 3 1 0) memEnd).seq 0).dword 0x1FFF = 0x8081#32 := by decide +kernel

theorem witness_DataMemoryTraps : Executes memEnd 0 ∧ CanTrap memEnd 0 ∧ dmemBytes 0 ≤ (effAddr memEnd 0 1 4).toNat
    ∧ ((effAddr memEnd 0 1 3).toNat < dmemBytes 0 ∧ (effAddr memEnd 0 1 3).toNat % 2 ≠ 0)
    ∧ ((effAddr memEnd 0 1 0).toNat < dmemBytes 0 ∧ (effAddr memEnd 0 1 0).toNat % 4 = 0) := by unfold Executes CanTrap; decide +kernel
theorem test_dmem_range_trap : let d := after (.ldw 0 5 1 4 .clean) memEnd
    (d.seq 0).scause = 4 ∧ (d.seq 0).stval = 0x8000#32 ∧ (d.seq 0).sepc = 0x40#32 ∧ (d.seq 0).pc = 0x100 := by decide +kernel

theorem witness_SpecialRegisters : Executes atEnd 0 ∧ (atEnd.dev.seq 0).pc < 0xFFFC ∧ CanTrap atEnd 0 ∧ 0x0F ≤ (0x0F : BitVec 18).toNat
    ∧ (0x0B : BitVec 18).toNat ∉ [0x05, 0x0A, 0x0D, 0x0E] := by unfold Executes CanTrap; decide +kernel
theorem test_mfs_spass_and_read_only : ((after (.mfs 0 5 0x07) atEnd).seq 0).gr 5 = 1#32
    ∧ ((after (.mts 0 1 0x0B) atEnd).seq 0).scause = 1 := by decide +kernel

/-- A pass at pc 0x40 in whose flags z and c hold. -/
def flagged : State := run 0 fun x => { x with z := true, c := true, g := [(1, 0xFFFC#32), (2, 0x10000#32)] }

theorem witness_Branches : Executes flagged 0 ∧ CanTrap flagged 0 ∧ (flagged.dev.seq 0).pc < 0xFFFC
    ∧ (∀ c ∈ condRows, c.1 ∈ [0, 1, 4, 5, 7, 9, 0xC, 0xE] → c.2 (flagged.dev.seq 0) = true)
    ∧ (∀ c ∈ condRows, c.1 ∈ [2, 3, 6, 8, 0xA, 0xB, 0xD] → c.2 (flagged.dev.seq 0) = false)
    ∧ 0 ≤ target flagged 0 (-16) ∧ target flagged 0 0x3FEF < 0x10000
    ∧ (effAddr flagged 0 1 3).toNat < 0x10000 ∧ 0x10000 ≤ (effAddr flagged 0 2 0).toNat := by unfold Executes CanTrap; decide +kernel
theorem test_branches : ((after (.br 0 1 (-16)) flagged).seq 0).pc = 0 ∧ ((after (.br 0 2 (-16)) flagged).seq 0).pc = 0x44
    ∧ ((after (.jal 0 3 0x3FEF) flagged).seq 0).pc = 0xFFFC ∧ ((after (.jal 0 3 0x3FEF) flagged).seq 0).gr 3 = 0x44#32
    ∧ ((after (.br 0 0xF 1) flagged).seq 0).stval = 0x83C00001#32 := by decide +kernel

/-- A pass inside a trap handler. -/
def inHandler : State := run 0 fun x => { x with inTrap := true, sepc := 0xFFFE#32, saved := 5, v := true }

/-- A pass without a trap handler. -/
def noHandler : State := run 0 fun x => { x with stvec := 0#32 }

theorem witness_TrapEntryAndReturn : Executes flagged 0 ∧ CanTrap flagged 0 ∧ decodeScalar 0 0xFFFFFFFF#32 = none
    ∧ (Executes inHandler 0 ∧ (inHandler.dev.seq 0).inTrap = true ∧ (inHandler.dev.seq 0).sepc.toNat < 0x10000)
    ∧ ((flagged.dev.seq 0).inTrap = false ∧ (flagged.dev.seq 0).stvec.toNat < 0x10000 ∧ (flagged.dev.seq 0).stvec ≠ 0#32)
    ∧ (Executes noHandler 0 ∧ (noHandler.dev.seq 0).inTrap = false ∧ (noHandler.dev.seq 0).stvec = 0#32) := by
  unfold Executes CanTrap; decide +kernel
theorem test_trap_and_eret : ((after (.trap 0 5) flagged).seq 0).sepc = 0x44#32 ∧ ((after (.trap 0 5) flagged).seq 0).saved = 5
    ∧ ((after (.eret 0) inHandler).seq 0).pc = 0xFFFC ∧ ((after (.eret 0) inHandler).seq 0).z = true
    ∧ ((after (.eret 0) inHandler).seq 0).v = false ∧ ((after (.trap 0 5) inHandler).seq 0).halted = true
    ∧ ((after (.trap 0 5) noHandler).seq 0).scause = 0x0B := by decide +kernel

/-- A pass on a tick, with g1 = 0, g2 a tick that has passed and g3 one ahead, and event 3 pending. -/
def onTick (w : Wait) : State :=
  let s := run 0 fun x => { x with now := 500, g := [(2, 500#32), (3, 501#32), (4, 8#32), (5, 4#32)], sevent := 8, wait := w }
  { s with dev := { s.dev with beat := { s.dev.beat with stick := 500, clock := 500 } } }

theorem witness_WaitsAndOverruns_waits :
    (Executes (onTick .running) 0 ∧ ((onTick .running).dev.seq 0).pc < 0xFFFC ∧ ((onTick .running).dev.seq 0).gr 1 = 0#32
      ∧ ((onTick .running).dev.seq 0).gr 2 ≠ 0#32 ∧ (((onTick .running).dev.seq 0).gr 2).toNat ≤ issueStick (onTick .running) 0
      ∧ issueStick (onTick .running) 0 < (((onTick .running).dev.seq 0).gr 3).toNat
      ∧ ((onTick .running).dev.seq 0).sevent &&& (((onTick .running).dev.seq 0).gr 4).toNat ≠ 0
      ∧ ((onTick .running).dev.seq 0).sevent &&& (((onTick .running).dev.seq 0).gr 5).toNat = 0)
    ∧ ((onTick (.tick 501)).dev.seq 0).wait = .tick 501 ∧ ((onTick (.event 6 8 0)).dev.seq 0).wait = .event 6 8 0
    ∧ ((onTick (.event 6 8 0)).dev.seq 0).sevent &&& 8 ≠ 0
    ∧ (((onTick (.event 6 4 500)).dev.seq 0).sevent &&& 4 = 0 ∧ (500 : Nat) ≠ 0 ∧ 500 ≤ max (onTick (.event 6 4 500)).dev.beat.stick 0) := by
  unfold Executes; decide +kernel
theorem test_waits : ((after (.waitb 0 1) (onTick .running)).seq 0).running = false
    ∧ ((after (.waitb 0 3) (onTick .running)).seq 0).wait = .tick 501 ∧ ((after (.waitb 0 2) (onTick .running)).seq 0).wait = .running
    ∧ ((after (.waitf 0 6 4 1) (onTick .running)).seq 0).gr 6 = 8#32 ∧ ((after (.waitf 0 6 4 1) (onTick .running)).seq 0).sevent = 0
    ∧ ((after (.waitf 0 6 5 2) (onTick .running)).seq 0).z = true ∧ ((after (.waitf 0 6 5 1) (onTick .running)).seq 0).wait = .event 6 4 0 := by
  decide +kernel
theorem test_wakes : (after (.waitbWake 0) (onTick (.tick 501))).beat.stick = 501
    ∧ ((after (.waitfReturn 0 500) (onTick (.event 6 8 0))).seq 0).gr 6 = 8#32
    ∧ ((after (.waitfReturn 0 500) (onTick (.event 6 4 500))).seq 0).z = true := by decide +kernel

/-- A pass of CSQ0 with a budget of 100 cycles, of which `used` are used, under policy `p`, with the tick of its overrun. -/
def overran (p : Nat) (t : Option Nat) (used : Nat) : State :=
  let s := run 0 fun x => { x with sbudget := 100, spass := used, overrun := t, ovr := if t.isSome then .taken else .none, g := [] }
  st (wrAct s.dev (Reg.BEAT_SQ_BUDGET_policy 0) p)

theorem witness_WaitsAndOverruns_overruns :
    (∀ p ∈ [0, 1, 2, 3], Executes (overran p none 100) 0 ∧ CanTrap (overran p none 100) 0 ∧ ((overran p none 100).dev.seq 0).overrun = none
      ∧ ((overran p none 100).dev.seq 0).sbudget ≤ ((overran p none 100).dev.seq 0).spass
      ∧ (overran p none 100).dev.rdAct (Reg.BEAT_SQ_BUDGET_policy 0) = p)
    ∧ ((overran 1 (some 100) 2100).dev.seq 0).overrun = some 100 ∧ 100 + 2000 ≤ ((overran 1 (some 100) 2100).dev.seq 0).spass
    ∧ ((overran 1 (some 100) 2100).dev.seq 0).ovr = .taken := by
  unfold Executes CanTrap; decide +kernel
theorem test_overruns : ((after (.passOverrun 0) (overran 0 none 100)).seq 0).running = true
    ∧ ((after (.passOverrun 0) (overran 2 none 100)).seq 0).running = false ∧ ((after (.passOverrun 0) (overran 1 none 100)).seq 0).pc = 0x100
    ∧ ((after (.passOverrun 0) (overran 3 none 100)).seq 0).scause = 0x0A ∧ (after (.passOverrun 0) (overran 3 none 100)).rd (Reg.BEAT_SQ_OVR_overruns 0) = 1 := by
  decide +kernel

theorem witness_OverrunGrace :
    (Executes (overran 1 (some 100) 2099) 0 ∧ ((overran 1 (some 100) 2099).dev.seq 0).overrun = some 100
      ∧ ((overran 1 (some 100) 2099).dev.seq 0).ovr = .taken ∧ ((overran 1 (some 100) 2099).dev.seq 0).spass < 100 + 2000
      ∧ ((overran 1 (some 100) 2099).dev.seq 0).pc < 0xFFFC ∧ ((overran 1 (some 100) 2099).dev.seq 0).gr 1 = 0#32)
    ∧ (Executes (overran 1 (some 100) 2100) 0 ∧ 100 + 2000 ≤ ((overran 1 (some 100) 2100).dev.seq 0).spass) := by
  unfold Executes; decide +kernel
theorem test_grace : after (.overrunGraceExpire 0) (overran 1 (some 100) 2099) = (overran 1 (some 100) 2099).dev
    ∧ ((after (.overrunGraceExpire 0) (overran 1 (some 100) 2100)).seq 0).running = false
    ∧ after (.passOverrun 0) (overran 1 (some 100) 2100) = (overran 1 (some 100) 2100).dev := by decide +kernel

/-- A pass with g1 = 63, the last lock cell, and that cell with the given status. -/
def cell (held owner abandoned : Nat) : State :=
  let s := run 0 fun x => { x with g := [(1, 63#32)] }
  st (((s.dev.wr (Reg.WLD_LOCK_STAT_held 63) held).wr (Reg.WLD_LOCK_STAT_owner 63) owner).wr (Reg.WLD_LOCK_STAT_abandoned 63) abandoned)

theorem witness_LockCells : (Executes (cell 0 0 1) 0 ∧ ((cell 0 0 1).dev.seq 0).pc < 0xFFFC ∧ FreeCell (cell 0 0 1) 63 1 ∧ FreeCell (cell 0 0 1) 63 0x10
      ∧ (((cell 0 0 1).dev.seq 0).gr 1).toNat = 63)
    ∧ (Settled (cell 1 1 0) 63 ∧ HeldBy (cell 1 1 0).dev 63 1) ∧ (Settled (cell 1 2 0) 63 ∧ HeldBy (cell 1 2 0).dev 63 2 ∧ 2 ≠ 0 + 1)
    ∧ (Settled (cell 1 0x10 0) 63 ∧ HeldBy (cell 1 0x10 0).dev 63 0x10)
    ∧ ((cell 1 1 0).dev.on (Reg.WLD_LOCK_STAT_secure 63) = false ∧ (cell 1 1 0).dev.on (Reg.WLD_LOCK_STAT_held 63) = true)
    ∧ ((cell 0 0 0).dev.on (Reg.WLD_LOCK_STAT_secure 63) ≠ decide (4 = 4) ∧ (cell 0 0 0).dev.on (Reg.WLD_LOCK_STAT_held 63) = false) := by
  unfold Executes FreeCell HeldBy Settled; decide +kernel
theorem witness_LockCells_handover :
    let s := st { (cell 0 0 0).dev with handovers := [{ kind := 3, unit := 63, secure := true }] }
    s.dev.handovers.find? (fun h => h.kind == 3 && h.unit == 63) = some { kind := 3, unit := 63, secure := true } := by decide +kernel
theorem witness_LockCells_rest : let s := st ((cell 0 0 0).dev.modSeq 0 (fun x => { x with g := [(1, 64#32)] }))
    Executes s 0 ∧ (s.dev.seq 0).pc < 0xFFFC ∧ 63 < ((s.dev.seq 0).gr 1).toNat
      ∧ Settled (cell 0 0 0) 63 ∧ (cell 0 0 0).dev.on (Reg.WLD_LOCK_STAT_held 63) = false
      ∧ (let t := (cell 0 0 0).dev.wr (Reg.WLD_LOCK_STAT_secure 63) 1; t.on (Reg.WLD_LOCK_STAT_secure 63) ≠ decide (0 = 4)) := by
  unfold Executes Settled; decide +kernel
theorem test_locks : ((after (.locka 0 3 1) (cell 0 0 1)).seq 0).gr 3 = 1#32 ∧ (after (.locka 0 3 1) (cell 0 0 1)).rd (Reg.WLD_LOCK_STAT_owner 63) = 1
    ∧ ((after (.lockr 0 3 1) (cell 1 2 0)).seq 0).gr 3 = 3#32 ∧ (after (.lockr 0 3 1) (cell 1 1 0)).on (Reg.WLD_LOCK_STAT_held 63) = false
    ∧ (after (.lockForceRelease .manager 63) (cell 1 1 0)).on (Reg.WLD_LOCK_STAT_abandoned 63) = true := by decide +kernel

/-- A pass with g1 at the last block of the DMEM, whose words are all `w`, and the slots below `k` taken. -/
def poster (w : Word) (k : Nat) : State :=
  run 0 fun x => { x with
    g := [(1, 0x7FF0#32)], dmem := (if w = 0#32 then [] else [(0x1FFC, w)]),
    posts := (List.range k).map (fun j => (j, some ⟨1, 0, false⟩)), postSerial := 0xFFFF }

theorem witness_PostsAndEngineCommands_posts : Executes (poster 0 8) 0 ∧ ((poster 0 8).dev.seq 0).pc < 0xFFFC ∧ BlockAt (poster 0 8) 0 1
    ∧ ((poster 0 8).dev.seq 0).freePost = none ∧ ((poster 0 7).dev.seq 0).freePost = some 7 := by unfold Executes BlockAt; decide +kernel
theorem test_posts : ((after (.postPick 0 3 1) (poster 0 8)).seq 0).gr 3 = 2#32 ∧ ((after (.postCopy 0 3 1) (poster 0 7)).seq 0).gr 3 = 0x700#32
    ∧ ((after (.postCopy 0 3 1) (poster 4 7)).seq 0).gr 3 = 4#32 ∧ ((after (.postCopy 0 3 1) (poster 0 7)).copy 0).waiting.length = 1 := by
  decide +kernel

/-- A pass with g1 = `a` and g2 = `b`. -/
def ab (a b : Word) : State := run 0 fun x => { x with g := (if a = 0#32 then [] else [(1, a)]) ++ (if b = 0#32 then [] else [(2, b)]) }

/-- A pass with g1 = 0 whose ray query slots below `k` are taken. -/
def rays (k : Nat) : State :=
  run 0 fun x => { x with g := [(1, 0x7F80#32)], rays := (List.range k).map (fun j => (j, some ⟨0, 0, 0, 0, [], false⟩)) }

theorem witness_PostsAndEngineCommands_rest : 7 < (((ab 8 1).dev.seq 0).gr 1).toNat ∧ ((ab 7 0).dev.seq 0).gr 2 = 0#32
    ∧ 2 ^ 18 ≤ (((ab 7 0x40000).dev.seq 0).gr 2).toNat
    ∧ (Executes (ab 1 0x1FFFE) 0 ∧ (0 = 1 / 2 ∨ 0 = 4) ∧ ((0x1FFFE : Nat).testBit 17 = false) ∧ (0x1FFFE : Nat).testBit 0 = false)
    ∧ ((ab 0 4097).dev.mode = .native ∧ 4096 < (((ab 0 4097).dev.seq 0).gr 2).toNat)
    ∧ ((ab 0 4096).dev.aud.swap = none ∧ (ab 0 4096).dev.beat.started = false)
    ∧ (((ab 4096 0).dev.seq 0).seedBusy = false ∧ 4095 < (((ab 4096 0).dev.seq 0).gr 1).toNat)
    ∧ (0x7F80 + 128 ≤ dmemBytes 0 ∧ 0x7F80 % 64 = 0 ∧ (∀ k, k < 4 → (((rays 4).dev.seq 0).rayq k).isSome = true)
      ∧ ((rays 3).dev.seq 0).rayq 3 = none ∧ (∀ j, j < 3 → (((rays 3).dev.seq 0).rayq j).isSome = true)) := by
  unfold Executes; decide +kernel
theorem witness_PostsAndEngineCommands_accepted :
    ((ab 0x800 1).dev.seq 0).seedBusy = false ∧ (found (ab 0x800 1)).seedCheck (.seq 0) 0x800 1 = 0
    ∧ (let s := st ((rays 3).dev.wr (Reg.PWR_DOM_state 2) 2)
       ((found s).rayqCode 0 ((List.range 20).map (fun j => (s.dev.seq 0).dword (0x7F80 / 4 + j)))).1 = 0) := by decide +kernel

/-- A pass with g1 = `a`. -/
def port (a : Word) : State := ab a 5

theorem witness_PortAccess : (Executes (port 0x4000000) 0 ∧ CanTrap (port 0x4000000) 0 ∧ 2 ^ 26 ≤ (effAddr (port 0x4000000) 0 1 0).toNat
      ∧ (effAddr (port 0x3FFFFFC) 0 1 1).toNat % 4 ≠ 0)
    ∧ ((port 0x100008).dev.seq 0).pc < 0xFFFC ∧ (effAddr (port 0x100008) 0 1 0).toNat = Reg.BEAT_PERIOD
    ∧ (let s := st { (port 0xC20004).dev with posted := [(0xC, some { agent := .manager, addr := 0xC20004, value := 1 })] }
       portTrap 0 true (effAddr s 0 1 0) = none ∧ postedOf (effAddr s 0 1 0).toNat = some 0xC ∧ s.dev.busy 0xC = true)
    ∧ (let s := run 0 fun x => { x with wait := .port 3 0x200000 }
       (s.dev.seq 0).wait = .port 3 0x200000 ∧ (s.dev.seq 0).pc < 0x10000 ∧ CanTrap s 0) := by unfold Executes CanTrap; decide +kernel
theorem witness_PortAccess_effects :
    (CanTrap (port 0x2000000) 0 ∧ (effAddr (port 0x2000000) 0 1 0).toNat < 2 ^ 26 ∧ (effAddr (port 0x2000000) 0 1 0).toNat % 4 = 0
      ∧ portOk 0 false 0x2000000 = false ∧ portOk 0 true 0x2000000 = false ∧ portOk 0 false 0x100008 = true)
    ∧ (portTrap 0 false 0x100008#32 = none ∧ (port 0x100008).dev.readWaits 0x100008 = false)
    ∧ (portTrap 0 true 0x100008#32 = none ∧ postedOf 0x100008 = none)
    ∧ (portTrap 0 true 0xC00040#32 = none ∧ postedOf 0xC00040 = some 0xC ∧ (port 0xC00040).dev.busy 0xC = false) := by
  unfold CanTrap; decide +kernel
theorem witness_PortAccess_lost : let s := st { (port 0xC00040).dev with flt := { dev5.flt with lostMixed := true } }
    Executes s 0 ∧ CanTrap s 0 ∧ portTrap 0 false (effAddr s 0 1 0) = none ∧ portTrap 0 true (effAddr s 0 1 0) = none
      ∧ portOk 0 false (effAddr s 0 1 0).toNat = true ∧ s.dev.flt.lostMixed = true ∧ postedOf (effAddr s 0 1 0).toNat = some 0xC := by
  unfold Executes CanTrap; decide +kernel
theorem test_ports : ((after (.pld 0 3 1 0 40 .word) (port 0x100008)).seq 0).gr 3 = 48#32
    ∧ ((after (.pld 0 3 1 1 8 .word) (port 0x100008)).seq 0).scause = 7
    ∧ ((after (.pld 0 3 1 0 8 .error) (port 0x100008)).seq 0).scause = 9
    ∧ ((after (.pst 0 3 1 ⟨0, 0⟩) (port 0x2000000)).seq 0).scause = 8 := by decide +kernel

/-! ### Waves -/

/-- An item of INST_1, of a class, with payload bytes that are zero but for those given. -/
def anItem (uid cls : Nat) (pay : List (Nat × Byte)) : Item :=
  { uid := uid, inst := 1, queue := 0, desc := (List.range 64).map (fun k => tget (fun _ => 0#8) ((0, BitVec.ofNat 8 cls) :: pay) k),
    time := 0, started := true, preempted := false, picks := 1, ovf := 0, firstAt := none, slot := none, stage := 1 }

/-- A device on which item 1 executes in pick 0 of CSQ0, on cluster 0 of channel 0. -/
def picked : Device :=
  let p : Pick := { ch := 0, sq := 0, slot := 0, block := 0, inst := 1, item := 1, mask := 1, budget := 100, start := 0, held := false, preempt := none, since := 0, used := 0 }
  { dev5 with
    q := { dev5.q with items := [anItem 1 1 []], picks := [p], nextUid := 2 }
    ras := { dev5.ras with runs := [Run.fresh 1 0], nextWave := 1 } }

/-- Wave 0 of item 1, of a kind: lanes 0 to 3 active and lane 3 a helper, v1 holding a value for each lane and s2 one. -/
def aWave (kind : Nat) : Wave :=
  { id := 0, uid := 1, ch := 0, cluster := some 0, kind := kind, prog := 0x1000, vregs := 16, sregs := 32, wgmem := 64, text := 16,
    early := false, wdepth := true, kills := true, slots := 2,
    v := [(32, 0x3F800000#32), (33, 0x40000000#32), (34, 0xBF800000#32), (35, 7#32)], s := [(2, 0xF0F0F0F0#32)], p := [], amask := 15#32,
    live := 7#32, q := true, pc := 8, group := 0, barrier := false, issue := 0, words := List.replicate 64 0#8, base := 0, frags := [], outs := [] }

/-- A state with waves. -/
def waves (ws : List Wave) : State :=
  st { picked with ras := { picked.ras with waves := ws, groups := [{ id := 0, uid := 1, size := 64, mem := [] }] } }

/-- Operands of an instruction: d = v15, the last register, sources v1 and v1 and p0. -/
def ops : VArith := { imm := none, dst := 15, src0 := 1, src1 := 1, src2 := 0x1E1, neg := 0, abs := 0, sat := false }

theorem witness_wave_runs : ∀ k ∈ [0, 1, 2], WaveRuns (waves [aWave k]) 0 (aWave k) := by unfold WaveRuns; decide +kernel
theorem witness_VectorArithmetic : (∀ r ∈ floatRows ++ intRows, vaOk { ops with src2 := 1 } (aWave 2) true r.2.1 = true)
    ∧ ops.dst.toNat < (aWave 2).vregs := by decide +kernel
theorem witness_VectorCompares : (∀ r ∈ maskRows, vaOk ops (aWave 2) true r.2.1 = true) ∧ (aWave 2).sdstOk 0x84 = true := by decide +kernel
theorem witness_LaneInstructions : vaOk ops (aWave 1) true ⟨3, false, .int, .int⟩ = true ∧ 0x100 ≤ ops.src2.toNat
    ∧ vaOk ops (aWave 1) true ⟨2, false, .int, .int⟩ = true ∧ (aWave 1).sdstOk 31 = true
    ∧ (∀ k ∈ [(0x180 : BitVec 9), 0x1BF], vaOk { ops with src0 := k, src2 := 1 } (aWave 1) true ⟨3, true, .single, .single⟩ = true
      ∧ 0x180 ≤ k.toNat ∧ k.toNat ≤ 0x1BF)
    ∧ vaOk ops (aWave 1) true ⟨1, true, .single, .single⟩ = true ∧ (aWave 1).kind = 1 := by decide +kernel
theorem witness_WaveScalars : (∀ n ∈ [1, 2], vaOk { ops with src0 := 0x102, src1 := 0x1E0 } (aWave 2) false (scaOps n) = true)
    ∧ (aWave 2).sdstOk 0x83 = true := by decide +kernel
theorem test_vector_arithmetic : (let d := after (.fadd 0 ops) (waves [aWave 2])
    (d.wave 0).map (fun x => (List.range 4).map (fun l => x.vr 15 l)) = some [0x40000000#32, 0x40800000#32, 0xC0000000#32, 14#32])
    ∧ (let d := after (.iadd 0 { ops with dst := 1 }) (waves [aWave 2])
       (d.wave 0).map (fun x => (List.range 5).map (fun l => x.vr 1 l)) = some [0x7F000000#32, 0x80000000#32, 0x7F000000#32, 14#32, 0#32]) := by
  decide +kernel
theorem test_compares_and_scalars : ((after (.fcmpLt 0 { ops with dst := 0x80, src0 := 0x1D1 }) (waves [aWave 2])).wave 0).map (fun x => x.pr 0) = some 2#32
    ∧ ((after (.sbic 0 { ops with dst := 3, src0 := 0x102, src1 := 0x1E0 }) (waves [aWave 2])).wave 0).map (fun x => x.sr 3) = some 0xF0F0F0F0#32
    ∧ ((after (.spopc 0 { ops with dst := 3, src0 := 0x102 }) (waves [aWave 2])).wave 0).map (fun x => x.sr 3) = some 16#32
    ∧ ((after (.slsb 0 { ops with dst := 3, src0 := 0x102 }) (waves [aWave 2])).wave 0).map (fun x => x.sr 3) = some 4#32 := by decide +kernel
theorem test_lanes : ((after (.ddx 0 ops) (waves [aWave 1])).wave 0).map (fun x => (List.range 4).map (fun l => x.vr 15 l))
      = some [0x3F800000#32, 0x3F800000#32, 0x3F800000#32, 0x3F800000#32]
    ∧ ((after (.shuf 0 { ops with src1 := 0x182 }) (waves [aWave 1])).wave 0).map (fun x => (List.range 4).map (fun l => x.vr 15 l))
      = some [0xBF800000#32, 0xBF800000#32, 0xBF800000#32, 0xBF800000#32] := by decide +kernel
theorem witness_WaveControl : (WaveRuns (waves [aWave 2]) 0 (aWave 2) ∧ (1#32).toNat ≤ 1 ∧ (aWave 2).kind = 2)
    ∧ (∃ y ∈ (waves [aWave 2, { aWave 2 with id := 1 }]).dev.ras.waves, y.kind = 2 ∧ y.group = 0 ∧ y.id ≠ 0 ∧ y.barrier = false)
    ∧ (∀ y ∈ (waves [aWave 2, { aWave 2 with id := 1, barrier := true }]).dev.ras.waves, y.kind = 2 → y.group = 0 → y.id = 0 ∨ y.barrier = true)
    ∧ ((aWave 0).kind = 0 ∧ (waves [aWave 0]).dev.run 1 = some (Run.fresh 1 0)) ∧ (aWave 1).kind = 1 := by
  unfold WaveRuns; decide +kernel
theorem witness_WaveControl_illegal : decodeVec 0 0x9000000000000000#64 = none ∧ decodeVec 0 0x8000000000000000#64 ≠ none := by decide +kernel
theorem witness_WaveControl_fragment_end :
    ∃ d', (endFragWave (memCtx (waves [aWave 1]) (aWave 1)) (aWave 1)).run (found (waves [aWave 1])) = (.ok (), d') := ⟨_, rfl⟩
theorem witness_WaveControl_go_on :
    ∃ d', (goOn (memCtx (waves [aWave 0]) (aWave 0))).run ((((found (waves [aWave 0])).modRun 1 (fun r => { r with vtx := [] })).removeWave
      (aWave 0)).passBarrier 0) = (.ok (), d') := ⟨_, rfl⟩
theorem test_wave_control : ((after (.bq0 0 4) (waves [aWave 2])).wave 0).map (·.pc) = some 16
    ∧ ((after (.bra 0 0xFFFFFFFE#32) (waves [aWave 2])).wave 0).map (·.pc) = some 0
    ∧ (after (.vecEnd 0) (waves [aWave 2])).wave 0 = none
    ∧ ((after (.wgbar 0) (waves [aWave 2, { aWave 2 with id := 1, barrier := true }])).wave 1).map (·.barrier) = some false := by decide +kernel

/-- An access of one register, v1, at the offset in v2 plus 60, through s4 to s7. -/
def acc : VMem := { data := 1, vaddr := 2, desc := 4, count := 0, flags := 1, offset := 60 }

theorem witness_WorkgroupMemory : (WaveRuns (waves [aWave 2]) 0 (aWave 2) ∧ ((waves [aWave 2]).dev.ras.groups.find? (fun g => g.id == 0)).isSome = true)
    ∧ (({ acc with count := 3 } : VMem).count.toNat + 1 ≤ 4 ∧ wgOk { acc with count := 3 } (aWave 2) 4 = true)
    ∧ (acc.count = 0#3 ∧ wgOk acc (aWave 2) 1 = true ∧ wgOk acc (aWave 2) 2 = true) := by unfold WaveRuns; decide +kernel
theorem test_workgroup_memory : (after (.wst 0 acc) (waves [aWave 2])).groupMem 0 = [(62, 0x80#8), (63, 0xBF#8)]
    ∧ ((after (.watomUmax 0 acc) (waves [aWave 2])).wave 0).map (fun x => (List.range 4).map (fun l => x.vr 1 l))
        = some [0#32, 0x3F800000#32, 0x40000000#32, 7#32] := by decide +kernel

/-- A wave with a buffer descriptor at s4: address 0, `size` bytes, writable, coherent; v2 holds 0. -/
def bufWave (size : Word) : Wave := { aWave 2 with s := (if size = 0#32 then [] else [(6, size)]) ++ [(7, 3#32)] }

/-- A state with that wave and memory for it. -/
def bufs (size : Word) : State := st (mapped (waves [bufWave size]).dev [(60, 9#8)])

theorem witness_BufferMemory : WaveRuns (bufs 64) 0 (bufWave 64)
    ∧ ((0 : Int) = (((bufWave 64).pair 4 : Int) + 0) % 2 ^ 64 ∧ 0 % 4 = 0 ∧ (4 : Nat) ≤ 4 ∧ 8 + 2 ^ 4 ≤ (bufWave 64).sregs)
    ∧ ({ acc with count := 3 } : VMem).count.toNat + 1 ≤ 4 ∧ memOk { acc with count := 3 } (bufWave 64) 4 = true
    ∧ (∀ l, act (bufWave 63) l = true → ((bufWave 63).buf 4).size < laneAddr (bufWave 63) acc l + 4)
    ∧ memOk { acc with flags := 0 } (bufWave 64) 2 = true ∧ ({ acc with flags := 0 } : VMem).flags.getLsbD 0 = false := by
  refine ⟨by unfold WaveRuns; decide +kernel, by decide +kernel, by decide +kernel, by decide +kernel,
    lanes (by decide +kernel), by decide +kernel, by decide +kernel⟩
theorem witness_BufferMemory_runs :
    (∃ bs d', (rasRead 0 1 0 64 1).run (found (bufs 64)) = (.ok bs, d'))
    ∧ (∃ y d', ((lanesOf (bufWave 64).amask).foldlM (fun y l => (List.range 1).foldlM (fun y j => do
        let v ← bufLoad (memCtx (bufs 64) (bufWave 64)) (bufWave 64) ((bufWave 64).buf 4) (laneAddr (bufWave 64) acc l + 4 * j)
        pure (y.setVr (1 + j) l v)) y) (bufWave 64) : RasM Wave).run (found (bufs 64)) = (.ok y, d'))
    ∧ (∃ u d', ((doing (bufWave 64)).forM (fun l => (List.range 1).forM (fun j =>
        bufStore (memCtx (bufs 64) (bufWave 64)) ((bufWave 64).buf 4) (laneAddr (bufWave 64) acc l + 4 * j) ((bufWave 64).vr (1 + j) l))) : RasM Unit).run
          (found (bufs 64)) = (.ok u, d'))
    ∧ (∃ y d', ((doing (bufWave 64)).foldlM (fun y l => do
        let old ← bufAtomic (memCtx (bufs 64) (bufWave 64)) ((bufWave 64).buf 4) (laneAddr (bufWave 64) acc l) (fun p => p + 1#32)
        pure (y.setVr 1 l old)) (bufWave 64) : RasM Wave).run (found (bufs 64)) = (.ok y, d')) :=
  ⟨ran _ (by decide +kernel), ran _ (by decide +kernel), ran _ (by decide +kernel), ran _ (by decide +kernel)⟩
theorem test_buffer_memory : ((after (.bld 0 acc) (bufs 64)).wave 0).map (fun x => (List.range 4).map (fun l => x.vr 1 l)) = some [9#32, 9#32, 9#32, 9#32]
    ∧ ((after (.batomAdd 0 acc) (bufs 64)).wave 0).map (fun x => (List.range 4).map (fun l => x.vr 1 l))
        = some [9#32, 0x3F800009#32, 0x7F800009#32, 7#32]
    ∧ ((after (.bld 0 acc) (bufs 63)).wave 0).map (fun x => x.vr 1 0) = some 0#32 := by decide +kernel

/-- A wave with a texture descriptor at s8 and a sampler at s16: 2 by 2 texels of R32F, twill. -/
def texWave (fmt : Word) : Wave := { aWave 1 with s := [(10, 0x10001#32), (11, fmt)], v := [] }

/-- A texture instruction on it: components r to a to v4, coordinates from v0. -/
def texel : VTex := { dst := 4, coord := 0, tdesc := 8, sdesc := 16, mask := 15, offu := 0, offv := 0 }

/-- A state with that wave and memory for it. -/
def texs (fmt : Word) : State := st (mapped (waves [texWave fmt]).dev [])

theorem witness_TexturesAndRays : WaveRuns (texs 0x20) 0 (texWave 0x20) ∧ texOk texel (texWave 0x20) 1 false = true ∧ texOk texel (texWave 0x20) 2 true = true
    ∧ texOk texel (texWave 0x20) 3 true = true ∧ texOk texel (texWave 0x20) 3 false = true ∧ ((texWave 0x20).tex 8).ok = true
    ∧ ((texWave 3).tex 8).ok = false := by unfold WaveRuns; decide +kernel
theorem test_query : ((after (.query 0 texel) (texs 0x20)).wave 0).map (fun x => (List.range 4).map (fun k => x.vr (4 + k) 0)) = some [2#32, 2#32, 1#32, 0#32] := by
  decide +kernel
theorem witness_TexturesAndRays_trace :
    ∃ y d', ((lanesOf (aWave 2).amask).foldlM (fun y l => traceLane (memCtx (texs 0x20) (aWave 2)) (aWave 2)
      { dst := 12, ray := 0, root := 30, omask := 31, flags := 0 } l y) (aWave 2) : RasM Wave).run (found (texs 0x20)) = (.ok y, d') :=
  ran _ (by decide +kernel)

/-- An export of the components r and a of v14 and v15. -/
def exp : VExp := { src := 14, target := 1, mask := 9 }

theorem witness_Exports : WaveRuns (waves [aWave 1]) 0 (aWave 1) ∧ WaveRuns (waves [aWave 0]) 0 (aWave 0)
    ∧ exp.target.toNat ≤ 3 ∧ exp.src.toNat + ((List.range 4).filter (fun k => exp.mask.getLsbD k)).length ≤ (aWave 1).vregs
    ∧ (aWave 1).wdepth = true ∧ exp.src.toNat < (aWave 1).vregs ∧ ({ exp with src := 12 } : VExp).src.toNat + 4 ≤ (aWave 0).vregs
    ∧ exp.target.toNat < (aWave 0).slots ∧ (aWave 1).kills = true := by unfold WaveRuns; decide +kernel
theorem test_exports : ((after (.expp 0 { exp with src := 0 }) (waves [aWave 0])).wave 0).map (fun x => (x.out 33, x.out 33 |>.isSome)) = some (some 0x3F800000#32, true)
    ∧ ((after (.kill 0) (waves [aWave 1])).wave 0).map (·.live) = some 0#32 := by decide +kernel
theorem witness_TexturesAndRays_runs :
    (∃ y d', ((lanesOf (texWave 0x20).amask).foldlM (fun y l => do
        let c ← sampleImplicit (memCtx (texs 0x20) (texWave 0x20)) (texWave 0x20) 0 ((texWave 0x20).tex 8) ((texWave 0x20).samp 16) none l 0 0
        pure (texels texel y (l, c))) (texWave 0x20) : RasM Wave).run (found (texs 0x20)) = (.ok y, d'))
    ∧ (∃ y d', ((lanesOf (texWave 0x20).amask).foldlM (fun y l => do
        let c ← texelFetch (memCtx (texs 0x20) (texWave 0x20)) 0 ((texWave 0x20).tex 8) 0 1 1
        pure (texels texel y (l, c))) (texWave 0x20) : RasM Wave).run (found (texs 0x20)) = (.ok y, d')) :=
  ⟨ran _ (by decide +kernel), ran _ (by decide +kernel)⟩
/-! ### Work queues, picks and packets -/

/-- INST_1 with its queue 15 enabled at size 6, its harvest ring enabled, and `p` descriptors in the queue. -/
def queue (p : Nat) : Device :=
  let d := ((dev5.wr (Reg.INST_Q_CFG_enable 1 15) 1).wr (Reg.INST_Q_CFG_log2_size 1 15) 6).wr (Reg.INST_STATE_state 1) 1
  (((d.wr (Reg.INST_HRV_CFG_enable 1) 1).wr (Reg.INST_HRV_CFG_log2_size 1) 6).wr (Reg.INST_QUOTA_quota 1) 64).setProd 1 15 p

theorem witness_QueueRegisters :
    (let s := st (queue 0)
     (s.dev.on (Reg.INST_Q_CFG_enable 1 15) = true ∧ (64#32).toNat % 2 ^ 17 < 2 ^ (s.dev.queueK 1 15 + 1) ∧ s.dev.waitingDescs 1 15 ≤ 64
       ∧ ringDiff 128 64 (s.dev.rd (Reg.INST_Q_CONS_cons 1 15)) ≤ 2 ^ s.dev.queueK 1 15)
     ∧ ¬ ringDiff 128 65 (s.dev.rd (Reg.INST_Q_CONS_cons 1 15)) ≤ 2 ^ s.dev.queueK 1 15
     ∧ s.dev.on (Reg.INST_Q_CFG_enable 1 14) = false ∧ s.dev.rd (Reg.INST_Q_CFG_log2_size 1 15) = 6
     ∧ s.dev.on (Reg.INST_HRV_CFG_enable 2) = false ∧ (s.dev.on (Reg.INST_HRV_CFG_enable 1) = true ∧ s.dev.rd (Reg.INST_HRV_CFG_log2_size 1) = 6)
     ∧ ringDiff 128 0 (s.dev.rd (Reg.INST_HRV_CONS_cons 1)) ≤ ringDiff 128 (s.dev.rd (Reg.INST_HRV_PROD_prod 1)) 0
     ∧ ¬ ringDiff 128 1 (s.dev.rd (Reg.INST_HRV_CONS_cons 1)) ≤ ringDiff 128 (s.dev.rd (Reg.INST_HRV_PROD_prod 1)) 0
     ∧ s.dev.q.held.all (fun h => h.inst != 1) = true)
    ∧ (let d := (dev5.wr (Reg.INST_HRV_IRQ_enable 31) 1).wr (Reg.INST_HRV_IRQ_beats 31) 1
       let s := st { d with q := { d.q with unsig := [(31, (1, 0))] }, beat := { d.beat with started := true, sbeat := 1 } }
       s.dev.on (Reg.INST_HRV_IRQ_enable 31) = true ∧ s.dev.rd (Reg.INST_HRV_IRQ_beats 31) ≠ 0
         ∧ (tget (fun _ => (0, 0)) s.dev.q.unsig 31).1 ≠ 0
         ∧ s.dev.rd (Reg.INST_HRV_IRQ_beats 31) * 65536 ≤ s.dev.beatTime - (tget (fun _ => (0, 0)) s.dev.q.unsig 31).2)
    ∧ (st (queue 0)).dev.hostUp = true := by
  decide +kernel
theorem test_doorbells : (after (.doorbell 1 15 64#32) (st (queue 0))).prodOf 1 15 = 64
    ∧ (after (.doorbell 1 15 65#32) (st (queue 0))).on (Reg.INST_Q_STATUS_bad_doorbell 1 15) = true
    ∧ (after (.doorbell 1 15 1#32) (st (queue 2))).prodOf 1 15 = 2 := by decide +kernel

/-- INST_1 with one FENCE descriptor, of tag 0x1234, at the head of its queue 15. -/
def fenced : State := st (mapped (queue 1) [(0, 5#8), (2, 0x34#8), (3, 0x12#8)])

theorem witness_Admission : fenced.dev.admits 1 = true ∧ fenced.dev.lacksSlot 1 = false ∧ fenced.dev.admitQueue 1 = some 15 := by decide +kernel
theorem witness_Admission_read :
    let d0 := Device.wr { fenced.dev with q := { fenced.dev.q with turn := [] }, out := [] } (Reg.INST_Q_CONS_cons 1 15) 1
    ∃ b d1, d0.read (.inst 1) 8 0 64 = (.ok b, d1) := ran _ (by decide +kernel)
theorem test_admission : (let d := after (.descriptorAdmit 1) fenced
    (d.q.items.map (fun x => (x.cls, x.tag, x.queue)), d.rd (Reg.INST_Q_CONS_cons 1 15)) = ([(5, 0x1234, 15)], 1)) := by decide +kernel

/-- An item of INST_0 that nothing has started, at the head of queue 0. -/
def waiting (cls : Nat) (pay : List (Nat × Byte)) : State :=
  st { dev5 with q := { dev5.q with items := [{ anItem 1 cls pay with inst := 0, started := false, stage := 0 }], nextUid := 2 } }

theorem witness_Admission_heads : (∀ cls ∈ [5, 6, 7], ((waiting cls []).dev.queueHead 0 0).map (·.cls) = some cls)
    ∧ (waiting 5 []).dev.item 1 = (waiting 5 []).dev.queueHead 0 0
    ∧ (waiting 5 []).dev.queueItems 0 0 = [{ anItem 1 5 [] with inst := 0, started := false, stage := 0 }]
    ∧ ((waiting 6 [(0x21, 8#8)]).dev.queueHead 0 0).map (fun x => (x.pay 0x20 2, (waiting 6 [(0x21, 8#8)]).dev.mayStart x)) = some (0x800, true)
    ∧ (found (waiting 6 [(0x21, 8#8)])).seedCheck (.item 1) 0x800 0 = 0
    ∧ (∀ r ∈ [0, 1, 2], ((waiting 7 [(0x24, BitVec.ofNat 8 r)]).dev.queueHead 0 0).map (·.request) = some r) := by decide +kernel
theorem test_fence : (after (.fence 0 0) (waiting 5 [])).item 1 = none
    ∧ (after (.seedItem 0 0) (waiting 6 [(0x21, 8#8)])).seed.queue = [{ src := .item 1, reg := 0x800, value := 0 }] := by decide +kernel

/-- A device that grants picks, with a pick that runs. -/
def granting (p : Option (Nat × Nat)) : State :=
  st { picked with
    beat := { picked.beat with started := true, grants := true }
    q := { picked.q with picks := picked.q.picks.map (fun x => { x with preempt := p }) } }

theorem witness_PicksEnd : ((granting none).dev.beat.started = true ∧ (granting none).dev.beat.grants = true)
    ∧ ((granting none).dev.pickAt 0 0).map (fun p => (p.held, p.preempt)) = some (false, none)
    ∧ (((granting (some (1, 5))).dev.pickAt 0 0).map (fun p => (p.preempt, p.mask.testBit 0)) = some (some (1, 5), true) ∧ 16000 ≤ 16000)
    ∧ ((granting none).dev.item 1 = some (anItem 1 1 []) ∧ (granting none).dev.run 1 = some (Run.fresh 1 0)
      ∧ (granting none).dev.executing 1 = true ∧ (anItem 1 1 []).pay 0x28 4 < (Run.fresh 1 0).pos + 64 ∧ (granting none).dev.idleRun 1 = true) := by
  decide +kernel
theorem witness_PicksEnd_ctx :
    let x : Ctx := { sq := 0, slot := 0, block := 0, head := 0, inst := 1, item := 1, mask := 1, taken := 1, start := some 0, since := 0, used := 0 }
    let s := st { granting none |>.dev with ras := { picked.ras with ctxs := [(3, some x)] } }
    s.dev.ctx 3 = some x ∧ s.dev.item x.item = some (anItem 1 1 []) := by decide +kernel
theorem test_picks : ((after .fallowOpen (granting none)).q.picks.map (·.preempt.isSome)) = [true]
    ∧ (after (.pickFinish 0 0) (granting none)).item 1 = none
    ∧ ((after (.preemptRelease 0 0 16000) (granting (some (1, 5)))).item 1).map (fun x => (x.stage, x.preempted)) = some (0, true) := by decide +kernel

/-- Item 1 at a packet: a command buffer of one packet at address 0x100. -/
def atPacket (bytes : List (Nat × Byte)) (f : Run → Run) : State :=
  let x := anItem 1 1 [(0x21, 1#8), (0x28, 64#8)]
  st (mapped { picked with q := { picked.q with items := [x] }, ras := { picked.ras with runs := [f (Run.fresh 1 0)] } }
    (bytes.map (fun p => (0x100 + p.1, p.2))))

/-- A pass that attaches. -/
def aPass : PassState :=
  { width := 64, height := 64, samples := 0, atts := [], attaching := true, blocks := 0, lists := [], flushed := [], rendered := [], texels := [] }

/-- The packet that the engine reads at item 1. -/
def packetAt (s : State) : List Byte := match ((found s).l2Read 0 1 0x100 64).1 with | .ok b => b | .error _ => []

theorem witness_AtPacket (bytes : List (Nat × Byte)) (f : Run → Run)
    (h : ((found (atPacket bytes f)).l2Read 0 1 0x100 64).1.isOk = true)
    (hr : (atPacket bytes f).dev.run 1 = some (f (Run.fresh 1 0))) (hp : (f (Run.fresh 1 0)).pos = 0) (hc : (f (Run.fresh 1 0)).ch = 0)
    (he : (atPacket bytes f).dev.executing 1 = true) :
    ∃ b d, AtPacket (atPacket bytes f) 1 (anItem 1 1 [(0x21, 1#8), (0x28, 64#8)]) (f (Run.fresh 1 0)) b d := by
  obtain ⟨b, d0, hb⟩ := ran _ h
  refine ⟨b, _, rfl, hr, he, by rw [hp]; decide +kernel, d0, ?_, rfl⟩
  rw [hp, hc]; exact hb
theorem witness_Packets_nop : ∃ b d, AtPacket (atPacket [] id) 1 (anItem 1 1 [(0x21, 1#8), (0x28, 64#8)]) (Run.fresh 1 0) b d :=
  witness_AtPacket [] id (by decide +kernel) (by decide +kernel) rfl rfl (by decide +kernel)
theorem witness_Packets :
    IsPacket (packetAt (atPacket [] id)) 0 ∧ IsPacket (packetAt (atPacket [(0, 1#8)] id)) 1
    ∧ (∀ n, n < 4 → blendOk (leAt (packetAt (atPacket [(0, 1#8)] id)) (0x2C + 4 * n) 4) = true)
    ∧ (let b := packetAt (atPacket [(0, 2#8), (5, 0x20#8), (7, 0x20#8), (8, 2#8)] id)
       IsPacket b 2 ∧ leAt b 4 2 = 8192 ∧ leAt b 6 2 = 8192 ∧ leAt b 8 1 = 2)
    ∧ (let b := packetAt (atPacket [(0, 3#8), (4, 3#8), (5, 7#8), (6, 2#8)] id)
       IsPacket b 3 ∧ leAt b 4 1 = 3 ∧ leAt b 5 1 = 7 ∧ leAt b 6 1 % 4 = 2 ∧ leAt b 8 8 % 4096 = 0)
    ∧ (aPass.attaching = true ∧ aPass.atts.any (fun a => a.idx == 3) = false)
    ∧ (let b := packetAt (atPacket [(0, 4#8), (4, 0x25#8)] id); IsPacket b 4 ∧ leAt b 4 1 % 16 = 5 ∧ leAt b 4 1 / 16 = 2)
    ∧ (let b := packetAt (atPacket [(0, 6#8), (8, 0xFF#8), (9, 0xFF#8), (0xC, 1#8), (0x10, 1#8)] id)
       IsPacket b 6 ∧ ∀ o ∈ [8, 0x0C, 0x10], 1 ≤ leAt b o 4 ∧ leAt b o 4 ≤ 65535)
    ∧ IsPacket (packetAt (atPacket [(0, 8#8)] id)) 8 ∧ IsPacket (packetAt (atPacket [(0, 9#8)] id)) 9
    ∧ IsPacket (packetAt (atPacket [(0, 10#8)] id)) 0xA ∧ IsPacket (packetAt (atPacket [(0, 11#8)] id)) 0xB
    ∧ (IsPacket (packetAt (atPacket [(0, 12#8)] id)) 0xC ∧ leAt (packetAt (atPacket [(0, 12#8)] id)) 8 8 % 8 = 0)
    ∧ IsPacket (packetAt (atPacket [(0, 13#8)] id)) 0xD ∧ (atPacket [] id).dev.idleRun 1 = true
    ∧ packetZero (packetAt (atPacket [(1, 1#8)] id)) (packetRanges 0) = false ∧ 0xE ≤ leAt (packetAt (atPacket [(0, 14#8)] id)) 0 1 := by
  unfold IsPacket; decide +kernel
theorem test_packets : ((after (.nop 1) (atPacket [] id)).run 1).map (·.pos) = some 64
    ∧ (after (.nop 1) (atPacket [(1, 1#8)] id)).item 1 = none
    ∧ ((after (.passBegin 1) (atPacket [(0, 2#8), (4, 1#8), (6, 1#8)] id)).run 1).map (fun r => (r.pos, r.pass.isSome)) = some (64, true)
    ∧ ((after (.endC 1) (atPacket [(0, 13#8)] id)).item 1).isSome = false := by decide +kernel
theorem witness_Packets_runs :
    (∃ u d', (drawChecks { c := 0, i := 1, u := 1 } { Run.fresh 1 0 with pass := some aPass, bound := { words := (List.range 64).map (fun k => if k = 9 then 2#8 else 0#8), res := 0, vbuf := 0x400, consts := 0 } }).run
      (found (atPacket [(0x100, 0x50#8), (0x101, 0x47#8), (0x102, 0x56#8), (0x103, 0x4B#8), (0x104, 1#8), (0x10C, 8#8), (0x10E, 16#8)] id)) = (.ok u, d'))
    ∧ (∃ u d', (readProg { c := 0, i := 1, u := 1 } 2 0x200).run
      (found (atPacket [(0x100, 0x50#8), (0x101, 0x47#8), (0x102, 0x56#8), (0x103, 0x4B#8), (0x104, 1#8), (0x108, 2#8), (0x10C, 8#8), (0x10E, 16#8),
        (0x114, 1#8), (0x115, 4#8), (0x116, 16#8)] id)) = (.ok u, d'))
    ∧ (∃ u d', (endPass { c := 0, i := 1, u := 1 } aPass).run (found (atPacket [] id)) = (.ok u, d'))
    ∧ (∃ u d', (goOn { c := 0, i := 1, u := 1 }).run (found (atPacket [] (fun r => { r with pass := some aPass }))) = (.ok u, d'))
    ∧ (∃ u d', (indirectDraws { c := 0, i := 1, u := 1 } (Run.fresh 1 0) ⟨[], [], []⟩ [] []).run (found (atPacket [] id)) = (.ok u, d'))
    ∧ (∃ u d', (rasWrite 0 1 1 8 (leBytes 8 5)).run (found (atPacket [] id)) = (.ok u, d')) :=
  ⟨ran _ (by decide +kernel), ran _ (by decide +kernel), ran _ (by decide +kernel), ran _ (by decide +kernel), ran _ (by decide +kernel),
    ran _ (by decide +kernel)⟩

/-- The header of a compute program of eight vector and 16 scalar registers and one invocation. -/
def aHead : List Byte := (List.range 64).map (fun k => ([(0, 0x50#8), (1, 0x47#8), (2, 0x56#8), (3, 0x4B#8), (4, 1#8), (8, 2#8), (0xC, 8#8),
  (0xE, 16#8), (0x14, 1#8), (0x15, 4#8), (0x16, 16#8)].find? (fun p => p.1 == k)).elim 0#8 (·.2))

/-- Item 1 with a compute program, one dispatch of one workgroup, and a sequencer whose ray query waits. -/
def starts : State :=
  let s := atPacket [] (fun r => { r with disps := [{ nx := 1, ny := 1, nz := 1, bound := r.bound, head := aHead, started := [] }] })
  st (s.dev.modSeq 0 (fun x => { x with rays := [(3, some { block := 0, ch := 0, inst := 1, arrival := 0, words := [], stale := false })] }))

theorem witness_RasterEvents : starts.dev.item 1 = some (anItem 1 1 [(0x21, 1#8), (0x28, 64#8)]) ∧ starts.dev.executing 1 = true
    ∧ starts.dev.clusterFor 0 0 1 = true ∧ (starts.dev.seq 0).rayq 3 = some ⟨0, 0, 1, 0, [], false⟩
    ∧ starts.dev.rayTurn 0 ⟨0, 0, 1, 0, [], false⟩ = true := by decide +kernel
theorem witness_RasterEvents_group :
    let r := { Run.fresh 1 0 with disps := [{ nx := 1, ny := 1, nz := 1, bound := (Run.fresh 1 0).bound, head := aHead, started := [] }] }
    (startGroup r 1 0 0 0 0 0).1.length = 1 ∧ (found starts).fits 0 0 (startGroup r 1 0 0 0 0 0).1 (startGroup r 1 0 0 0 0 0).2 = true := by
  decide +kernel
theorem witness_RasterEvents_resume : let s := st { starts.dev with ras := { starts.dev.ras with waves := [{ aWave 2 with cluster := none }] } }
    s.dev.wave 0 = some { aWave 2 with cluster := none } ∧ (aWave 2).uid = (Run.fresh 1 0).uid ∧ s.dev.clusterFor 0 0 1 = true
      ∧ s.dev.fits 0 0 (s.dev.ras.waves.filter (fun v => v.uid == 1 && v.group == 0)) 0 = true ∧ s.dev.ras.groups = [] := by decide +kernel
theorem witness_RasterEvents_ray :
    ∃ e d', (castRay 0 1 1 0 (blockRay [])).run (found starts) = (.ok e, d') := ran _ (by decide +kernel)
theorem test_dispatch : (after (.waveStart 1 0 (.workgroup 0 0 0 0)) starts).ras.waves.map (fun x => (x.kind, x.vregs, x.amask)) = [(2, 8, 1#32)] := by
  decide +kernel

/-- The header of a vertex or fragment program (kind 0 or 1) with flags. -/
def aProgram (kind : Byte) (flags : Byte) : List Byte := (List.range 64).map (fun k => ([(0, 0x50#8), (1, 0x47#8), (2, 0x56#8), (3, 0x4B#8),
  (4, 1#8), (8, kind), (0xC, 8#8), (0xE, 16#8), (0x18, flags), (0x1C, 8#8)].find? (fun p => p.1 == k)).elim 0#8 (·.2))

/-- Item 1 in a pass with one triangle list of three vertices, of which `n` have started, its raster word `word` and the x of its second
vertex; its fragments cover two pixels of a quad in tile 0. -/
def drawing (word : Byte) (x1 : Word) (n : Nat) (vtx : Bool) (f : List Covered) : State :=
  let one := 0x3F800000#32
  let v := fun (x y : Word) => ({ pos := [x, y, 0, one], attrs := [] } : Vtx)
  let fr := fun (x : Nat) => ({ x := x, y := 0, mask := 1, depth := one, i := 0, j := 0 } : Frag)
  atPacket [] (fun r => { r with
    pass := some { aPass with attaching := false }
    draws := [{
      topo := 3, idxSize := 0, count := 3, insts := 1, first := 0, voff := 0, firstInst := 0, idxAddr := 0,
      bound := { r.bound with words := (List.range 64).map (fun k => if k = 0x20 then word else 0#8) }, table := List.replicate 256 0#8,
      vhead := aProgram 0 0, fhead := aProgram 1 0, cover := [{ tiles := [0], frags := [fr 0, fr 1] }], next := n, taken := b2n (!f.isEmpty) }]
    frags := f
    vtx := if vtx then [(0, v 0 0), (1, v x1 0), (2, v 0 one)] else [] })

/-- A fragment of that triangle that waits. -/
def waits : List Covered :=
  [{ draw := 0, prim := 0, frag := { x := 1, y := 0, mask := 1, depth := 0, i := 0, j := 0 }, va := 0, vb := 1, vc := 2 }]

theorem witness_RasterEvents_vertex :
    ∃ ws d', (startVertex { c := 0, i := 1, u := 1 } ((drawing 0 0 0 false []).dev.ras.runs.headD (Run.fresh 1 0)) 1 0 0).run (found (drawing 0 0 0 false [])) =
      (.ok ws, d') ∧ ws ≠ [] ∧ d'.fits 0 0 ws 0 = true := ⟨_, _, rfl, by decide +kernel, by decide +kernel⟩
theorem witness_RasterEvents_fragment :
    ∃ x d' d2, (startFragment { c := 0, i := 1, u := 1 } ((drawing 0 0 3 true waits).dev.ras.runs.headD (Run.fresh 1 0)) 1 0
      ((found (drawing 0 0 3 true waits)).shading 1) [(0, 0)]).run (found (drawing 0 0 3 true waits)) = (.ok x, d')
      ∧ x.1 ≠ [] ∧ d'.fits 0 0 x.1 0 = true
      ∧ (goOn { c := 0, i := 1, u := 1 }).run ({ d' with ras := { d'.ras with
          waves := d'.ras.waves ++ bindIssue (d'.wavesOn 0 0) x.1, nextWave := d'.ras.nextWave + x.1.length } }.modRun 1 (fun _ => x.2)) = (.ok (), d2) :=
  ⟨_, _, _, rfl, by decide +kernel, by decide +kernel, rfl⟩
theorem test_vertex_wave : (after (.waveStart 1 0 (.vertex 0)) (drawing 0 0 0 false [])).ras.waves.map (fun x => (x.kind, x.live, x.vr 0 2, x.base)) =
    [(0, 7#32, 2#32, 0)] := by decide +kernel
theorem test_fragment_wave : (after (.waveStart 1 0 (.fragment [(0, 0)])) (drawing 0 0 3 true waits)).ras.waves.map
    (fun x => (x.amask, x.live, x.vr 0 3, x.vr 1 3, x.vr 2 1)) = [(15#32, 2#32, 1#32, 1#32, 1#32)] := by decide +kernel
/-- What assembly makes of the triangle: how many primitives are taken and how many fragments wait. -/
def assembled (s : State) : Option (List Nat × Nat) :=
  (((goOn { c := 0, i := 1, u := 1 }).run (s.dev.wr Reg.MEM_CFG_size 1)).2.run 1).map (fun r => (r.draws.map (·.taken), r.frags.length))
theorem test_assembly : assembled (drawing 0 0x3F800000 3 true []) = some ([1], 2) ∧ assembled (drawing 0 0x3F800000 3 false []) = some ([0], 0)
    ∧ assembled (drawing 2 0x3F800000 3 true []) = some ([1], 2) ∧ assembled (drawing 1 0x3F800000 3 true []) = some ([1], 0)
    ∧ assembled (drawing 5 0x3F800000 3 true []) = some ([1], 2) := by decide +kernel

/-! ### Beats, heads, compositors and ports -/

/-- A head that shows frames of 64 by 64 pixels, 96 lines of 96 pixels at 25 MHz, with horizon `f`. -/
def shown (h : Nat) (f : Head → Head) : State :=
  let d := ((((dev5.wr (Reg.HEAD_STATUS_running h) 1).setReg (Reg.HEAD_ACTIVE_HTIME h) 0x00600040#32).setReg (Reg.HEAD_ACTIVE_HTIME h + 8) 0x00600040#32)
    |>.setReg (Reg.HEAD_ACTIVE_HTIME h + 16) 25000#32).setReg (Reg.HEAD_ACTIVE_HTIME h + 28) 0x80000020#32
  st (d.modHead h f)

/-- The clock of the audio and the period of the beat. -/
def ticking (fallow : Bool) : State :=
  st { dev5 with beat := { dev5.beat with clockGood := true, started := fallow, stick := if fallow then 768000 else 0 } }

theorem witness_BeatRegisters : (ticking false).dev.rd Reg.GLB_BOOT_phase ≠ 0 ∧ (ticking false).dev.beat.clockGood = true
    ∧ (ticking false).dev.boot.refclk = true ∧ (ticking false).dev.mayWrite .manager Reg.BEAT_PERIOD = true ∧ (ticking false).dev.mode = .native
    ∧ (ticking false).dev.followsWeft = false ∧ (ticking true).dev.fallow = true := by decide +kernel
theorem test_beat_period : (after (.beatPeriodWrite .manager 11#32) (ticking false)).on Reg.BEAT_STATUS_bad_period = true
    ∧ (after (.beatPeriodWrite .manager 12#32) (ticking false)).beat.nextSamples = some 12
    ∧ (after (.beatPeriodWrite .manager 192#32) (ticking true)).beat.afterSamples = some 192
    ∧ (after .amclkLost (ticking false)).on Reg.BEAT_STATUS_holdover = true := by decide +kernel

/-- A device at an edge with CSQ0 ready for a pass, and CSQ1 under SKIP in a pass that overran. -/
def edging : Device :=
  let d := (dev5.modSeq 0 (fun x => { x with imageValid := true, entries := (0x80, 0x40), fresh := true })).modSeq 1
    (fun x => { x with imageValid := true, running := true, overrun := some 5 })
  { ((d.wr (Reg.CSQ_CTL_run 0) 1).wr (Reg.PWR_DOM_state 2) 2).wr (Reg.PWR_DOM_state 3) 2 with beat := { d.beat with started := true } }

theorem witness_BeatEdge : (st edging).dev.rd Reg.GLB_BOOT_phase ≠ 0 ∧ edging.linkEdge = none ∧ edging.exitsHoldover = false ∧
    edging.edgeFits 800000 = true ∧ edging.beat.samples * 50000 = 800000 * 3 ∧ edging.beat.started = true ∧ edging.mode = .native
    ∧ (dev5.beat.started = false ∧ dev5.edgeFits 0 = true) ∧ edging.rd Reg.PWR_STATE_state = 0 ∧ edging.flt.lostCompute = false
    ∧ edging.passReady 0 = true
    ∧ ((edging.seq 1).running = true ∧ (edging.seq 1).overrun.isSome = true ∧ edging.rdAct (Reg.BEAT_SQ_BUDGET_policy 1) = 0) := by decide +kernel
theorem test_first_edge : (let d := after (.beatEdge 0 0 [] []) (st dev5)
    d.beat.sbeat = 0 ∧ d.beat.started = true ∧ d.beat.grants = true) := by decide +kernel
theorem test_beat_edge : (let d := after (.beatEdge 800000 0 [] []) (st edging)
    d.beat.sbeat = 1 ∧ d.rd Reg.BEAT_FALLOW_start = 768000 ∧ (d.seq 0).running = true ∧ (d.seq 0).pc = 0x40 ∧ (d.seq 0).sbudget = 80000
      ∧ d.rd (Reg.BEAT_SQ_OVR_skipped 1) = 1) := by decide +kernel

/-- A commit of the timing group of head 7 that is due. -/
def aCommit (timing : List Word) : Commit :=
  { id := 1, sq := 3, serial := 1, rpj := false, groups := 1, due := 0, sets := [(0, timing)], flip := none }

/-- A layer set that is enabled and has no size, which is invalid. -/
def badLayer : List Word := [1#32, 0#32, 0#32, 0#32, 0#32, 0#32, 0#32, 0#32]

theorem witness_CommitChecks :
    (let s := shown 7 fun x => { x with checks := [{ aCommit [] with groups := 2, sets := [(1, badLayer)] }] }
     (checked s 7 { aCommit [] with groups := 2, sets := [(1, badLayer)] } []).2.2.1 ≠ 0)
    ∧ (let s := shown 7 fun x => { x with checks := [aCommit []] }
       (s.dev.head 7).checks = [aCommit []] ∧ (checked s 7 (aCommit []) []).2.2.1 = 0 ∧ ((aCommit []).sets.map (·.1)).Nodup) := by decide +kernel

theorem witness_HeadFrames : (Shows (shown 7 id) 7 ∧ ((shown 7 id).dev.head 7).cut = false ∧ (shown 7 id).dev.vrrHolds 7 = false)
    ∧ (let s := st ((shown 7 id).dev.setReg (Reg.HEAD_ACTIVE_HTIME 7 + 24) 0x80000061#32)
       Shows s 7 ∧ (s.dev.head 7).cut = false ∧ s.dev.vrrHolds 7 = true)
    ∧ ((shown 7 fun x => { x with cut := true }).dev.head 7).cut = true
    ∧ (let s := st (dev5.modHead 7 (fun x => { x with starting := true }))
       (s.dev.head 7).starting = true ∧ s.dev.on (Reg.HEAD_STATUS_running 7) = false ∧ (1600 : Nat) ≤ 1600)
    ∧ (st (dev5.wr (Reg.HEAD_STATUS_restarting 7) 1)).dev.on (Reg.HEAD_STATUS_restarting 7) = true := by unfold Shows; decide +kernel
theorem test_cutoff : ((after (.headCutoff 7) (shown 7 id)).head 7).cut = true ∧ (after (.headCutoff 7) (shown 7 id)).beat.clock = lineTicks (timingOf ((shown 7 id).dev.activeTiming 7)) 156 := by
  decide +kernel

/-- The timing set that `shown` gives a head, with latch line `l`, enabled. -/
def timingAt (l : Word) : List Word := [0x00600040#32, 0#32, 0x00600040#32, 0#32, 25000#32, l, 0#32, 0x80000020#32]

/-- Stopped head 7 that starts with a timing set. -/
def opening (ws : List Word) : State :=
  st (dev5.modHead 7 (fun x => { x with starting := true, coming := [{ group := 0, words := ws, commit := 1, res := false, rpj := false }] }))

theorem witness_HeadFrames_start : (opening []).dev.startCode 7 = 2 ∧ (opening (timingAt 64)).dev.startCode 7 = 1
    ∧ (opening [0x00600040#32, 0x00080008#32, 0x00600040#32, 0x00010001#32, 25000#32, 64#32, 0#32, 0x80000020#32]).dev.startCode 7 = 0 := by
  decide +kernel
theorem test_start : (after (.headStart 7 0) (opening (timingAt 64))).on (Reg.HEAD_STATUS_timing_bad 7) = true
    ∧ (after (.headStart 7 0) (opening [0x00600040#32, 0x00080008#32, 0x00600040#32, 0x00010001#32, 25000#32, 64#32, 0#32, 0x80000020#32])).on
        (Reg.HEAD_STATUS_restarting 7) = false := by decide +kernel
/-- Head 7 at the latch line 64 of its frame, whose coming timing moves the latch line to 70. -/
def latchMoves : State :=
  shown 7 fun x => { x with cut := true, pos := 64, coming := [{ group := 0, commit := 1, res := false, rpj := false, words :=
    [0x00600040#32, 0x00080008#32, 0x00600040#32, 0x00010001#32, 25000#32, 70#32, 0#32, 0x80000020#32] }] }
theorem test_latch_moves : (after (.headLatchLine 7) latchMoves).frameLines 7 0 = 96 - 64 + 70 := by decide +kernel

/-- Head 7 that shows frames and re-projects, `lead` lines before its cut-off, with a pass of one cluster over one pixel under way or none. -/
def reprojecting (lead : Nat) (p : Option RpjPass) : State :=
  let s := shown 7 fun x => { x with rpj := p }
  st ((wrAct s.dev (Reg.BEAT_HEAD_LATEPOL_policy 7) 2).wr (Reg.RAS_RPJ_CFG_lead 3 1) lead)
/-- That pass. -/
def aPass1 : RpjPass := { mask := 1, start := some 0, words := [0#32, 0#32, 0x00010001#32], owner := 0 }

theorem witness_RasterEvents_lead : ((reprojecting 91 none).dev.hasLead 7 = true ∧ ((reprojecting 91 none).dev.head 7).rpj = none
      ∧ (reprojecting 91 none).dev.leadValid 7 = true) ∧ (reprojecting 92 none).dev.leadValid 7 = false := by decide +kernel
theorem witness_RasterEvents_pass : let s := reprojecting 91 (some aPass1)
    (s.dev.head 7).rpj = some aPass1 ∧ 0 < clusterCount (s.dev.rpjOn 3 aPass1) ∧ (layerOf aPass1.words).w * (layerOf aPass1.words).h = 1
      ∧ 2000 + ceilDiv 1 (clusterCount (s.dev.rpjOn 3 aPass1)) ≤ 2001 ∧ 0 + 2001 < s.dev.cutoffAt 7 := by decide +kernel

/-- A head that has composed its frame, with an enabled rectangle set of one pixel whose expected value is `w`. -/
def rects (w : Word) : State :=
  st (((((shown 7 fun x => { x with line := 64, wb := true }).dev.setReg (Reg.HEAD_RC_ACTIVE_POS 7 15 + 4) 0x00010001#32).setReg
    (Reg.HEAD_RC_ACTIVE_POS 7 15 + 8) w).setReg (Reg.HEAD_RC_ACTIVE_POS 7 15 + 12) 0x80000001#32))

theorem witness_CompositorEvents : (shown 7 fun x => { x with line := 63 }).dev.nextLine 7 = some 63 ∧ 63 < ((shown 7 id).dev.activeSize 7).1
    ∧ ((rects 0).dev.head 7).wb = true ∧ ((rects 0).dev.activeSize 7).2 ≤ ((rects 0).dev.head 7).line
    ∧ takeRec 1 ((st dev5).dev.cmp 3).recs = none := by decide +kernel
theorem witness_CompositorEvents_rects : (rects 0).dev.beat.clock < (rects 0).dev.vactiveAt 7 ∧ (rects 0).dev.rectReady 7 15 = true ∧ (rects 0).dev.legacyHead 7 = false
    ∧ crcEnd 32 true 0xFFFFFFFF (tget (fun _ => 0xFFFFFFFF) ((rects 0).dev.head 7).crcs 15) = ((rects 0).dev.rect 7 15).exp
    ∧ (rects 1).dev.rectReady 7 15 = true
    ∧ crcEnd 32 true 0xFFFFFFFF (tget (fun _ => 0xFFFFFFFF) ((rects 1).dev.head 7).crcs 15) ≠ ((rects 1).dev.rect 7 15).exp := by decide +kernel
theorem test_rect_mismatch : (after (.rectCheckResult 7 15) (rects 1)).rd (Reg.HEAD_RC_STAT_count 7 15) = 1
    ∧ (after (.rectCheckResult 7 15) (rects 0)).on (Reg.HEAD_RC_STAT_mismatch 7 15) = false := by decide +kernel

/-- Channel 3 with a record due for INST_1, whose retire ring is enabled. -/
def retiring : State :=
  let d := (dev5.wr (Reg.CMP_RET_CFG_enable 3 1) 1).wr (Reg.CMP_RET_CFG_log2_size 3 1) 6
  st ((mapped d []).modCmp 3 (fun m => { m with recs := [{ head := 7, layer := 0, frame := 1, addr := 0, owner := 1, own := true }] }))

theorem witness_CompositorEvents_retire :
    takeRec 1 (retiring.dev.cmp 3).recs = some ({ head := 7, layer := 0, frame := 1, addr := 0, owner := 1, own := true }, [])
    ∧ ((found retiring).writeRet 3 { head := 7, layer := 0, frame := 1, addr := 0, owner := 1, own := true }).1 = true := by decide +kernel

/-- Head 7 with a FLIP of INST_1 at the head of its queue 0, whose groups are G's neighbour L15 and the timing. -/
def flipping : State :=
  let x := { anItem 1 3 [(0x20, 7#8), (0x25, 1#8)] with stage := 0, started := false }
  st ({ mapped dev5 [] with q := { dev5.q with items := [x] } }.setAct (Reg.CMP_OWN 7 1) 0x81818181#32)

theorem witness_Takes : ((shown 7 fun x => { x with taken := some 1 }).dev.head 7).taken.isSome = true
    ∧ ((shown 7 id).dev.head 7).taken = none ∧ (shown 7 id).dev.queueHead 1 0 = none
    ∧ (flipping.dev.queueHead 1 0).map (fun x => (x.cls, x.pay 0x20 4, groupsOf (x.pay 0x24 4), flipping.dev.mayStart x)) = some (3, 7, [8], true)
    ∧ flipping.dev.instState 1 ≠ 4 ∧ flipping.dev.layerOwner 7 7 = some 1 := by decide +kernel
theorem witness_Takes_read : ∃ bs d', (found flipping).read (.inst 1) 3 0 32 = (.ok bs, d') := ran _ (by decide +kernel)
theorem test_take : (after (.take 7 1 0) flipping).rd (Reg.CMP_TAKE_STAT_result 7) = 0 ∧ (after (.take 7 1 0) flipping).rd (Reg.CMP_TAKE_STAT_mask 7) = 256
    ∧ (after (.take 7 1 0) (shown 7 id)).rd (Reg.CMP_TAKE_STAT_result 7) = 1 := by decide +kernel

/-- Port 7, enabled for embedded DisplayPort or not, with its domain up or not, and a head to carry. -/
def ported (up on : Nat) (heads : Nat) : State :=
  st ((((((shown 7 id).dev.wr (Reg.PWR_DOM_state 6) up).wr (Reg.DP_CTL_enable 7) on).wr (Reg.DP_CTL_lanes 7) heads).wr (Reg.DP_CTL_rate 7) 0).wr (Reg.DP_STATUS_trained 7) 1)

theorem witness_PortCommands : (ported 0 0 0).dev.rd (Reg.PWR_DOM_state 6) ≠ 2
    ∧ ((ported 2 0 0).dev.rd (Reg.PWR_DOM_state 6) = 2 ∧ (ported 2 0 0).dev.on (Reg.DP_CTL_enable 7) = false)
    ∧ (ported 2 1 0).dev.on (Reg.DP_CTL_enable 7) = true
    ∧ (linkRate ((ported 2 1 0).dev.on (Reg.DP_CTL_edp 7)) ((ported 2 1 0).dev.rd (Reg.DP_CTL_rate 7))).isSome = true
    ∧ (ported 2 1 0).dev.on (Reg.DP_STATUS_trained 7) = true := by decide +kernel
/-- Port 7 with four lanes at a rate, carrying head 7, whose pixels come at `khz`. -/
def carrying (khz : Word) : State :=
  st (((ported 2 1 2).dev.setReg (Reg.DP_STREAM 7) 0x87#32).setReg (Reg.HEAD_ACTIVE_HTIME 7 + 16) khz)

/-- Whether the stream of that port fits its link. -/
def streamFits (s : State) : Bool :=
  fitsLink (s.dev.needs (s.dev.namedStreams 7)) 1620000 (laneCount (s.dev.rd (Reg.DP_CTL_lanes 7))) false false

theorem witness_CompositorEvents_senders : let s := st { (carrying 25000).dev with disp := { (carrying 25000).dev.disp with
      heads := [(7, { Head.reset with line := 63 })], ports := [(7, { (carrying 25000).dev.port 7 with streams := [some 7] })] } }
    s.dev.senders 7 = [7] ∧ s.dev.nextLine 7 = some 63 := by decide +kernel
theorem witness_PortCommands_fits : streamFits (carrying 25000) = true ∧ streamFits (carrying 2200000) = false
    ∧ linkRate ((carrying 25000).dev.on (Reg.DP_CTL_edp 7)) ((carrying 25000).dev.rd (Reg.DP_CTL_rate 7)) = some 1620000
    ∧ ((carrying 25000).dev.on (Reg.DP_CTL_mst 7) && !(carrying 25000).dev.on (Reg.DP_CTL_edp 7)) = false := by decide +kernel

/-! ### The register interface -/

/-- The device in its RUN phase. -/
def up : State := st dev5

theorem witness_HostWrites : Reaches up Reg.GLB_LPW_BASE ∧ Reaches up 0x3FFFFFC ∧ Reaches up Reg.SEED_STATUS ∧ Reaches up (Reg.WLD_ENC_CFG 0)
    ∧ 14 % 16 ≠ 15 ∧ postedOf Reg.GLB_LPW_BASE = none
    ∧ (postedOf 0x3FFFFFC = none ∧ regExists (aliasBase 0x3FFFFFC) = false)
    ∧ (postedOf (Reg.WLD_ENC_CFG 0) = none ∧ regExists (aliasBase (Reg.WLD_ENC_CFG 0)) = true ∧ aliasPage (Reg.WLD_ENC_CFG 0) = 0
      ∧ up.dev.mayWrite .manager (Reg.WLD_ENC_CFG 0) = false ∧ Reg.WLD_ENC_CFG 0 ≠ Reg.CSQ_MAIL 0)
    ∧ (postedOf Reg.SEED_STATUS = some 4 ∧ up.dev.busy 4 = false)
    ∧ (let s := st { dev5 with posted := [(4, some { agent := .manager, addr := Reg.SEED_STATUS, value := 0 })] }
       s.dev.busy 4 = true ∧ s.dev.postedAt 4 = some { agent := .manager, addr := Reg.SEED_STATUS, value := 0 })
    ∧ ((findRow Reg.GLB_LPW_BASE).isSome = true ∧ isWindow Reg.GLB_LPW_BASE = false ∧ up.dev.mayWrite .manager Reg.GLB_LPW_BASE = true
      ∧ inImem Reg.GLB_LPW_BASE = false ∧ (findRow Reg.GLB_LPW_BASE).map (fun r => r.rw ||| r.rws ||| r.rwb) = some 0x3F
      ∧ ∀ j, j < 4 → up.dev.reaches (Reg.GLB_LPW_BASE + j * 0x40000) = true) := by unfold Reaches; decide +kernel
theorem witness_HostWrites_secure : Reaches up Reg.WLD_DBG ∧ postedOf Reg.WLD_DBG = none ∧ up.dev.mayWrite .manager Reg.WLD_DBG = false
    ∧ agentSecure .manager = false ∧ up.dev.flt.lostCompute = false ∧ regExists (aliasBase Reg.WLD_DBG) = true := by
  unfold Reaches; decide +kernel
theorem test_secure_write : let d := after (.registerWrite .manager Reg.WLD_DBG 15 [1#32]) up
    d.rd Reg.SEED_LASTRES_1_rwp_n = resDenied ∧ d.reg Reg.WLD_DBG = up.dev.reg Reg.WLD_DBG := by decide +kernel
theorem witness_HostWrites_lost : let s := st { dev5 with flt := { dev5.flt with lostMixed := true } }
    Reaches s Reg.SEED_STATUS ∧ postedOf Reg.SEED_STATUS = some 4 ∧ s.dev.flt.lostMixed = true ∧ up.dev.flt.lostMixed = false := by
  unfold Reaches; decide +kernel
theorem witness_HostWrites_guest : (∀ i ∈ [1, 31], 1 ≤ i ∧ i ≤ 31)
    ∧ (up.dev.phase = 5 ∧ up.dev.hostUp = true ∧ up.dev.rd Reg.PWR_STATE_state = 0 ∧ up.dev.pwr.target = none)
    ∧ (∀ a ∈ [0, 0xFFC], a % 4 = 0 ∧ a < 0x1000) ∧ (∀ a ∈ [0x2000, 0x23FC], a % 4 = 0 ∧ 0x2000 ≤ a ∧ a < 0x2400)
    ∧ ∀ a ∈ [0x1000, 0x1FFC, 0x2400, 0xFFFC], a % 4 = 0 ∧ 0x1000 ≤ a ∧ (a < 0x2000 ∨ 0x2400 ≤ a) := by decide +kernel
theorem test_guest_writes : (after (.registerWrite (.guest 31) 0x23FC 15 [7#32]) up).reg (msixReg 31 0x3FC) = 7#32
    ∧ after (.registerWrite (.guest 31) 0x1000 15 [7#32]) up = up.dev := by decide +kernel
theorem test_host_writes : (after (.registerWrite .manager Reg.GLB_LPW_BASE 15 [0xFFFFFFFF#32]) up).reg Reg.GLB_LPW_BASE = 0x3F#32
    ∧ (after (.registerWrite .manager Reg.GLB_LPW_BASE 14 [1#32]) up).on Reg.GLB_STATUS_width = true
    ∧ (after (.registerWrite .manager 0x3FFFFFC 15 [1#32]) up).on Reg.GLB_STATUS_hole = true
    ∧ (after (.toggleAlias .manager Reg.GLB_LPW_BASE 5#32) (st (dev5.setReg Reg.GLB_LPW_BASE 4#32))).reg Reg.GLB_LPW_BASE = 1#32
    ∧ (after (.clearAlias .manager Reg.GLB_LPW_BASE 4#32) (st (dev5.setReg Reg.GLB_LPW_BASE 5#32))).reg Reg.GLB_LPW_BASE = 1#32 := by decide +kernel

/-- A device whose power block `f` changes, in state `x` with every wake source enabled. -/
def powered (x : Nat) (f : Power → Power) : State :=
  let d := (dev5.wr Reg.PWR_STATE_state x).setReg Reg.PWR_WAKE_EN 0xFFFFFFFF
  st { d with pwr := f d.pwr }

theorem witness_GuardedAndWindowed : Reaches up Reg.GLB_RST ∧ up.dev.guards.find? (fun g => g.addr == Reg.GLB_RST) = none
    ∧ (0#32 : Word) ≠ ~~~(1#32) ∧ ({ up.dev with guards := [⟨.manager, Reg.GLB_RST, 1#32⟩] } : Device).guards ≠ []
    ∧ up.dev.lpwUp = true ∧ up.dev.asleep = false ∧ (powered 1 id).dev.asleep = true ∧ (powered 1 id).dev.lpwUp = true
    ∧ (powered 1 id).dev.inWindow (2 ^ 30 - 1) = false ∧ 2 ^ 30 - 1 < 2 ^ 30 ∧ up.dev.on (Reg.WFT_WIN_CFG_enable 15) = false
    ∧ up.dev.capacity ≤ up.dev.rd Reg.GLB_LPW_BASE_base * 2 ^ 30 + 0
    ∧ (let s := st (dev5.wr Reg.MEM_CFG_size 1); s.dev.rd Reg.GLB_LPW_BASE_base * 2 ^ 30 + (2 ^ 30 - 4) < s.dev.capacity) := by
  unfold Reaches; decide +kernel
theorem witness_GuardedAndWindowed_access :
    (∃ bs d', (found (st (dev5.wr Reg.MEM_CFG_size 1))).read .phys 8 (2 ^ 30 - 4) 4 = (.ok bs, d'))
    ∧ ∃ u d', (found (st (dev5.wr Reg.MEM_CFG_size 1))).write .phys 8 (2 ^ 30 - 4) [1#8] = (.ok u, d') :=
  ⟨ran _ (by decide +kernel), ran _ (by decide +kernel)⟩
theorem test_window : (after (.lpwAccess 0 2 none) up).out = [.bytes [0xFF#8, 0xFF#8]] ∧ (after (.lpwAccess 0 2 none) up).on Reg.GLB_STATUS_lpw_range = true
    ∧ (after (.lpwAccess 4 1 (some [7#8])) (st (dev5.wr Reg.MEM_CFG_size 1))).mems.lp5x = [(4, 7#8)] := by decide +kernel

/-! ### Touch, haptics and audio -/

/-- Front end 3 enabled with its domain up, in phase `p`. -/
def front (p : Nat) (f : Front → Front) : State :=
  st (((dev5.wr (Reg.TCH_CFG_enable 3) 1).wr (Reg.PWR_DOM_state 9) 2).modFront 3 (fun x => f { x with phase := p }))

/-- A contact that has begun. -/
def aContact : Contact :=
  { id := 9, drv := 0, sns := 0, region := [], peak := 5, px := 0, py := 0, start := 0, anchor := (0, 0), stuck := false, due := [] }

theorem witness_TouchPanelsAndPins_touch :
    ((front 0 id).dev.on (Reg.TCH_CFG_enable 3) = true ∧ (front 0 id).dev.gangedUpper 3 = false ∧ (front 0 id).dev.rd (Reg.PWR_DOM_state 9) = 2
      ∧ ((front 0 id).dev.front 3).phase = 0)
    ∧ (((front 1 id).dev.front 3).phase = 1 ∧ (front 1 id).dev.touchImage 3 = none ∧ ([(0, 5), (1, 6)].map (·.1)).Nodup)
    ∧ (let s := front 2 fun x => { x with contacts := [aContact], cfg := (List.range 9).map (fun _ => 0xFF#32), lastStore := some 0 }
       (s.dev.front 3).contacts.find? (fun c => c.id == 9 && !c.stuck && c.due.isEmpty) = some aContact
        ∧ (s.dev.front 3).phase = 2 ∧ bits ((s.dev.front 3).w 8) 7 0 ≠ 0 ∧ (s.dev.front 3).lastStore = some 0
        ∧ (s.dev.front 3).endsAt (s.dev.frameEnd { chips := [], noise := [], lag := 24000 } 16024000) 24000 = true
        ∧ s.dev.beat.clock < 0 + 48000000000 ∧ 0 + 48000000000 ≤ (st { s.dev with beat := { s.dev.beat with clock := 48000000000 } }).dev.beat.clock) := by
  decide +kernel
theorem test_touch : ((after (.tchEnable 3) (front 0 id)).front 3).phase = 1
    ∧ (after (.touchReady 3 { base := [(0, 5)], comp := [(1, 6)] }) (front 1 id)).on (Reg.TCH_STATUS_comp_sat 3) = true
    ∧ calSat { base := [(0, 5)], comp := [(1, 6)] } ((front 1 id).dev.front 3 |>.cols 3) = true := by
  decide +kernel
theorem witness_TouchPanelsAndPins_chips : ∀ c, c < 4 →
    chipCount { chips := [(4613, 10), (4741, -2), (4869, 0), (4997, 4)], noise := [], lag := 0 } 9 c 5
      = walsh 0 c * 3 + walsh 1 c * 2 + walsh 2 c * 1 + walsh 3 c * 4 := by decide +kernel

/-- Relaxation channel 7 enabled with a baseline of 100 and a threshold of 10. -/
def button (active : Nat) : State :=
  st ((((dev5.wr (Reg.RO_CFG_enable 7) 1).wr (Reg.RO_CFG_thresh 7) 10).wr (Reg.RO_STAT_active 7) active).modRelax 7 (fun x => { x with base := some 100 }))

/-- Trigger pin 7 enabled on both edges, with a refractory time, whose effect started at clock 0 and whose level stands since. -/
def trigger : State :=
  st ((((dev5.wr (Reg.HAP_TRIG_CFG_enable 7) 1).wr (Reg.HAP_TRIG_CFG_edge 7) 2).wr (Reg.HAP_TRIG_TIME_refractory 7) 1).modTrig 7
    (fun x => { x with lastStart := some 0, since := some 0 }))

theorem witness_TouchPanelsAndPins_pins :
    ((button 0).dev.rd Reg.PWR_STATE_state = 0 ∧ (button 0).dev.pwr.target = none ∧ (button 0).dev.on (Reg.RO_CFG_enable 7) = true
      ∧ ((button 0).dev.on (Reg.RO_CFG_enable 6) && (button 0).dev.rd (Reg.RO_CFG_mode 6) == 2) = false)
    ∧ ((button 1).dev.on (Reg.RO_STAT_active 7) = true ∧ ((button 1).dev.relaxCh 7).heldDone = false)
    ∧ up.dev.on (Reg.HAP_TRIG_CFG_enable 7) = false
    ∧ (trigger.dev.on (Reg.HAP_TRIG_CFG_enable 7) = true ∧ edgeSelected (trigger.dev.rd (Reg.HAP_TRIG_CFG_edge 7)) false = true
      ∧ (trigger.dev.trig 7).lastStart = some 0
      ∧ trigger.dev.beat.clock + (799999 - trigger.dev.beat.stick) < 0 + trigger.dev.rd (Reg.HAP_TRIG_TIME_refractory 7) * 800000
      ∧ (trigger.dev.trig 7).since = some 0) := by decide +kernel
theorem test_pins : (after (.roGateEnd 7 90 5) (button 0)).on (Reg.RO_STAT_active 7) = true
    ∧ (after (.roGateEnd 7 91 5) (button 0)).on (Reg.RO_STAT_active 7) = false
    ∧ (after (.roGateEnd 7 95 5) (button 1)).on (Reg.RO_STAT_active 7) = true
    ∧ (after (.trigEdge 7 false 799999) trigger).rd (Reg.HAP_TRIG_STAT_suppressed 7) = 1 := by decide +kernel

/-- An effect that has played. -/
def anEffect : HapFx := { src := .pin 0, scale := 0, bytes := [], pos := 0, phase := 0, brake := 0, index := 0 }

/-- Haptic bridge 7 enabled with its domain up. -/
def bridge (f : Hap → Hap) : State :=
  st (((dev5.wr (Reg.HAP_CFG_enable 7) 1).wr (Reg.PWR_DOM_state 10) 2).modHap 7 f)

theorem witness_HapticCommands :
    (let s := bridge fun x => { x with fx := some anEffect }
     (s.dev.hap 7).fx = some anEffect ∧ anEffect.length ≤ anEffect.pos ∧ (s.dev.hap 7).queued = none)
    ∧ (let s := bridge fun x => { x with fx := some anEffect, queued := some anEffect }
       (s.dev.hap 7).queued = some anEffect ∧ (s.dev.hap 7).rest = none ∧ (s.dev.hap 7).splice = none)
    ∧ (let s := bridge fun x => { x with splice := some (anEffect, 0) }
       (s.dev.hap 7).splice = some (anEffect, 0) ∧ s.dev.halfPeriod 7 ≤ s.dev.halfPeriod 7)
    ∧ (let s := bridge fun x => { x with cont := 4800000 }
       s.dev.driveLimit 7 ≤ (s.dev.hap 7).cont)
    ∧ (let s := bridge fun x => { x with clips := 96, fx := some anEffect, rest := some 0 }
       96 ≤ (s.dev.hap 7).clips ∧ (s.dev.hap 7).fx.isSome = true ∧ (s.dev.hap 7).queued = none ∧ (s.dev.hap 7).rest = some 0)
    ∧ ((bridge id).dev.rd (Reg.PWR_DOM_state 10) = 2 ∧ (bridge id).dev.on (Reg.HAP_STATUS_vhap_low 7) = false
      ∧ (bridge id).dev.on (Reg.HAP_CAL_active 7) = false ∧ ((bridge id).dev.hap 7).fx = none ∧ ((bridge id).dev.hap 7).sound = []
      ∧ ((bridge id).dev.hap 7).cont < (bridge id).dev.driveLimit 7 ∧ ((bridge id).dev.hap 7).clips < 96)
    ∧ (bridge id).dev.hapIdle 7 = true ∧ (bridge fun x => { x with fx := some anEffect }).dev.hapIdle 7 = false
    ∧ (st (dev5.wr (Reg.HAP_CAL_active 7) 1)).dev.on (Reg.HAP_CAL_active 7) = true
    ∧ (st { dev5 with glass := { dev5.glass with calDue := true } }).dev.glass.calDue = true ∧ (up.dev.seedValue 0xFC3).testBit 7 = false := by
  decide +kernel
theorem test_haptics : (after (.hapCalDone 7 499 0 1000) (st (dev5.wr (Reg.HAP_CAL_active 7) 1))).on (Reg.HAP_STATUS_cal_fail 7) = true
    ∧ (after (.hapCalDone 7 500 9 64000) (st (dev5.wr (Reg.HAP_CAL_active 7) 1))).rd (Reg.HAP_RES_f0 7) = 500
    ∧ (after (.cutTime 7) (bridge fun x => { x with cont := 4800000, fx := some anEffect })).rd (Reg.HAP_STATUS_last 7) = 2 := by decide +kernel

/-! ### Audio and the memory system -/

/-- The audio domain up, a swap asked for at beat `target`, in fallow or not. -/
def swapping (target : Nat) (fallow waiting : Bool) : State :=
  let d := (dev5.wr Reg.AUD_SWAP_BEAT_beat target).wr Reg.BEAT_FALLOW_start 700000
  st { d with
    beat := { d.beat with started := true, stick := if fallow then 700000 else 699999 }
    aud := { d.aud with swap := if waiting then some ⟨9, 48, none⟩ else none } }

/-- Generator 7 past the end of a release of no length, and port 5 locked to the clock of the board. -/
def ported5 : Device := ((((dev5.wr (Reg.AUD_TDM_CFG_enable 5) 1).wr (Reg.AUD_TDM_CFG_role 5) 1).wr (Reg.AUD_TDM_CFG_sync 5) 1).wr (Reg.AUD_TDM_STAT_locked 5) 1).wr (Reg.PWR_DOM_state 8) 2
def played : Gen := { words := List.replicate 8 0#32, n := 4, rel := some 4 }

theorem witness_AudioCommands :
    (swapping 0 false false).dev.maySwap .manager = true
    ∧ (st { dev5 with mode := .legacy }).dev.maySwap .manager = false
    ∧ (swapping 0 false false).dev.rd Reg.AUD_SWAP_BEAT_beat = 0
    ∧ (swapping 0 true false).dev.fallow = true ∧ (swapping 0 false true).dev.fallow = false ∧ (swapping 0 false true).dev.aud.swap.isSome = true
    ∧ (swapping 0 false false).dev.fallow = false ∧ (swapping 0 false false).dev.aud.swap = none ∧ (swapping 0 false false).dev.aud.copying = none
    ∧ (st { dev5 with aud := { dev5.aud with ramp := some (48, 48) } }).dev.aud.ramp = some (48, 48)
    ∧ (st { dev5 with aud := { dev5.aud with copying := some 1 } }).dev.aud.copying = some 1 ∧ twf regReset dev5.csr = true
    ∧ 1 = (st (dev5.wr Reg.AUD_STATUS_active 1)).dev.bank ∧ ¬ (1 = up.dev.bank ∨ up.dev.aud.swap.isSome = true)
    ∧ (st ((dev5.wr (Reg.AUD_GUARD_enable 31) 1).wr (Reg.AUD_GUARD_sink 31) 127)).dev.guarded (4095 / 32) = true
    ∧ up.dev.guarded (4095 / 32) = false
    ∧ (st (dev5.setGen 7 (some played))).dev.gen 7 = some played ∧ played.done = true
    ∧ (ported5.on (Reg.AUD_TDM_CFG_enable 5) = true ∧ ported5.on (Reg.AUD_TDM_CFG_role 5) = true ∧ ported5.rd (Reg.PWR_DOM_state 8) = 2
      ∧ ported5.on (Reg.AUD_TDM_STAT_locked 5) = true ∧ tdmConverts (ported5.reg (Reg.AUD_TDM_CFG 5)) = false) := by decide +kernel
theorem test_swaps : (after (.audSwapReq .manager 4096) (swapping 0 false false)).rd Reg.AUD_SWAP_TGT_beat = 1
    ∧ (after (.audSwapReq .manager 4097) (swapping 0 false false)).rd Reg.AUD_SWAP_RES_result = resInvalid
    ∧ (after (.audSwapReq .manager 0) (swapping 0 true true)).rd Reg.AUD_SWAP_RES_result = resLate
    ∧ (after (.audSwapReq .manager 0) (swapping 0 false true)).rd Reg.AUD_SWAP_RES_result = resBusy := by decide +kernel
theorem test_audio : (after (.audBankWrite .manager (Reg.AUD_SINKBLK 1 4095) 7) up).reg (Reg.AUD_SINKBLK 1 4095) = 7#32
    ∧ (after (.audBankWrite .manager (Reg.AUD_NODE 0 16383) 7) up).on Reg.AUD_STATUS_bank_locked = true
    ∧ (after (.genFinish 7) (st (dev5.setGen 7 (some played)))).gen 7 = none
    ∧ (after (.tdmSlip 5) (st ported5)).rd (Reg.AUD_TDM_STAT_slips 5) = 1 := by decide +kernel

/-- A read of the last line of a gibibyte, the part of a request. -/
def lastLine : BankPart := ⟨2 ^ 30 - 1, 4, none⟩

/-- A bank whose arbiter has one request of input 11, for `parts`, that waited 256 cycles, and a read whose line has come back. -/
def arbited (parts : List BankPart) : State :=
  st { dev5 with mem := { dev5.mem with arbs := [(15, { Arb.reset with
    reqs := [⟨11, true, 256, false, parts, false⟩], hold := 4, misses := [⟨7, [9#8], true⟩, ⟨2 ^ 20, [8#8], false⟩] })] } }

/-- A controller with one request of input 3 in its queue, `due` refreshes, and a row open. -/
def queued (due : List (Nat × Nat)) (ns : List Neighbour) : State :=
  st { dev5 with mem := { dev5.mem with ctls := [(15, { Ctl.reset with queue := [⟨3, false, 0, 7, 9, 0, true, 96⟩], due := due, neighbours := ns, rows := [⟨7, 9, 5⟩] })] } }

/-- No draw schedules a neighbour refresh. -/
def unhammered (s : State) : State := st (s.dev.wr Reg.MEM_PNR_prob 0)

theorem witness_MemorySystem_cache : (11 : Nat) < 12 ∧ 2 ^ 30 - 1 < (st (dev5.wr Reg.MEM_CFG_size 1)).dev.capacity
    ∧ ((found (st (dev5.wr Reg.MEM_CFG_size 1))).readAt 11 (.lp5x (2 ^ 30 - 1)) (min 4 (128 - (2 ^ 30 - 1) % 128))).1.isOk = true
    ∧ ((st (dev5.wr Reg.MEM_CFG_size 1)).dev.arb (bankOf (2 ^ 30 - 1))).reqs = []
    ∧ (((arbited [lastLine]).dev.arb 15).reqs ≠ [] ∧ bankOf 7 = bankOf 7 ∧ ∀ input, input < 12 → (arbited [lastLine]).dev.fabricTakes input 0 = true)
    ∧ (((arbited [lastLine]).dev.arb 15).join 0 []).choose = some (0, ⟨11, true, 260, false, [lastLine], false⟩)
    ∧ (((st dev5).dev.arb 15).join 0 []).choose = none
    ∧ ((arbited []).dev.arb 15).misses.find? (·.back) = some ⟨7, [9#8], true⟩
    ∧ (∀ m ∈ ((st dev5).dev.arb 15).misses, m.back = false) := by decide +kernel
theorem witness_MemorySystem_write :
    let s := st (dev5.wr Reg.MEM_CFG_size 1)
    let d1 := ((found s).writeAt 11 (.lp5x 0) [1#8]).2
    d1.rd (Reg.SC_BANK_MISS_count (bankOf 0)) ≠ s.dev.rd (Reg.SC_BANK_MISS_count (bankOf 0)) := by
  decide +kernel
/-- A C16 with 1 GiB of LP5X and link ECC in effect. -/
def eccUp : State := st (let d := dev5.wr Reg.MEM_CFG_size 1
  { d with mem := { d.mem with linkEcc := true } })
theorem witness_MemorySystem_link :
    let d1 := ((found eccUp).readAt 11 (.lp5x 0) 4).2
    ((found eccUp).readAt 11 (.lp5x 0) 4).1.isOk = true ∧ d1.mem.linkEcc = true
      ∧ d1.rd (Reg.SC_BANK_MISS_count (bankOf 0)) ≠ eccUp.dev.rd (Reg.SC_BANK_MISS_count (bankOf 0)) := by decide +kernel
theorem test_link_ecc : (after (.scAccess 11 0 4 none .other .clean .bad) eccUp).out = []
    ∧ ((after (.scAccess 11 0 4 none .other .clean .bad) eccUp).flt.raised.map (fun r => (r.cls, r.cause, r.unit))) = [(3, 2, bankOf 0)]
    ∧ (after (.scAccess 11 0 4 none .other .poison .clean) eccUp).mems.poison = [0]
    ∧ (after (.scAccess 11 0 4 none .other .tag .clean) eccUp).mem.bypass = [bankOf 0] := by decide +kernel
theorem witness_MemorySystem_victim :
    let d := ({ dev5 with mem := { dev5.mem with sets := [(0, (List.range 16).map (fun w => ⟨w, w + 1, 15, if w = 0 then 5 else 0⟩))] } } : Device)
    d.mem.bypass.contains (bankOf 0) = false ∧ (∀ y ∈ d.scSet (setOf 0), y.tag ≠ tagOf 0)
      ∧ victim (d.scWays 11 true) (d.scSet (setOf 0)) = some 15
      ∧ victim [0] (d.scSet (setOf 0)) = some 0 ∧ (d.scSet (setOf 0)).find? (fun y => y.way == 0) = some ⟨0, 1, 15, 5⟩ := by decide +kernel
theorem test_memory_line : lineAddr (bankOf 0x3FFFFFFF) (setOf 0x3FFFFFFF) (tagOf 0x3FFFFFFF) = 0x3FFFFF80
    ∧ sectorBytes (sectorMask 0x1F 2) = 64 := by decide +kernel
theorem witness_MemorySystem_controllers :
    (queued [(3, 0)] []).dev.memUp = true
    ∧ ((queued [(3, 0)] []).dev.ctl 15).window = (queued [(3, 0)] []).dev.beat.clock / 1024
    ∧ ((queued [(3, 0)] []).dev.ctl 15).due = [(3, 0)]
    ∧ ((queued [] []).dev.ctl 15).due = [] ∧ ((queued [] []).dev.ctl 15).neighbours = []
    ∧ (queued [] []).dev.ctlChoose 15 = some ⟨3, false, 0, 7, 9, 0, true, 96⟩
    ∧ ((queued [] []).dev.ctl 15).rows.find? (fun o => o.bank == 7) = some ⟨7, 9, 5⟩
    ∧ (((queued [] [⟨7, 9, 0, false⟩]).dev.ctl 15).neighbours = [⟨7, 9, 0, false⟩] ∧ 0 ≤ (queued [] []).dev.beat.clock)
    ∧ (unhammered (queued [] [⟨7, 9, 3200, false⟩])).dev.rd Reg.MEM_PNR_prob = 0
    ∧ (let d := dev5.wr Reg.MEM_CFG_rfm 1
       ({ d with mem := { d.mem with rfm := some 1, ctls := [(15, { Ctl.reset with acts := [(7, 1)] })] } } : Device).rfmDue 15 7 = true)
    ∧ 16 < (-17 : Int).natAbs ∧ (16 : Int).natAbs ≤ 16 := by decide +kernel
theorem test_memory : ((after (.arbiterGrant 15 []) (arbited (List.replicate 9 lastLine))).arb 15).reqs
      = [⟨11, true, 260, false, List.replicate 5 lastLine, false⟩]
    ∧ ((after (.arbiterGrant 15 []) (arbited (List.replicate 9 lastLine))).arb 15).ptrA = 11
    ∧ ((after (.arbiterGrant 15 []) (arbited (List.replicate 9 lastLine))).arb 15).quota = 4
    ∧ (after (.scFill 15) (arbited [])).out = [.bytes [9#8]]
    ∧ ((after (.controllerIssue 15) (queued [(7, 0)] [])).ctl 15).rows = []
    ∧ ((after (.controllerIssue 15) (queued [] [])).ctl 15).scan = 96
    ∧ (after (.neighbourRefresh 15) (unhammered (queued [] [⟨7, 9, 3200, false⟩]))).beat.clock = 3200
    ∧ ((after (.dqsCheck 15 (-17)) up).ctl 15).pendingTiming = some (-17) := by decide +kernel

/-- A chain of post slot 7 of CSQ0 with one segment that fills 16 bytes, in host memory, `run` or waiting at CPY3. -/
def copies (running : Bool) : State :=
  let c : Chain := { src := .post 0 7 0x7FF0, addr := 0 }
  let d := mapped dev5 []
  st { (d.modSeq 0 (fun x => { x with posts := [(7, some ⟨3, 0x7FF0, false⟩)] })) with
    copies := [(3, { run := if running then some c else none, since := 0, waiting := if running then [] else [c] })] }

theorem witness_MemorySystem_copies :
    ((copies false).dev.on Reg.PWR_STATE_busy = false ∧ (copies false).dev.copyItems 3 = [] ∧ ((copies false).dev.copy 3).run = none
      ∧ ((copies false).dev.copy 3).waiting = [{ src := .post 0 7 0x7FF0, addr := 0 }])
    ∧ ((copies true).dev.copy 3).run = some { src := .post 0 7 0x7FF0, addr := 0 }
    ∧ (∃ p, ((copies true).dev.seq 0).post 7 = some p ∧ p.stale = false) := by
  refine ⟨by decide +kernel, by decide +kernel, ⟨3, 0x7FF0, false⟩, by decide +kernel, rfl⟩
theorem test_copies : (after (.copyChainStart 3) (copies false)).on (Reg.CPY_STAT_busy 3) = true
    ∧ ((after (.copyChainEnd 3 0 0) (copies true)).copy 3).run = none
    ∧ ((after (.copyChainEnd 3 0 0) (copies true)).seq 0).sevent = 2 ^ 7 := by decide +kernel

/-! ### Guests and worlds -/

/-- Mediation arguments, and instance 31 in state `x` after a SETUP, with call `op` under way. -/
def called (args : List Nat) (x : Nat) (op : Option Nat) : State :=
  let d := (mapped dev5 []).wr (Reg.INST_STATE_state 31) x
  let d := d.modInst 31 (fun y => { y with setup := true, op := op, opArg := (0, 4096) })
  let d := (d.wr (Reg.INST_SHARE_weight 31) 7).wr (Reg.INST_QUOTA_quota 31) 64
  st ((List.range 5).foldl (fun d k => d.wr (Reg.INST_MED_ARG_value k) (args.getD k 0)) d)

theorem witness_Guests_refused : ∀ c ∈ [1, 3, 10, 11, 12],
    (called [32, 256] 0 none).dev.medArgsOk c = false := by decide +kernel
theorem witness_Guests_calls :
    (∀ c ∈ [2, 4, 5, 6, 7, 8, 9], (called [31] 0 none).dev.medArgsOk c = true ∧ (called [31] 0 none).dev.medInst c = 31)
    ∧ ((called [31] 0 (some 6)).dev.inst 31).op.isSome = true ∧ ((called [31] 0 none).dev.inst 31).op = none
    ∧ (∀ c ∈ [5, 6, 8], (called [31] 0 none).dev.medStateOk c 31 = false) := by decide +kernel
theorem witness_Guests_passes :
    (Passes (called [31, 15 + 2048 * 65536, 4096, 0, 1048575] 0 none) 1
      ∧ (called [31, 15 + 2048 * 65536, 4096, 0, 1048575] 0 none).dev.otherQuotas 31 + bits (15 + 2048 * 65536) 27 16 ≤ 2048)
    ∧ Passes (called [31] 0 none) 2 ∧ Passes (called [31, 255] 4 none) 3 ∧ Passes (called [31, 4096, 0, 1] 1 none) 4
    ∧ Passes (called [31] 2 none) 5 ∧ Passes (called [31, 64, 0, 4096] 4 none) 6 ∧ Passes (called [31] 0 none) 7
    ∧ Passes (called [31] 4 none) 8 ∧ (Passes (called [31] 1 none) 9 ∧ (called [31] 1 none).dev.instState 31 ≠ 0)
    ∧ Passes (called [31, 15] 1 none) 10
    ∧ (Passes (called [31, 0, 0, 2 ^ 31 + 20] 1 none) 11 ∧ (((called [31, 0, 0, 2 ^ 31 + 20] 1 none).dev.medArg 3).testBit 31 = true))
    ∧ (Passes (called [31, 0, 0, 6] 1 none) 11 ∧ (((called [31, 0, 0, 6] 1 none).dev.medArg 3).testBit 31 = false))
    ∧ Passes (called [7, 2 ^ 31 + 31] 1 none) 12 := by unfold Passes; decide +kernel
theorem test_calls :
    (after (.medCall 1) (called [31, 15 + 2048 * 65536, 4096, 0, 1048575] 0 none)).rd (Reg.INST_QUOTA_quota 31) = 2048
    ∧ (after .start (called [31] 0 none)).instState 31 = 1 ∧ (after .freeze (called [31] 2 none)).instState 31 = 3
    ∧ (after (.medCall 0x109) (called [31] 1 none)).instState 31 = 5
    ∧ (after (.medCall 13) (called [31] 1 none)).rd Reg.INST_MED_STAT_result = resInvalid
    ∧ (after (.medCall 8) (called [31] 1 none)).rd Reg.INST_MED_STAT_result = resDenied := by decide +kernel

/-- A saved image of an instance with one queue and no items: its header alone says so. -/
def imageBytes : List (Nat × Byte) :=
  [(0, 0x47#8), (1, 0x4D#8), (2, 0x49#8), (3, 0x4B#8), (4, 1#8), (8, 0xC0#8), (9, 4#8)] ++ [(60, 0x1#8), (61, 0x2E#8), (62, 0xAD#8), (63, 0xFE#8)]

def restoring (bytes : List (Nat × Byte)) : State :=
  let s := called [31] 0 (some 7)
  st { s.dev with mems := { s.dev.mems with host := bytes } }

/-- Whether the image of instance 31 fits and is written. -/
def saves (s : State) : Bool :=
  let p := (found s).image 31
  decide (p.1.length ≤ (s.dev.inst 31).opArg.2) && (p.2.write (.inst 0) 8 (s.dev.inst 31).opArg.1 p.1).1.isOk

/-- The magic and the length of the image that a RESTORE of instance 31 reads. -/
def imageHead (s : State) : Nat × Nat :=
  match ((found s).read (.inst 0) 8 (s.dev.inst 31).opArg.1 64).1 with
  | .ok h => (leAt h 0 4, leAt h 8 8)
  | .error _ => (0, 0)

theorem witness_Guests_operations :
    ((called [31] 3 (some 5)).dev.instState 31 = 3 ∧ (called [31] 3 (some 5)).dev.draining 31 = false)
    ∧ ((called [31] 5 none).dev.instState 31 = 5 ∧ (called [31] 5 none).dev.q.picks.any (fun p => p.inst == 31) = false
      ∧ (called [31] 5 none).dev.copying 31 = false)
    ∧ (((called [31] 4 (some 6)).dev.inst 31).op = some 6 ∧ saves (called [31] 4 (some 6)) = true)
    ∧ (((restoring []).dev.inst 31).op = some 7 ∧ (imageHead (restoring [])).1 ≠ 0x4B494D47
      ∧ ((found (restoring [])).read (.inst 0) 8 ((restoring []).dev.inst 31).opArg.1 64).1.isOk = true)
    ∧ imageHead (restoring imageBytes) = (0x4B494D47, 1216)
    ∧ 1 ≤ 31 ∧ (called [31] 1 none).dev.instState 31 ≠ 0 := by decide +kernel
/-- The image that a RESTORE of instance 31 reads. -/
def theImage (s : State) : List Byte :=
  let p := (found s).read (.inst 0) 8 (s.dev.inst 31).opArg.1 64
  match (p.2.read (.inst 0) 8 (s.dev.inst 31).opArg.1 1216).1 with
  | .ok img => img
  | .error _ => []

/-- An instance that runs, and a lock cell that the manager holds. -/
def hosted : State := st (((dev5.wr (Reg.INST_STATE_state 31) 2).wr (Reg.WLD_LOCK_STAT_held 63) 1).wr (Reg.WLD_LOCK_STAT_owner 63) 0x10)

theorem witness_HostReset : 2 ≤ hosted.dev.phase ∧ hosted.dev.instState 31 ≠ 0 ∧ hosted.dev.instState 0 = 0
    ∧ hosted.dev.on (Reg.WLD_LOCK_STAT_held 63) = true ∧ hosted.dev.rd (Reg.WLD_LOCK_STAT_owner 63) = 0x10 := by decide +kernel
theorem test_perst : (after .perstNAssert hosted).instState 31 = 5 ∧ (after .perstNAssert hosted).on (Reg.WLD_LOCK_STAT_held 63) = false
    ∧ (after .perstNAssert hosted).on (Reg.WLD_LOCK_STAT_abandoned 63) = true := by decide +kernel

theorem witness_Guests_image : (theImage (restoring imageBytes)).length = 1216
    ∧ leAt (theImage (restoring imageBytes)) 0x20 2 ≤ (restoring imageBytes).dev.slotsFree 31
    ∧ (restoring imageBytes).dev.rd (Reg.INST_QUOTA_quota 31) = 64 := by decide +kernel

/-- The bytes of a list put through a CRC one after the other, each sum worked out before the next. -/
def crcInTurn : List Byte → Nat → Nat
  | [], r => r
  | b :: bs, r => match crcByte 32 0x1EDC6F41 true r b with
    | 0 => crcInTurn bs 0
    | n + 1 => crcInTurn bs (n + 1)

theorem crcInTurn_eq (bs : List Byte) (r : Nat) : bs.foldl (crcByte 32 0x1EDC6F41 true) r = crcInTurn bs r := by
  induction bs generalizing r with
  | nil => rfl
  | cons b bs ih => simp only [List.foldl_cons, crcInTurn]; rw [ih]; split <;> simp_all

theorem witness_Guests_restore : imageOk (theImage (restoring imageBytes)) 64 = true := by
  simp only [imageOk, crc32c, crcOf, crcInTurn_eq]; decide +kernel
theorem test_instances : (after (.freezeDone 31) (called [31] 3 (some 5))).instState 31 = 4
    ∧ (after (.saveDone 31) (called [31] 4 (some 6))).rd (Reg.INST_STATE_op_result 31) = resOk
    ∧ (after (.restoreDone 31) (restoring [])).rd (Reg.INST_STATE_op_result 31) = resInvalid
    ∧ (after (.functionLevelReset 31) (called [31] 1 none)).instState 31 = 5 := by decide +kernel

/-! ### Worlds, the seed store and integrity -/

/-- Enclave 15 unlocked, and one hand-over of the last lock cell under way. -/
def handing : State := st { dev5 with handovers := [{ kind := 3, unit := 63, secure := true }] }

theorem witness_Worlds : agentSecure .manager = false ∧ agentSecure (.debug true) = true
    ∧ (st (dev5.wr (Reg.WLD_ENC_CFG_lock 15) 1)).dev.on (Reg.WLD_ENC_CFG_lock 15) = true ∧ up.dev.on (Reg.WLD_ENC_CFG_lock 15) = false
    ∧ ((0x80000000#32).getLsbD 31 && ((found (st (dev5.wr Reg.MEM_CFG_size 1))).setReg (Reg.WLD_ENC_CFG 15) (0x80000000#32 &&& 0xC000FFFF#32)).encBad 15) = false
    ∧ ((found up).setReg (Reg.WLD_ENC_CFG 15) (0x8000FFFF#32 &&& 0xC000FFFF#32)).encBad 15 = true
    ∧ (∀ p ∈ [(0, 3), (1, 7), (2, 7), (3, 63)], p.2 < hoUnits p.1 ∧ up.dev.on (hoField p.1 p.2) ≠ true
      ∧ up.dev.handovers.any (fun h => h.kind == p.1 && h.unit == p.2) = false)
    ∧ handing.dev.handovers.find? (fun h => h.kind == 3 && h.unit == 63) = some { kind := 3, unit := 63, secure := true } := by decide +kernel
theorem test_worlds : (after (.enclaveCfgWrite (.debug true) 15 0x8000FFFF) up).on Reg.WLD_STATUS_enc_cfg_err = true
    ∧ (after (.handoverDone 3 63) handing).on (Reg.WLD_LOCK_STAT_secure 63) = true
    ∧ (after (.handoverStart .manager 3 63 true) up).handovers = [] := by decide +kernel

/-- The seed store ready, with one write of register 4095 − 96 waiting, and a record of presets where `rec` says. -/
def seeded (worn pfail rec : Bool) : State :=
  let d := (dev5.wr Reg.SEED_STATUS_ready 1).wr Reg.SEED_STATUS_pfail (b2n pfail)
  st { mapped d [] with
    seed := { d.seed with
      queue := if rec then [] else [{ src := .seq 0, reg := 0xF9F, value := 7 }]
      mirror := if worn then [(0xF9F, { SeedReg.blankAt 0xF9F with worn := true })] else []
      records := if rec then [presetJob [1#8]] else [] } }

theorem witness_SeedCommands :
    (∀ b ∈ [false, true], (seeded b b false).dev.seed.queue = [{ src := .seq 0, reg := 0xF9F, value := 7 }] ∧ (seeded b b false).dev.seed.parked = false)
    ∧ ((seeded false false false).dev.seedPlan 0xF9F).isSome = true ∧ (seeded true false false).dev.seedPlan 0xF9F = none
    ∧ (seeded true true false).dev.on Reg.SEED_STATUS_pfail = true ∧ (seeded false false false).dev.on Reg.SEED_STATUS_pfail = false
    ∧ (found up).seedCheck (.rwp (agentSecure .manager)) 0xFA0 0x8000 = resOk
    ∧ ((seeded false true true).dev.seed.queue = [] ∧ (seeded false true true).dev.seed.parked = false ∧ (seeded false true true).dev.on Reg.SEED_STATUS_pfail = true)
    ∧ ((seeded false false true).dev.on Reg.SEED_STATUS_ready = true ∧ (0x3FFF : Nat) * 8 < 0x20000)
    ∧ ((seeded false false true).dev.seed.records = [presetJob [1#8]] ∧ ((seeded false false true).dev.recordTarget (presetJob [1#8])).isSome = true)
    ∧ (seeded false false true).dev.seed.records.any (fun j => j.src == .presets) = true
    ∧ (seeded false false false).dev.seed.records.any (fun j => j.src == .presets) = false := by decide +kernel

/-- Whether SEED_REC_CMD finds its presets and a slot for them. -/
def presetsFit (s : State) : Bool :=
  let p := ((found s).wr Reg.SEED_REC_CMD_done 0).read (.inst 0) 11 (s.dev.addr64 Reg.SEED_REC_SRC_LO Reg.SEED_REC_SRC_HI) 2048
  p.1.isOk && !p.2.on Reg.SEED_STATUS_pfail && (p.2.recordTarget (presetJob [])).isSome

theorem witness_SeedCommands_presets : presetsFit (seeded false false false) = true := by decide +kernel
theorem witness_SeedCommands_cut : (seeded true true false).dev.seed.queue ≠ [] ∧ (seeded true true false).dev.seed.parked = false
    ∧ (seeded true true false).dev.on Reg.SEED_STATUS_pfail = true := by decide +kernel
theorem test_seed : ((after (.seedRegisterWrite .good) (seeded false false false)).seedReg 0xF9F).value = 7
    ∧ (after (.seedRegisterWrite .good) (seeded true false false)).on Reg.SEED_STATUS_lost = true
    ∧ (after (.powerFailTrip true 0) (seeded false false true)).seed.records = []
    ∧ (after (.scrubPass [] [0x3FFF]) (seeded false false true)).seed.bad = [0x3FFF]
    ∧ (after (.mramPark 7 61 9) (seeded false true true)).rd (Reg.SEED_HOUR_seconds 1) = 60
    ∧ (after (.seedRecCmd .manager) (seeded false false true)).rd Reg.SEED_REC_CMD_result = resBusy := by decide +kernel

/-- Configuration protection held for 64 passes, while a pass runs. -/
def holding : State :=
  let d := (dev5.wr Reg.FLT_CFGCRC_CTL_hold 1).wr Reg.FLT_CFGCRC_STAT_held 64
  st { d with flt := { d.flt with passOn := true } }

theorem witness_IntegrityCommands : holding.dev.flt.passOn = true ∧ holding.dev.on Reg.FLT_CFGCRC_CTL_hold = true
    ∧ 64 ≤ holding.dev.rd Reg.FLT_CFGCRC_STAT_held
    ∧ ((dev5.wr Reg.FLT_CFGCRC_CTL_hold 0).on Reg.FLT_CFGCRC_CTL_hold = false ∧ up.dev.guards = []
      ∧ (st (dev5.setReg (Reg.GLB_RST + 4) 0)).dev.reg (Reg.GLB_RST + 4) ≠ ~~~ (st (dev5.setReg (Reg.GLB_RST + 4) 0)).dev.reg Reg.GLB_RST)
    ∧ up.dev.mayCfgcrc .manager = true ∧ up.dev.mayCfgcrc (.guest 31) = false
    ∧ 2 ≤ (let s := st { dev5 with flt := { dev5.flt with ssqFaults := [0, 0] } }
        s.dev.flt.ssqFaults.filter (fun b => decide (s.dev.beat.sbeat < b + 1000))).length
    ∧ up.dev.rd Reg.FLT_BRIDGE_spare_up < 8 ∧ up.dev.flt.lostMixed = false ∧ up.dev.flt.lostCompute = false
    ∧ up.dev.secureChannel 3 = false ∧ (st (dev5.wr (Reg.HEAD_SEC_secure 7) 1)).dev.secureChannel 3 = true := by decide +kernel
/-- A pass whose reference no CRC equals. -/
def checking : State := st { dev5.wr Reg.FLT_CFGCRC_CTL_hold 0 with flt := { dev5.flt with passOn := true, cfgRef := 2 ^ 32 } }

theorem cfgCrc_lt (d : Device) : d.cfgCrc < 2 ^ 32 := by
  unfold Device.cfgCrc crc32c crcOf crcEnd; exact Nat.mod_lt _ (Nat.two_pow_pos 32)
theorem witness_IntegrityCommands_crc : checking.dev.flt.passOn = true ∧ checking.dev.on Reg.FLT_CFGCRC_CTL_hold = false := by decide +kernel
theorem witness_IntegrityCommands_crc_differs : checking.dev.cfgCrc ≠ checking.dev.flt.cfgRef := by
  have h : checking.dev.flt.cfgRef = 2 ^ 32 := by decide +kernel
  rw [h]; exact Nat.ne_of_lt (cfgCrc_lt _)
theorem test_integrity : (after .cfgcrcHoldExpire holding).on Reg.FLT_CFGCRC_CTL_hold = false
    ∧ ((after .lockstepMismatch (st { dev5 with flt := { dev5.flt with ssqFaults := [0, 0] } })).seq 4).halted = true
    ∧ (after (.bridgeReplay true true) up).rd Reg.FLT_BRIDGE_spare_up = 1
    ∧ (after (.channelReset 3 (some .manager)) (st (dev5.wr (Reg.HEAD_SEC_secure 7) 1))).on Reg.GLB_STATUS_refused = true := by decide +kernel

/-! ### Power and Weft -/

/-- Domain 10 in step `k` of its sequence, and a vote of client 7 for it. -/
def domained (k : Nat) (voted : Bool) : State := st (((dev5.wr (Reg.PWR_DOM_state 10) k).setReg (Reg.PWR_VOTE 0) 0).setReg (Reg.PWR_VOTE 7) (if voted then 0x400#32 else 0#32))

theorem witness_PowerCommands :
    ((domained 1 false).dev.dom 10 = 1 ∧ (domained 3 false).dev.dom 10 = 3 ∧ 10 ∉ (domained 2 true).dev.pwr.supply
      ∧ (domained 2 true).dev.holders 10 ≠ [] ∧ (domained 2 false).dev.holders 10 = [])
    ∧ (st { dev5 with boot := { dev5.boot with brown := true } }).dev.boot.brown = true
    ∧ mayPwr .manager = true ∧ mayPwr (.guest 31) = false ∧ dev5.mayDvfs .manager 3 = true ∧ dev5.mayDvfs (.guest 31) 3 = false ∧ voteClient (.debug true) = some 5 ∧ voteClient .legacy ≠ some 7
    ∧ (powered 0 id).dev.pwr.tjHigh = false ∧ (powered 0 fun p => { p with tjHigh := true }).dev.pwr.tjHigh = true
    ∧ (powered 0 id).dev.on Reg.PWR_STATE_busy = false ∧ (st (dev5.wr Reg.PWR_STATE_busy 1)).dev.on Reg.PWR_STATE_busy = true
    ∧ (∀ x ∈ [1, 2], let s := powered 0 fun p => { p with target := some x, linkL2 := true }
        s.dev.pwr.target = some x ∧ s.dev.entryReady x = true ∧ ∀ h, h < 8 → s.dev.running h = false)
    ∧ (∀ src ∈ [0, 21, 31], (powered 1 id).dev.pwr.target.getD ((powered 1 id).dev.rd Reg.PWR_STATE_state) ≠ 0
        ∧ ((powered 1 id).dev.reg Reg.PWR_WAKE_EN).toNat.testBit src = true ∧ (powered 1 id).dev.pwr.target = none)
    ∧ (let s := powered 2 fun p => { p with exiting := true }
       s.dev.pwr.exiting = true ∧ s.dev.pwr.target = none ∧ s.dev.rd Reg.PWR_STATE_state ≠ 0 ∧ s.dev.pwr.heldTlp = [])
    ∧ ((powered 0 id).dev.i3cMatch ((powered 0 id).dev.rd Reg.PWR_I3C0_CFG_addr) = true ∧ (powered 0 id).dev.awake = true ∧ (powered 1 id).dev.awake = false
      ∧ (powered 0 fun p => { p with dynAddr := some 127 }).dev.i3cMatch 127 = true
      ∧ (powered 0 id).dev.on Reg.PWR_I3C0_CFG_i2c = false ∧ (powered 0 id).dev.pwr.dynAddr = none)
    ∧ ((0x80000000#32).getLsbD 31 = true ∧ (powered 0 fun p => { p with i3c1 := true }).dev.pwr.i3c1 = true) := by decide +kernel
theorem witness_PowerCommands_i3c1 : let s := st ((powered 0 fun p => { p with i3c1 := true }).dev.setReg Reg.PWR_I3C1_CMD 0xFFFFFFFF)
    s.dev.on Reg.PWR_I3C1_CMD_rnw = true ∧ s.dev.rd Reg.PWR_I3C1_CMD_len = 3 := by decide +kernel
theorem test_power : (after (.domainUpDone 10) (domained 1 true)).dom 10 = 2
    ∧ (after (.supplyLost 10 0 0 0) (domained 2 true)).on (Reg.PWR_DOM_lost 10) = true
    ∧ (after .stateEntry (powered 0 fun p => { p with target := some 1 })).rd Reg.PWR_STATE_state = 1
    ∧ (after (.wakeEvent 16) (powered 2 id)).pwr.exiting = false ∧ (after (.wakeEvent 15) (powered 2 id)).pwr.exiting = true
    ∧ (after (.i3c0Write 127 [1, 2, 3, 4]) (powered 0 fun p => { p with dynAddr := some 127 })).reg Reg.PWR_I3C0_IN = 0x04030201#32 := by decide +kernel

/-- Link 3 of a node, enabled, with field values of WFT_LINK_3_STAT and of the mesh. -/
def linked (up failed root numbered : Nat) : Device :=
  let d := ((dev5.wr (Reg.WFT_LINK_CTL_enable 3) 1).wr (Reg.WFT_LINK_STAT_up 3) up).wr (Reg.WFT_LINK_STAT_failed 3) failed
  ((d.wr Reg.WFT_MESH_root root).wr Reg.WFT_STATUS_numbered numbered).wr (Reg.PWR_DOM_state 7) 2

/-- A node that follows the beat of the links. -/
def following : State := st (wrAct ((linked 1 0 0 1).wr Reg.WFT_BEAT_STAT_locked 1) Reg.BEAT_CTL_source 1)

theorem witness_Weft_links :
    ((st (linked 0 0 0 0)).dev.mode = .native ∧ (linked 0 0 0 0).on (Reg.WFT_LINK_CTL_enable 3) = true ∧ (linked 0 0 0 0).on (Reg.WFT_LINK_STAT_up 3) = false
      ∧ (linked 0 0 0 0).on (Reg.WFT_LINK_STAT_failed 3) = false ∧ (linked 0 0 0 0).rd (Reg.PWR_DOM_state 7) = 2)
    ∧ (linked 0 1 0 0).on (Reg.WFT_LINK_STAT_failed 3) = true ∧ (linked 1 0 0 0).linkUp 3 = true
    ∧ ((linked 1 0 0 0).mapped 111 ≠ true ∧ (linked 1 0 0 0).isRoot = false ∧ (linked 1 0 0 0).on Reg.WFT_STATUS_numbered = false
      ∧ (linked 1 0 0 0).weft.lastBeat ≠ some 0 ∧ (linked 1 0 0 0).weft.lastFrame ≠ some 0)
    ∧ (following.dev.followsWeft = true ∧ following.dev.on Reg.WFT_BEAT_STAT_behind = false ∧ following.dev.beat.sbeat + 1 ≤ 1
      ∧ following.dev.on Reg.WFT_BEAT_STAT_locked = true ∧ following.dev.weft.edge = none ∧ following.dev.weft.lastBeat ≠ some 1)
    ∧ ((linked 1 0 1 0).isRoot = true ∧ (linked 1 0 1 0).on Reg.WFT_STATUS_numbered = false)
    ∧ ((linked 0 0 0 0).wr Reg.PWR_STATE_state 1).pwr.target.getD (((linked 0 0 0 0).wr Reg.PWR_STATE_state 1).rd Reg.PWR_STATE_state) = 1
    ∧ ((linked 0 0 0 0).setReg Reg.PWR_WAKE_EN 0xFFFFFFFF).reg Reg.PWR_WAKE_EN = 0xFFFFFFFF#32
    ∧ ((linked 1 0 1 1).wr Reg.WFT_FLOCK_CFG_enable 1).on Reg.WFT_FLOCK_CFG_enable = true := by decide +kernel
theorem test_links : (after (.wftLaneFail 3 false) (st (linked 1 0 0 0))).on (Reg.WFT_LINK_STAT_failed 3) = true
    ∧ (after (.beatBlock 3 1 48 1000 0 14400 0) following).weft.edge = some (1, 80)
    ∧ (after (.beatBlock 3 1 48 1000 0 14399 0) following).weft.edge = some (1, 80)
    ∧ (after (.beatBlock 3 1 48 16000 0 0 0) following).weft.edge = some (1, 12800)
    ∧ (after .beatBlockMissing following).weft.missed = 1 := by decide +kernel

/-- A flit of a type with its link sequence and its check. -/
def aFlit (type sq : Nat) : List Byte :=
  let b := leBytes 4 type ++ List.replicate 0x4C 0#8 ++ leBytes 4 sq
  b ++ leBytes 4 (crc32c b)

/-- Whether a flit is good, its type, and its link sequence. -/
def flitOf (bs : List Byte) : Bool × Nat × Nat × Nat :=
  (decide (crc32c (bs.take 84) = leAt bs 0x54 4), bits (leAt bs 0 4) 3 0, bits (leAt bs 0x50 4) 11 0, bs.length)

theorem witness_Weft_flits : (linked 1 0 0 0).linkUp 3 = true ∧ ((linked 1 0 0 0).link 3).rx = 0
    ∧ flitOf (List.replicate 88 0#8) = (false, 0, 0, 88) ∧ flitOf (aFlit 0 0) = (true, 0, 0, 88) ∧ flitOf (aFlit 9 0) = (true, 9, 0, 88)
    ∧ flitOf (aFlit 1 0xF80) = (true, 1, 0xF80, 88) ∧ (0 + 4096 - 0xF80) % 4096 ≤ 128
    ∧ flitOf (aFlit 1 0xF7F) = (true, 1, 0xF7F, 88) ∧ 128 < (0 + 4096 - 0xF7F) % 4096 := by
  simp only [flitOf, aFlit, crc32c, crcOf, crcInTurn_eq]; decide +kernel

/-- A link whose peer has eight times in a row sent a nak for its flit 0, and the ninth nak. -/
theorem witness_Weft_replays : ({ WLink.reset with failing := some (0, 8) } : WLink).naks (bits 0x3000000 23 12) = 9
    ∧ flitOf (aFlit 0 0x3000000) = (true, 0, 0, 88) ∧ bits (leAt (aFlit 0 0x3000000) 0x50 4) 25 24 = 3 := by
  simp only [flitOf, aFlit, crc32c, crcOf, crcInTurn_eq]; decide +kernel
theorem test_remote_event : ((dev5.wr Reg.WFT_STATUS_numbered 1).signal 3 1).out.getLast? = some (.event 3 1)
    ∧ (dev5.signal 3 1).out.getLast? = some (.msix 3 1) := by decide +kernel

/-- The last Weft window of node 0, of a kind, with the node's memory and link window open, and what its broadcast waits for. -/
def windowed (kind : Nat) : Device :=
  let d := ((linked 1 0 1 1).wr (Reg.WFT_WIN_CFG_enable 15) 1).wr (Reg.WFT_WIN_CFG_kind 15) kind
  let d := (d.setReg Reg.WFT_BC_LEN (if kind = 0 then 0#32 else 64#32))
  { mapped d [] with weft := { d.weft with bcast := some [1, 63], reqs := [{ tag := 9, node := 63, skip := 0, bytes := 4 }] } }

theorem witness_Weft_windows : (∀ k ∈ [0, 1, 2], (windowed k).mode = .native ∧ (windowed k).isRoot = true ∧ (windowed k).lpwUp = true
      ∧ (windowed k).on (Reg.WFT_WIN_CFG_enable ((2 ^ 30 - 4) / 2 ^ 26)) = true ∧ (windowed k).rd (Reg.WFT_WIN_CFG_kind ((2 ^ 30 - 4) / 2 ^ 26)) = k)
    ∧ ((2 ^ 30 - 4) % 2 ^ 26 % 4 = 0 ∧ ([1, 2, 3, 4] : List Byte).length % 4 = 0)
    ∧ (windowed 0).weft.reqs.find? (fun r => r.tag == 9) = some { tag := 9, node := 63, skip := 0, bytes := 4 }
    ∧ ((windowed 0).mayWft .manager = true ∧ (windowed 0).on Reg.WFT_BC_CMD_busy = false ∧ (windowed 0).rd Reg.WFT_BC_LEN_bytes / 64 = 0
      ∧ (windowed 1).rd Reg.WFT_BC_LEN_bytes / 64 = 1) := by decide +kernel
theorem witness_Weft_broadcast : ((Device.wr (found (st (windowed 1))) Reg.WFT_BC_CMD_done 0).read (.inst ((windowed 1).rd Reg.WFT_BC_CMD_inst)) 9
      ((windowed 1).addr64 Reg.WFT_BC_SRC_LO Reg.WFT_BC_SRC_HI) (1 * 64)).1.isOk = true := by decide +kernel
theorem test_weft : (after (.windowTimeout 9) (st (windowed 0))).out = [.bytes [0xFF, 0xFF, 0xFF, 0xFF]]
    ∧ (after (.bcastEnd [1] []) (st (windowed 0))).reg Reg.WFT_BC_FAIL_HI = 0x80000000#32 := by decide +kernel

/-! ### UDC-4 software -/

/-- A device in MIXED mode with the compatibility draft's images where `draft` says, the last two bytes of its map written, and a legacy
blit under way where `blit` says. -/
def legacy (draft blit : Bool) (land : Option (Nat × Word)) : State :=
  let d := { dev5 with mode := .mixed, udc := { dev5.udc with land := land, fifos := [(1, [7#32])] } }
  let d := if draft then (d.modSeq 0 (fun x => { x with imageValid := true })).modSeq 1 (fun x => { x with imageValid := true }) else d
  let d := (d.wr (Reg.HEAD_STATUS_running 3) 1).wr Reg.UDC_STAT_busy (b2n land.isSome)
  st { d with copies := if blit then [(3, { run := some { src := .blit, addr := 0 }, since := 0, waiting := [] })] else [] }

theorem witness_UdcCommands :
    (legacy true false none).dev.mode ≠ .native ∧ (legacy true false none).dev.udcUp = true ∧ (0xFFFC : Nat) < 0x10000
    ∧ ((legacy true false none).dev.rd Reg.PWR_STATE_state = 0 ∧ (legacy true false none).dev.pwr.target = none
      ∧ (legacy true false none).dev.udc.twins = [] ∧ 0x80000000 + 0xFFFC / 4 * 4 ≠ Reg.UDC_STAT)
    ∧ (legacy true false (some (Reg.UDC_INT_EN, 7#32))).dev.on Reg.UDC_STAT_busy = true ∧ (legacy true false none).dev.on Reg.UDC_STAT_busy = false
    ∧ (st ((legacy true false none).dev.wr Reg.PWR_STATE_state 1)).dev.rd Reg.PWR_STATE_state ≠ 0
    ∧ (legacy true false none).dev.udc.land = none
    ∧ ((legacy true false (some (Reg.UDC_INT_EN, 7#32))).dev.udc.land = some (Reg.UDC_INT_EN, 7#32) ∧ (findRow Reg.UDC_INT_EN).isSome = true)
    ∧ udcGuards.any (fun g => g.1 == Reg.UDC_PWR) = true ∧ udcGuards.any (fun g => g.1 == Reg.UDC_INT_EN || g.2 == Reg.UDC_INT_EN) = false
    ∧ ((Reg.UDC_PWR, Reg.UDC_PWR_G) ∈ udcGuards ∧ udcGuards.any (fun g => g.1 == Reg.UDC_PWR_G) = false)
    ∧ ((legacy false false none).dev.draftUp 1 = false ∧ (legacy true false none).dev.draftUp 1 = true ∧ (legacy true false none).dev.draftUp 0 = true
      ∧ (legacy true false none).dev.legacyHead 3 = true ∧ (legacy true false none).dev.running 3 = true
      ∧ (legacy true false none).dev.on (Reg.HEAD_STATUS_restarting 3) = false ∧ (legacy true false none).dev.handovers = []
      ∧ (legacy true false none).dev.on (Reg.AUD_GEN_CFG_sec 3) = false)
    ∧ ((legacy true false none).dev.on Reg.UDC_BLT_CTL_busy = false ∧ (legacy true false none).dev.blitting = false
      ∧ ((legacy true false none).dev.copy 3).waiting.length < 16 ∧ ((legacy true true none).dev.copy 3).run = some { src := .blit, addr := 0 }
      ∧ (legacy true true none).dev.udc.blit = [])
    ∧ ((legacy true false none).dev.aud.swap = none ∧ (legacy true false none).dev.aud.copying = none
      ∧ (legacy true false none).dev.udc.copyDue = false ∧ (legacy true false none).dev.fallow = false)
    ∧ ((legacy true false none).dev.mode = .mixed ∧ (0x41531000#32).toNat / 2 ^ 16 = 0x4153 ∧ (0x41531000#32).toNat % 8192 ≤ 4096)
    ∧ (tget (fun _ => []) (legacy true false none).dev.udc.fifos 0 = [] ∧ tget (fun _ => []) (legacy true false none).dev.udc.fifos 1 = [7#32])
    ∧ ((15 : Nat).testBit 3 = true ∧ (legacy true false none).dev.on Reg.UDC_PWR_standby = false
      ∧ (legacy true false none).dev.on Reg.PWR_STATE_busy = false) := by decide +kernel
theorem witness_UdcCommands_twin : let s := legacy true false (some (Reg.UDC_PWR_G, 0#32))
    let open' := ({ s.dev with udc := { s.dev.udc with twins := [(Reg.UDC_PWR, 0xFFFFFFFF#32, 0)] } } : Device)
    open'.udc.twins = [(Reg.UDC_PWR, 0xFFFFFFFF#32, 0)] ∧ open'.beat.clock ≤ 0 + 800 ∧ 0x80000000 + 0x2C / 4 * 4 = Reg.UDC_PWR_G
      ∧ (Reg.UDC_PWR, Reg.UDC_PWR_G) ∈ udcGuards ∧ udcGuards.any (fun g => g.2 == Reg.UDC_PWR_G) = true
      ∧ s.dev.udc.land = some (Reg.UDC_PWR_G, ~~~0xFFFFFFFF#32) := by decide +kernel
theorem test_udc_guard : let d := after (.udcWrite 0x28 15 3) (legacy true false none)
    d.udc.twins = [(Reg.UDC_PWR, 3#32, 0)]
    ∧ (after (.udcWrite 0x2C 15 0xFFFFFFFC) (st d)).udc.land = some (Reg.UDC_PWR_G, 0xFFFFFFFC#32)
    ∧ (after (.udcWrite 0x2C 15 0xFFFFFFFC) (legacy true false none)).on Reg.UDC_STAT_gabort = true
    ∧ (after .udcWriteLand (legacy true false (some (Reg.UDC_PWR_G, 0xFFFFFFFC#32)))).rd Reg.UDC_PWR_head_off = 3 := by decide +kernel
theorem test_udc : (after (.udcWrite 0xFFFC 15 7) (legacy true false none)).udc.land = some (0x8000FFFC, 7#32)
    ∧ (after (.udcWrite 0xFFFC 7 7) (legacy true false none)).on Reg.GLB_STATUS_width = true
    ∧ (after (.udcTchFifoRead 1) (legacy true false none)).out = [.data 7]
    ∧ ((after .udcBlitGo (legacy true false none)).copy 3).waiting.length = 1
    ∧ (after (.mixedSwapRequest 0x41531000) (legacy true false none)).aud.swap = some ⟨1, 4096, some 0⟩ := by decide +kernel

/-! ### Loads, start-up and debug -/

/-- CSQ0 while the loader verifies an image at an address. -/
def loading (hi : Word) : State :=
  st (((mapped (dev5.wr Reg.MEM_CFG_size 1) []).setReg (Reg.CSQ_IMG_HI 0) hi).modSeq 0 (fun x => { x with loading := true, loadAt := hi.toNat * 2 ^ 32 }))

theorem witness_SequencerControl : up.dev.maySeq (.debug true) 4 = true ∧ up.dev.maySeq .manager 3 = true
    ∧ (st (dev5.wr (Reg.CSQ_LOAD_pending 4) 1)).dev.on (Reg.CSQ_LOAD_pending 4) = true ∧ up.dev.on (Reg.CSQ_LOAD_pending 4) = false
    ∧ ((st (dev5.modSeq 4 (fun x => { x with halted := true }))).dev.seq 4).halted = true ∧ up.dev.on Reg.FLT_SSQ_halted = false
    ∧ (up.dev.seq 4).halted = false ∧ up.dev.maySeq .manager 4 = false ∧ up.dev.maySeq (.guest 31) 3 = false
    ∧ ((loading 0).dev.seq 0).loading = true
    ∧ ((found (loading 1)).readImage ((loading 1).dev.seq 0).loadAt 0).1 = none
    ∧ ((found (loading 0)).readImage ((loading 0).dev.seq 0).loadAt 0).1.isSome = true := by decide +kernel
theorem test_image_loads : (after (.csqVote .manager 3 0xFFFFFFFF) up).reg (Reg.PWR_VOTE 4) = 0x7FC#32
    ∧ (after (.csqLoadGo .manager 3) up).on (Reg.CSQ_LOAD_pending 3) = true
    ∧ (after (.imageVerifyDone 0) (loading 0)).rd (Reg.CSQ_LOAD_result 0) = resInvalid := by decide +kernel

/-- A boot container of one empty data entry, and the public key under which it is signed: both worked out from the two standards and R473,
by hand, outside the model. -/
def container : List Byte :=
  [0x54, 0x4F, 0x42, 0x4B, 1, 0, 0, 0, 0, 0, 0, 0, 0x68, 4, 0, 0, 1] ++ List.replicate 15 0#8 ++ [2] ++ List.replicate 999 0#8
    ++ beBytes 48 0xf241a05abd613bcade4454f7bc7e9e8229fe124dfb5b34cf010bc4987b6e8f36b908f2e6a43d00fe455104a66de8ff8d ++ beBytes 48 0xf241a05abd613bcade4454f7bc7e9e8229fe124dfb5b34cf010bc4987b6e8f36b908f2e6a43d00fe455104a66de8ff8d
/-- The bytes of that container that are not zero. -/
def contBytes : List (Nat × Byte) :=
  [(0, 84), (1, 79), (2, 66), (3, 75), (4, 1), (12, 104), (13, 4), (16, 1), (32, 2), (1032, 242), (1033, 65), (1034, 160), (1035, 90), (1036, 189),
    (1037, 97), (1038, 59), (1039, 202), (1040, 222), (1041, 68), (1042, 84), (1043, 247), (1044, 188), (1045, 126), (1046, 158), (1047, 130), (1048, 41), (1049, 254), (1050, 18),
    (1051, 77), (1052, 251), (1053, 91), (1054, 52), (1055, 207), (1056, 1), (1057, 11), (1058, 196), (1059, 152), (1060, 123), (1061, 110), (1062, 143), (1063, 54), (1064, 185),
    (1065, 8), (1066, 242), (1067, 230), (1068, 164), (1069, 61), (1071, 254)]
    ++ [(1072, 69), (1073, 81), (1074, 4), (1075, 166), (1076, 109), (1077, 232), (1078, 255), (1079, 141), (1080, 242), (1081, 65), (1082, 160), (1083, 90), (1084, 189), (1085, 97),
    (1086, 59), (1087, 202), (1088, 222), (1089, 68), (1090, 84), (1091, 247), (1092, 188), (1093, 126), (1094, 158), (1095, 130), (1096, 41), (1097, 254), (1098, 18), (1099, 77),
    (1100, 251), (1101, 91), (1102, 52), (1103, 207), (1104, 1), (1105, 11), (1106, 196), (1107, 152), (1108, 123), (1109, 110), (1110, 143), (1111, 54), (1112, 185), (1113, 8),
    (1114, 242), (1115, 230), (1116, 164), (1117, 61), (1119, 254), (1120, 69)]
    ++ [(1121, 81), (1122, 4), (1123, 166), (1124, 109), (1125, 232), (1126, 255), (1127, 141)]

/-- That key in its place in MRAM. -/
def keyBytes : List (Nat × Byte) :=
  [(163840, 143), (163841, 163), (163842, 226), (163843, 97), (163844, 229), (163845, 43), (163846, 88), (163847, 115), (163848, 63), (163849, 251), (163850, 7), (163851, 218), (163852, 165), (163853, 202),
    (163854, 137), (163855, 81), (163856, 232), (163857, 195), (163858, 73), (163859, 11), (163860, 198), (163861, 199), (163862, 205), (163863, 23), (163864, 143), (163865, 186), (163866, 116), (163867, 185),
    (163868, 64), (163869, 95), (163870, 10), (163871, 180), (163872, 241), (163873, 192), (163874, 169), (163875, 32), (163876, 126), (163877, 134), (163878, 137), (163879, 38), (163880, 250), (163881, 31),
    (163882, 85), (163883, 36), (163884, 72), (163885, 186), (163886, 148), (163887, 197)]
    ++ [(163888, 14), (163889, 13), (163890, 137), (163891, 52), (163892, 236), (163893, 45), (163894, 213), (163895, 167), (163896, 55), (163897, 255), (163898, 34), (163899, 145), (163900, 204), (163901, 204),
    (163902, 75), (163903, 124), (163904, 140), (163905, 49), (163906, 214), (163907, 78), (163908, 251), (163909, 163), (163910, 125), (163911, 200), (163912, 74), (163913, 13), (163914, 217), (163915, 198),
    (163916, 192), (163917, 184), (163918, 122), (163919, 225), (163920, 56), (163921, 102), (163922, 242), (163923, 157), (163924, 220), (163925, 246), (163926, 233), (163927, 138), (163928, 86), (163929, 142),
    (163930, 141), (163931, 234), (163932, 6), (163933, 54), (163934, 41), (163935, 216)]

/-- Start-up in phase `p`, with that container in copy 0 and in LP5X, and the key in its place. -/
def starting (p : Nat) : State :=
  let d := (dev5.wr Reg.GLB_BOOT_phase p).wr Reg.MEM_CFG_size 1
  st { d with mems := { d.mems with flash := contBytes, lp5x := contBytes, mram := keyBytes } }

/-- Start-up held by what `f` does to the boot block. -/
def booting (p : Nat) (f : Boot → Boot) : State := let d := dev5.wr Reg.GLB_BOOT_phase p; st { d with boot := f d.boot }

theorem witness_StartUp :
    (booting 0 fun x => { x with vhold := true }).dev.boot.low = true ∧ (booting 0 fun x => { x with vhold := true }).dev.phase = 0
    ∧ (booting 0 fun x => { x with low := false }).dev.boot.low = false
    ∧ (st { dev5 with seed := { dev5.seed with parked := true }, boot := { dev5.boot with low := false } }).dev.seed.parked = true
    ∧ (booting 5 id).dev.phase ≠ 0 ∧ agentSecure (.debug true) = true ∧ agentSecure .manager = false
    ∧ (booting 5 id).dev.boot.hot = false ∧ (booting 5 fun x => { x with hot := true }).dev.boot.hot = true ∧ (booting 0 id).dev.boot.vhold = false
    ∧ 2 ≤ (booting 2 id).dev.phase ∧ ((booting 1 id).dev.phase = 1 ∧ (booting 1 id).dev.on Reg.SEED_STATUS_ready = false)
    ∧ (∀ k ∈ [0, 1, 2], (st ((booting 1 id).dev.wr Reg.GLB_MODE_pins k)).dev.rd Reg.GLB_MODE_pins = k)
    ∧ (booting 2 id).dev.phase = 2
    ∧ (booting 2 id).dev.fastPath { size := 16, devices := [(1, 2)], rate := 9600, temp := -10, rfm := none, patternBad := [], failed := [15], results := [] } = none
    ∧ ((starting 3).dev.phase = 3 ∧ (starting 3).dev.on (Reg.CSQ_LOAD_pending 4) = false ∧ (starting 3).dev.noKeys = false)
    ∧ ((booting 5 id).dev.hostUp = true ∧ (booting 1 id).dev.hostUp = true)
    ∧ (let s := booting 5 fun x => { x with low := false, vhold := true }
       s.dev.pinHeld (.bridge 7) = false ∧ s.dev.on (Reg.HAP_CFG_enable 7) = false ∧ s.dev.pinHeld (.tx 3) = false
        ∧ s.dev.on (Reg.TCH_CFG_enable 3) = false ∧ s.dev.pinHeld (.tdm 5) = false ∧ bitOn (s.dev.reg (Reg.AUD_TDM_CFG 5)).toNat 31 = false)
    ∧ (booting 5 id).dev.pinHeld .wakeN = true
    ∧ (starting 4).dev.phase = 4 ∧ (st { dev5 with pwr := { dev5.pwr with wakeN := false } }).dev.pwr.wakeN = false := by decide +kernel

/-- Start-up in phase 3 with values in seed registers. -/
def settled (vs : List (Nat × Nat)) : State :=
  let d := (booting 3 id).dev.wr Reg.SEED_STATUS_ready 1
  st { d with seed := { d.seed with mirror := vs.map (fun v => (v.1, { SeedReg.blankAt v.1 with value := v.2, blank := false })) } }

theorem witness_StartUp_image :
    (settled [(0xFC1, 0xF)]).dev.noKeys = true ∧ ((settled [(0xFC0, 2)]).dev.noKeys = false ∧ (settled [(0xFC0, 2)]).dev.seedValue 0xFC0 % 4 = 2)
    ∧ ((settled [(0xFC0, 1)]).dev.noKeys = false ∧ (settled [(0xFC0, 1)]).dev.seedValue 0xFC0 % 4 ≠ 2
      ∧ contHeaderOk ((settled [(0xFC0, 1)]).dev.flashCopy 0) = false ∧ contHeaderOk ((settled [(0xFC0, 1)]).dev.flashCopy 1) = false)
    ∧ (contHeaderOk ((starting 3).dev.flashCopy 1) = false ∧ (starting 3).dev.seedValue 0xFC0 % 4 ≠ 2) := by decide +kernel
theorem witness_StartUp_flash : (starting 3).dev.flashCopy 0 = container := by decide +kernel
theorem witness_StartUp_signed : contHeaderOk container = true ∧ (starting 3).dev.contRefusal container = 0 := by decide +kernel

/-- What GLB_BOOT_CMD reads of a container of `n` bytes. -/
def offered (s : State) (n : Nat) : Option (List Byte) :=
  let a := s.dev.addr64 Reg.GLB_BOOT_IMG_LO Reg.GLB_BOOT_IMG_HI
  match (found s).read .phys 8 a 0x400 with
  | (.ok h, d1) => if contLen h = n then (d1.read .phys 8 a n).1.toOption else none
  | (.error _, _) => none

theorem witness_StartUp_offered : offered (starting 4) 1128 = some container := by decide +kernel
theorem witness_StartUp_not_offered : offered (st ((starting 4).dev.setReg Reg.GLB_BOOT_IMG_HI 1)) 1128 = none := by decide +kernel
theorem test_start_up : (after .resetNFall (booting 5 fun x => { x with low := false })).phase = 0
    ∧ (after (.resetNRise [true, false, true] [false, false, true]) (booting 0 fun x => { x with vhold := true })).rd Reg.GLB_MODE_pins = 2
    ∧ (after .bootImageCheck (settled [(0xFC1, 0xF)])).rd Reg.GLB_BOOT_error = 5
    ∧ (after .bootImageCheck (settled [(0xFC0, 1)])).phase = 0xF
    ∧ (after (.configurationRequest 0 (.read 0)) (booting 1 id)).out = [.crs] := by decide +kernel

/-- A device whose debug enables in effect are `v`. -/
def debugging (v : Nat) : State := st (((dev5.wr Reg.WLD_DBG_in_effect v).wr Reg.SEED_STATUS_ready 1).wr Reg.MEM_CFG_size 1)

theorem witness_DebugAccess :
    (∀ sec ∈ [false, true], (debugging 0).dev.dbgInv sec = false ∧ (debugging 0).dev.dbgRead sec = false ∧ (debugging 10).dev.dbgInv sec = true
      ∧ (debugging 5).dev.dbgRead sec = true ∧ (debugging 5).dev.dbgInv sec = false)
    ∧ counterReg Reg.GLB_STATUS = true ∧ counterReg Reg.GLB_LPW_BASE = false
    ∧ ((found (debugging 10)).read .phys 8 (2 ^ 30 - 4) 4).1.isOk = true ∧ (debugging 10).dev.boot.halts = []
    ∧ 4 ∈ (st { (debugging 10).dev with boot := { dev5.boot with halts := [4] } }).dev.boot.halts
    ∧ ((debugging 5).dev.on Reg.SEED_STATUS_ready = true
      ∧ (debugging 5).dev.dbgRead ((leAt (rawRead (debugging 5).dev.mems.mram (0x140000 + 64 * 8191) 64) 0 4).testBit 19) = true) := by decide +kernel
theorem test_debug : (after (.debugPortAccess (.halt 4)) (debugging 2)).boot.halts = []
    ∧ (after (.debugPortAccess (.halt 4)) (debugging 8)).boot.halts = [4]
    ∧ (after (.debugPortAccess (.writeReg false Reg.GLB_LPW_BASE 7)) (debugging 2)).reg Reg.GLB_LPW_BASE = 7#32
    ∧ (after (.jtagInstruction .extest) (debugging 10)).boot.jtag = .extest
    ∧ (after (.jtagInstruction .extest) (st { (debugging 2).dev with boot := { dev5.boot with low := false } })).boot.jtag = .bypass := by decide +kernel

/-! ### Encodings and the queue -/

theorem witness_ScalarDecodeOfEncode : (Instr.addi 4 15 15 (-4)).wf = true ∧ encodeScalar (.addi 4 15 15 (-4)) = some 0x07FFFFFC#32 := by decide +kernel
/-- FFMA of the worked example of the vector chapter. -/
def ffma : VArith := { imm := none, dst := 4, src0 := 1, src1 := 0x102, src2 := 0x1D1, neg := 0, abs := 0, sat := false }
theorem witness_VectorDecodeOfEncode : encodeVec (.ffma 1 ffma) = some 0x0030400C0BA20000#64 := by decide +kernel
theorem witness_VectorDecodeOfEncode_fits : ∀ a, arithOf (.ffma 1 ffma) = some a → VArith.fits a = true := by
  intro a h
  have e : arithOf (.ffma 1 ffma) = some ffma := rfl
  rw [e] at h
  cases h
  decide +kernel
theorem witness_StepTakesFront : ({ dev := Device.reset, pending := [.nop 1] } : State).pending = .nop 1 :: [] := rfl
theorem witness_QueueIsServedInOrder : (match step { dev := Device.reset, pending := [.eret 4, .eret 3] } with | .next t => some t.pending | _ => none)
    = some [.eret 3] := by decide +kernel
theorem witness_QueueIsServedInOrder_wf : QueueWf { dev := Device.reset, pending := [.eret 4] } ∧ State.reset.pending = [] := by
  refine ⟨?_, rfl⟩
  intro c h
  simp only [List.mem_singleton] at h
  subst h; decide

/-! ### Ill-formed commands: one for each check, which the check refuses -/

theorem test_wf_sequencers : ¬ (Instr.eret 5).wf ∧ ¬ (Instr.pickFinish 4 8).wf ∧ ¬ (Instr.lui 4 16 0).wf ∧ ¬ (Instr.shli 4 1 1 32).wf
    ∧ ¬ (Instr.br 4 16 0).wf ∧ ¬ (Instr.rayQueryEnd 4 4).wf ∧ (Instr.eret 4).wf ∧ (Instr.shli 4 15 15 31).wf := by decide
theorem test_wf_queues : ¬ (Instr.clusterOverstay 3 7 12).wf ∧ ¬ (Instr.channelReset 4 none).wf ∧ ¬ (Instr.saveDone 32).wf ∧ ¬ (Instr.fence 31 16).wf
    ∧ ¬ (Instr.engineReset (.traversal 3 2)).wf ∧ ¬ (Instr.retireRecordWrite 3 33).wf ∧ (Instr.fence 31 15).wf := by decide
theorem test_wf_display : ¬ (Instr.timingChk 8).wf ∧ ¬ (Instr.rectCheckResult 7 20).wf ∧ ¬ (Instr.hpdIrq 8).wf ∧ ¬ (Instr.tchEnable 4).wf
    ∧ ¬ (Instr.cutTime 8).wf ∧ ¬ (Instr.tdmLock 6).wf ∧ (Instr.rectCheckResult 7 19).wf := by decide
theorem test_wf_memory : ¬ (Instr.scAccess 12 0 0 none .other .clean .clean).wf ∧ ¬ (Instr.scFill 16).wf ∧ ¬ (Instr.copyChainStart 4).wf
    ∧ ¬ (Instr.medCall 256).wf ∧ ¬ (Instr.enclaveCfgWrite .manager 16 0).wf ∧ ¬ (Instr.lockAcquire .manager 64).wf ∧ (Instr.scFill 15).wf := by decide
theorem test_wf_power : ¬ (Instr.domainUpDone 11).wf ∧ ¬ (Instr.pwrVoteWrite .manager 8 0).wf ∧ ¬ (Instr.stateRequest .manager 4).wf
    ∧ ¬ (Instr.wakeEvent 22).wf ∧ ¬ (Instr.i3c0Read 128 1).wf ∧ ¬ (Instr.wakeBlock 4).wf ∧ ¬ (Instr.linkDown 3 112 true).wf ∧ (Instr.wakeEvent 31).wf := by
  decide
theorem test_wf_map : ¬ (Instr.lpwAccess (2 ^ 30) 1 none).wf ∧ ¬ (Instr.postedWriteDone 1).wf ∧ ¬ (Instr.udcWrite 0x10000 15 0).wf
    ∧ ¬ (Instr.udcVsync 4).wf ∧ ¬ (Instr.udcHeadOff 16).wf ∧ ¬ (Instr.udcClkdiv 4).wf ∧ ¬ (Instr.udcChimeGo 4).wf ∧ ¬ (Instr.udcTchFifoRead 2).wf
    ∧ ¬ (Instr.debugPortAccess (.halt 5)).wf ∧ (Instr.postedWriteDone 0xD).wf := by decide

end Sys2Proof.Tests
end

section
/-!
SUPPORT. Fields and registers: what a field reads as after a write of itself and after a write of another register.
-/

namespace Sys2Proof.Machine

open Sys2Proof

/-! ### Fields -/

/-- The bits below 32 of a number, cut to 32 bits, are those of the number. -/
theorem bits_mod_word (v hi lo : Nat) (h : hi < 32) (hl : lo ≤ hi) : bits (v % 2 ^ 32) hi lo = bits v hi lo := by
  have split : (2 : Nat) ^ 32 = 2 ^ lo * 2 ^ (32 - lo) := by rw [← Nat.pow_add]; congr 1; omega
  unfold bits
  rw [Nat.shiftRight_eq_div_pow, Nat.shiftRight_eq_div_pow, split, Nat.mod_mul_right_div_self]
  exact Nat.mod_mod_of_dvd _ (Nat.pow_dvd_pow 2 (by omega))

/-- Bits that were replaced read as what replaced them, modulo their width. -/
theorem bits_putBits (v hi lo x : Nat) : bits (putBits v hi lo x) hi lo = x % 2 ^ (hi + 1 - lo) := by
  unfold putBits bits
  simp only [Nat.shiftRight_eq_div_pow, Nat.shiftLeft_eq]
  generalize 2 ^ (hi + 1 - lo) = n
  have above : v / 2 ^ lo = n * (v / 2 ^ lo / n) + v / 2 ^ lo % n := (Nat.div_add_mod _ _).symm
  have below : v = 2 ^ lo * (v / 2 ^ lo) + v % 2 ^ lo := (Nat.div_add_mod _ _).symm
  have rest : v - v / 2 ^ lo % n * 2 ^ lo = v % 2 ^ lo + 2 ^ lo * (n * (v / 2 ^ lo / n)) := by
    have : 2 ^ lo * (v / 2 ^ lo) = 2 ^ lo * (n * (v / 2 ^ lo / n)) + v / 2 ^ lo % n * 2 ^ lo := by
      rw [Nat.mul_comm (v / 2 ^ lo % n), ← Nat.mul_add, ← above]
    omega
  have low : v % 2 ^ lo / 2 ^ lo = 0 := Nat.div_eq_of_lt (Nat.mod_lt _ (Nat.two_pow_pos lo))
  rw [rest, Nat.add_mul_div_right _ _ (Nat.two_pow_pos lo), Nat.add_mul_div_left _ _ (Nat.two_pow_pos lo), low, Nat.zero_add,
    Nat.mul_add_mod, Nat.mod_mod]

/-- A field within a register. -/
abbrev Fld.fits (f : Fld) : Prop := f.lo ≤ f.hi ∧ f.hi < 32

/-- A field reads what was written, modulo its width. -/
theorem Device.rd_wr_same (d : Device) (f : Fld) (v : Nat) (h : f.fits) : (d.wr f v).rd f = v % 2 ^ (f.hi + 1 - f.lo) := by
  unfold Device.rd Device.wr wbits w32
  rw [Device.reg_setReg_same, BitVec.toNat_ofNat, bits_mod_word _ _ _ h.2 h.1, bits_putBits]

/-- A register keeps its value when a field of another one is written. -/
theorem Device.reg_wr_other (d : Device) (f : Fld) (v a : Nat) (h : f.addr ≠ a) : (d.wr f v).reg a = d.reg a :=
  Device.reg_setReg_other d f.addr a _ h

/-- A field keeps its value when a field of another register is written. -/
theorem Device.rd_wr_other (d : Device) (f g : Fld) (v : Nat) (h : g.addr ≠ f.addr) : (d.wr g v).rd f = d.rd f := by
  unfold Device.rd; rw [Device.reg_wr_other d g v f.addr h]

/-- A flag that was set reads as set. -/
theorem Device.on_wr_one (d : Device) (f : Fld) (h : f.fits) : (d.wr f 1).on f = true := by
  have wide : 1 % 2 ^ (f.hi + 1 - f.lo) = 1 := Nat.mod_eq_of_lt (Nat.one_lt_two_pow (by have := h.1; omega))
  unfold Device.on
  rw [Device.rd_wr_same d f 1 h, wide]; rfl

/-- An output changes no flag. -/
theorem Device.on_emit (d : Device) (o : Out) (f : Fld) : (d.emit o).on f = d.on f := rfl

/-- A counting field of its own width saturates. -/
theorem Device.rd_bump (d : Device) (f : Fld) (h : f.fits) : (d.bump f).rd f = min f.max (d.rd f + 1) := by
  have sat : satAt f.max (d.rd f + 1) = min f.max (d.rd f + 1) := by unfold satAt; split <;> omega
  have below : min f.max (d.rd f + 1) < 2 ^ (f.hi + 1 - f.lo) := by
    have := Nat.two_pow_pos (f.hi + 1 - f.lo)
    unfold Fld.max; omega
  unfold Device.bump
  rw [Device.rd_wr_same d f _ h, sat, Nat.mod_eq_of_lt below]

/-- Only registers differ after a field is written. -/
theorem OnlyRegs.wr (d : Device) (f : Fld) (v : Nat) : OnlyRegs d (d.wr f v) := rfl

end Sys2Proof.Machine

namespace Sys2Proof.Claims

open Sys2Proof Sys2Proof.Machine

/-- A command whose effect on the device that it finds is known leaves that device. -/
theorem becomes_of_onDev {i : Instr} {s : State} {d : Device} (f : Device → Device) (hi : exec i s = onDev s f) (h : f (found s) = d) :
    Becomes i s d := by
  subst h; exact hi

/-- A command whose condition is met has its effect. -/
theorem becomes_of_when {i : Instr} {s : State} {d : Device} {c : Device → Bool} (f : Device → Device)
    (hi : exec i s = onDev s (fun d => d.when (c d) f)) (hc : c (found s) = true) (h : f (found s) = d) : Becomes i s d :=
  becomes_of_onDev _ hi (by rw [hc]; exact h)

/-- A flag that a command sets and nothing else. -/
theorem setsOnly_wr (s : State) (f : Fld) (h : f.fits) : SetsOnly s ((found s).wr f 1) f := by
  refine ⟨Device.on_wr_one _ f h, rfl, fun a ha => ?_⟩
  rw [List.mem_singleton] at ha
  exact Device.reg_wr_other (found s) f 1 a (Ne.symm ha)

end Sys2Proof.Claims
end

section
/-!
SUPPORT. The register interface for the manager: a write of GLB_RST and of its twin (R417, R418), and BAR4 (R424).
-/

namespace Sys2Proof.Machine

open Sys2Proof

/-! ### Writes of the manager -/

/-- A dword write of the manager that reaches the register interface of a device that runs is served at once (R410, R476). -/
theorem Device.hostWrite_manager (d : Device) (a be : Nat) (v : Word) (ha : a < 0x4000000) (h4 : a % 4 = 0) (hbe : be % 16 = 15)
    (hr : d.reaches a = true) (hs : d.asleep = false) : d.hostWrite .manager a be v = d.regWrite .manager a v := by
  have hr' := hr
  simp only [Device.reaches, Bool.and_eq_true, bne_iff_ne, ne_eq] at hr'
  obtain ⟨⟨hup, hphase⟩, -⟩ := hr'
  have aligned : a / 4 * 4 = a := by omega
  simp [Device.hostWrite, Device.reachesFor, Device.tlp, Device.funcWrite, hup, hphase, hbe, hr, hs, aligned, Nat.not_le.mpr ha]

/-- The compute die of a device that a host access reaches is there. -/
theorem Device.lostCompute_of_reaches {d : Device} {a : Nat} (h : d.reaches a = true) : d.flt.lostCompute = false := by
  simp only [Device.reaches, Device.hostUp, Bool.and_eq_true, Bool.not_eq_true'] at h
  exact h.1.1.1

/-- GLB_RST and its twin are no posted registers, and the manager may write them. -/
theorem Device.regWrite_guarded (d : Device) (a : Nat) (v : Word) (ha : a = Reg.GLB_RST ∨ a = Reg.GLB_RST_G)
    (h : d.flt.lostCompute = false) : d.regWrite .manager a v = d.regEffect .manager a v := by
  have base : aliasBase a = a := by rcases ha with rfl | rfl <;> rfl
  have page : aliasPage a = 0 := by rcases ha with rfl | rfl <;> rfl
  have block : postedOf a = none := by rcases ha with rfl | rfl <;> rfl
  have there : regExists a = true := by rcases ha with rfl | rfl <;> decide
  have mail : a ≠ Reg.CSQ_MAIL 0 := by rcases ha with rfl | rfl <;> decide
  have window : (inImem a || inSeedWin a) = false := by rcases ha with rfl | rfl <;> decide
  have global : a / 0x100000 = 0 ∧ a < Reg.GLB_BOOT_IMG_LO := by rcases ha with rfl | rfl <;> decide
  have may : d.mayWrite .manager a = true := by
    simp [Device.mayWrite, h, global.1, Nat.not_le.mpr global.2, isMan]
  have served : d.regWrite .manager a v = d.perform .manager a v := by simp [Device.regWrite, block]
  rw [served]
  simp [Device.perform, base, page, there, mail, window, may]

/-- A write of GLB_RST opens a sequence (R417). -/
theorem Device.regWrite_rst (d : Device) (v : Word) (h : d.flt.lostCompute = false) :
    d.regWrite .manager Reg.GLB_RST v = d.guardOpen .manager Reg.GLB_RST v := d.regWrite_guarded _ v (.inl rfl) h

/-- A write of the twin reaches the open sequence (R417). -/
theorem Device.regWrite_twin (d : Device) (v : Word) (h : d.flt.lostCompute = false) :
    d.regWrite .manager Reg.GLB_RST_G v = d.guardTwin .manager Reg.GLB_RST v := d.regWrite_guarded _ v (.inr rfl) h

/-! ### Guarded sequences -/

/-- The device with one more open sequence. -/
def Device.opened (d : Device) (g : Guarded) : Device := { d with guards := d.guards ++ [g] }

/-- Without an open sequence of its register, a guarded write opens one. -/
theorem Device.guardOpen_free (d : Device) (ag : Agent) (a : Nat) (v : Word) (h : d.guards.find? (fun g => g.addr == a) = none) :
    d.guardOpen ag a v = d.opened { agent := ag, addr := a, value := v } := by
  simp [Device.guardOpen, Device.opened, h]

/-- Without an open sequence of its register, a write of the twin aborts. -/
theorem Device.guardTwin_free (d : Device) (ag : Agent) (a : Nat) (v : Word) (h : d.guards.find? (fun g => g.addr == a) = none) :
    d.guardTwin ag a v = d.wr Reg.GLB_STATUS_guard_abort 1 := by
  simp [Device.guardTwin, h]

/-- The twin by the agent that has just opened the sequence closes it: the complement commits, and anything else aborts. -/
theorem Device.guardTwin_opened (d : Device) (ag : Agent) (a : Nat) (v w : Word)
    (h : d.guards.find? (fun g => g.addr == a) = none) :
    (d.opened { agent := ag, addr := a, value := v }).guardTwin ag a w =
      if w = ~~~v then d.commitRst (agentSecure ag) v.toNat else d.wr Reg.GLB_STATUS_guard_abort 1 := by
  have others : d.guards.filter (fun x => x.addr != a) = d.guards := by
    rw [List.filter_eq_self]
    intro g hg
    simpa using List.find?_eq_none.mp h g hg
  have first : (d.opened { agent := ag, addr := a, value := v }).guards.find? (fun g => g.addr == a)
      = some { agent := ag, addr := a, value := v } := by
    simp [Device.opened, List.find?_append, h]
  unfold Device.guardTwin
  rw [first]
  simp [Device.opened, List.filter_append, others]

/-! ### Accesses through BAR4 -/

/-- A wake source changes neither the accesses that wait, nor a memory, nor what is shown. -/
theorem Device.wakeSource_frame (d : Device) (src : Nat) :
    (d.wakeSource src).pwr.heldTlp = d.pwr.heldTlp ∧ (d.wakeSource src).mems = d.mems ∧ (d.wakeSource src).out = d.out := by
  unfold Device.wakeSource
  dsimp only
  split
  · exact ⟨rfl, rfl, rfl⟩
  · split
    · exact ⟨rfl, rfl, rfl⟩
    · split
      · exact ⟨by rw [Device.wr_pwr], Device.wr_mems _ _ _, Device.wr_out _ _ _⟩
      · exact ⟨rfl, rfl, rfl⟩

/-- A slice whose window is not enabled is no window. -/
theorem Device.inWindow_of_off {d : Device} {o : Nat} (h : d.on (Reg.WFT_WIN_CFG_enable (o / 2 ^ 26)) = false) :
    d.inWindow o = false := by
  rw [Device.inWindow, h, Bool.and_false, Bool.false_and]

/-- A read beyond the capacity answers all ones and shows it (R424). -/
theorem Device.lpwAt_read_beyond (d : Device) (pa n : Nat) (h : d.capacity ≤ pa) :
    d.lpwAt pa n none = (d.wr Reg.GLB_STATUS_lpw_range 1).emit (.bytes (List.replicate n 0xFF#8)) := if_pos h

/-- A write beyond the capacity changes nothing and shows it (R424). -/
theorem Device.lpwAt_write_beyond (d : Device) (pa n : Nat) (bs : List Byte) (h : d.capacity ≤ pa) :
    d.lpwAt pa n (some bs) = d.wr Reg.GLB_STATUS_lpw_range 1 := if_pos h

/-- A read within the capacity shows its bytes. -/
theorem Device.lpwAt_read {d d1 : Device} {pa n : Nat} {bs : List Byte} (h : pa < d.capacity)
    (hr : d.read .phys 8 pa n = (.ok bs, d1)) : d.lpwAt pa n none = d1.emit (.bytes bs) := by
  simp [Device.lpwAt, Nat.not_le.mpr h, hr]

/-- A write within the capacity is a write of LP5X. -/
theorem Device.lpwAt_write {d d1 : Device} {pa n : Nat} {bs : List Byte} {r : Except MemErr Unit} (h : pa < d.capacity)
    (hw : d.write .phys 8 pa bs = (r, d1)) : d.lpwAt pa n (some bs) = d1 := by
  simp [Device.lpwAt, Nat.not_le.mpr h, hw]

end Sys2Proof.Machine

namespace Sys2Proof.Claims

open Sys2Proof Sys2Proof.Machine

/-! ### Guarded writes of GLB_RST -/

/-- A host write of the manager at GLB_RST, or at its twin, is served at once. -/
theorem hostWrite_guarded {d : Device} {a : Nat} (be : Nat) (v : Word) (ha : a = Reg.GLB_RST ∨ a = Reg.GLB_RST_G) (hbe : be % 16 = 15)
    (hr : d.reaches Reg.GLB_RST = true) (hs : d.asleep = false) : d.hostWrite .manager a be v = d.regWrite .manager a v := by
  have place : a < 0x4000000 ∧ a % 4 = 0 := by rcases ha with rfl | rfl <;> decide
  have reach : d.reaches a = true := by rcases ha with rfl | rfl <;> exact hr
  exact d.hostWrite_manager a be v place.1 place.2 hbe reach hs

section

variable {s : State} (hr : Reaches s Reg.GLB_RST) (hg : s.dev.guards.find? (fun g => g.addr == Reg.GLB_RST) = none) (v w : Word)
include hr

/-- What the manager's writes of GLB_RST find: a device that they reach, which does not sleep and has its compute die. -/
theorem found_of_reaches :
    (found s).reaches Reg.GLB_RST = true ∧ (found s).asleep = false ∧ (found s).flt.lostCompute = false := by
  obtain ⟨-, -, reach, hstate, htarget⟩ := hr
  have state : (found s).rd Reg.PWR_STATE_state = 0 := hstate
  have target : (found s).pwr.target = none := htarget
  exact ⟨reach, by simp [Device.asleep, state, target], Device.lostCompute_of_reaches reach⟩

include hg

/-- The first write of a guarded sequence. -/
theorem hostWrite_opens (be : Nat) (hbe : be % 16 = 15) : (found s).hostWrite .manager Reg.GLB_RST be v =
    (found s).opened { agent := .manager, addr := Reg.GLB_RST, value := v } := by
  obtain ⟨reach, awake, die⟩ := found_of_reaches hr
  rw [hostWrite_guarded be v (.inl rfl) hbe reach awake, Device.regWrite_rst _ _ die]
  exact (found s).guardOpen_free _ _ _ hg

/-- An access of 8 bytes: the complement commits, and anything else aborts. -/
theorem hostWrites_pair : (found s).hostWrites .manager Reg.GLB_RST 0xFF [v, w] =
    if w = ~~~v then (found s).commitRst false v.toNat else (found s).wr Reg.GLB_STATUS_guard_abort 1 := by
  obtain ⟨reach, awake, die⟩ := found_of_reaches hr
  have second (d : Device) : d.hostWrites .manager (Reg.GLB_RST + 4) (0xFF / 16) [w] = d.hostWrite .manager Reg.GLB_RST_G 0xF w := rfl
  have twin (g : Guarded) : ((found s).opened g).hostWrite .manager Reg.GLB_RST_G 0xF w
      = ((found s).opened g).guardTwin .manager Reg.GLB_RST w := by
    have served := hostWrite_guarded (d := (found s).opened g) 0xF w (.inr rfl) rfl reach awake
    rw [served]
    exact ((found s).opened g).regWrite_twin w die
  rw [Device.hostWrites, hostWrite_opens hr hg v _ rfl, second, twin]
  exact (found s).guardTwin_opened .manager Reg.GLB_RST v w hg

/-- A write of the twin alone. -/
theorem hostWrite_twin_alone : (found s).hostWrite .manager Reg.GLB_RST_G 15 v = (found s).wr Reg.GLB_STATUS_guard_abort 1 := by
  obtain ⟨reach, awake, die⟩ := found_of_reaches hr
  rw [hostWrite_guarded 15 v (.inr rfl) rfl reach awake, Device.regWrite_twin _ _ die]
  exact (found s).guardTwin_free _ _ _ hg

/-- A write of GLB_RST by the manager that reaches it opens a sequence. -/
theorem guardedWrite_opens : Becomes (.guardedWrite .manager v none) s
    ((found s).opened { agent := .manager, addr := Reg.GLB_RST, value := v }) :=
  becomes_of_onDev (fun d => d.hostWrites .manager Reg.GLB_RST 0xFF [v]) rfl (hostWrite_opens hr hg v 0xFF rfl)

/-- A write of GLB_RST and of its twin at once. -/
theorem guardedWrite_pair : Becomes (.guardedWrite .manager v (some w)) s
    (if w = ~~~v then (found s).commitRst false v.toNat else (found s).wr Reg.GLB_STATUS_guard_abort 1) :=
  becomes_of_onDev (fun d => d.hostWrites .manager Reg.GLB_RST 0xFF [v, w]) rfl (hostWrites_pair hr hg v w)

/-- A write of the twin without an open sequence. -/
theorem guardTwinWrite_alone : Becomes (.guardTwinWrite .manager v) s ((found s).wr Reg.GLB_STATUS_guard_abort 1) :=
  becomes_of_onDev (fun d => d.hostWrite .manager Reg.GLB_RST_G 15 v) rfl (hostWrite_twin_alone hr hg v)

end

/-- A timeout discards the oldest open sequence (R418; the model's choice, log entry 97). -/
theorem guardTimeout_becomes {s : State} (h : s.dev.guards ≠ []) : Becomes .guardTimeout s
    (Device.wr { s.dev with out := [], guards := s.dev.guards.drop 1 } Reg.GLB_STATUS_guard_abort 1) :=
  becomes_of_when (c := fun d => !d.guards.isEmpty) _ rfl (by simpa [found] using h) rfl

/-! ### BAR4 -/

section

variable {s : State} {o : Nat} (hup : s.dev.lpwUp = true) (ho : o < 2 ^ 30) (n : Nat) (data : Option (List Byte))
include hup ho

/-- An access through BAR4 outside the windows reaches LP5X, or waits. -/
theorem lpwAccess_becomes (hw : s.dev.inWindow o = false) : Becomes (.lpwAccess o n data) s
    ((found s).tlp (.bar4 o n data) (fun d => d.lpwAt (d.rd Reg.GLB_LPW_BASE_base * 2 ^ 30 + o) n data)) := by
  have up : (found s).lpwUp = true := hup
  have window : (found s).inWindow o = false := hw
  refine becomes_of_when (c := fun d => d.lpwUp && decide (o < 2 ^ 30) && !d.inWindow o) _ rfl ?_ rfl
  rw [up, window, decide_eq_true ho]
  rfl

/-- An access through BAR4 to a device that sleeps waits. -/
theorem lpwAccess_waits (hw : s.dev.inWindow o = false) (hs : s.dev.asleep = true) : Becomes (.lpwAccess o n data) s
    (Device.wakeSource { found s with pwr := { (found s).pwr with heldTlp := (found s).pwr.heldTlp ++ [.bar4 o n data] } } 17) := by
  have asleep : (found s).asleep = true := hs
  have waits := lpwAccess_becomes hup ho n data hw
  rwa [Device.tlp, if_pos asleep] at waits

/-- An access through BAR4 to a device that does not sleep, in a slice without a window, is served in LP5X. -/
theorem lpwAccess_served (hoff : s.dev.on (Reg.WFT_WIN_CFG_enable (o / 2 ^ 26)) = false) (hs : s.dev.asleep = false) :
    Becomes (.lpwAccess o n data) s ((found s).lpwAt (s.dev.rd Reg.GLB_LPW_BASE_base * 2 ^ 30 + o) n data) := by
  have awake : ¬ (found s).asleep = true := by rw [show (found s).asleep = false from hs]; exact Bool.false_ne_true
  have served := lpwAccess_becomes hup ho n data (Device.inWindow_of_off hoff)
  rwa [Device.tlp, if_neg awake] at served

end

/-- Settles O42: each clause from the lemma on the operation that it names. -/
theorem guardedAndWindowed : Obligations.GuardedAndWindowed := by
  unfold Obligations.GuardedAndWindowed
  intro s
  have abort : Reg.GLB_STATUS_guard_abort.fits := by decide
  have range : Reg.GLB_STATUS_lpw_range.fits := by decide
  refine ⟨fun hr hg v => ⟨?_, ?_, fun w hne => ?_, ?_⟩, fun hg => ?_, fun o n data hup ho hw hs => ?_,
    fun o n hup ho hoff hs => ⟨fun hpa => ⟨?_, fun bs => ?_⟩, fun hpa bs d1 hread => ?_, fun hpa bs d1 hwrite => ?_⟩⟩
  · exact ⟨_, guardedWrite_opens hr hg v, rfl, rfl, rfl⟩
  · have commits := guardedWrite_pair hr hg v (~~~v)
    rwa [if_pos rfl] at commits
  · have aborts := guardedWrite_pair hr hg v w
    rw [if_neg hne] at aborts
    exact ⟨_, aborts, setsOnly_wr s _ abort⟩
  · exact ⟨_, guardTwinWrite_alone hr hg v, setsOnly_wr s _ abort⟩
  · exact ⟨_, guardTimeout_becomes hg, rfl, Device.on_wr_one _ _ abort, rfl⟩
  · exact ⟨_, lpwAccess_waits hup ho n data hw hs, Device.wakeSource_frame _ _⟩
  · have shown := lpwAccess_served hup ho n none hoff hs
    rw [(found s).lpwAt_read_beyond _ _ hpa] at shown
    exact ⟨_, shown, rfl, (Device.on_emit _ _ _).trans ((found s).on_wr_one _ range), rfl⟩
  · have shown := lpwAccess_served hup ho n (some bs) hoff hs
    rw [(found s).lpwAt_write_beyond _ _ _ hpa] at shown
    exact ⟨_, shown, setsOnly_wr s _ range⟩
  · have shown := lpwAccess_served hup ho n none hoff hs
    rwa [Device.lpwAt_read (d := found s) hpa hread] at shown
  · have shown := lpwAccess_served hup ho n (some bs) hoff hs
    rwa [Device.lpwAt_write (d := found s) hpa hwrite] at shown

end Sys2Proof.Claims
end

section

namespace Sys2Proof.Claims

open Sys2Proof Sys2Proof.Machine

/-! ### Training without the compute die (O51) -/

/-- A D8 in phase TRAIN. -/
def inTraining : State := { dev := Device.reset.wr Reg.GLB_BOOT_phase 2, pending := [] }

/-- The same D8 after the loss of its compute die (R361). -/
def lostInTraining : State :=
  { inTraining with dev := inTraining.dev.loseCompute.logNow (fault 0x12 1 0x200000 0) }

/-- A training in which no channel fails. -/
def cleanTraining : Training :=
  { size := 16, devices := [], rate := 9600, temp := 25, rfm := none, patternBad := [], failed := [], results := [] }

/-- `DIE_HEARTBEAT_LOST` makes the one of the other. -/
theorem dieHeartbeatLost_inTraining : exec (.dieHeartbeatLost .compute) inTraining = .next lostInTraining := rfl

/-- The loss leaves phase TRAIN to go on. -/
theorem lostInTraining_phase : lostInTraining.dev.phase = 2 := by decide +kernel

/-- LP5X serves nothing without the compute die, so start-up stops, though every channel trains. -/
theorem trainingDone_lostInTraining :
    ∃ d, exec (.trainingDone cleanTraining) lostInTraining = .next { lostInTraining with dev := d } ∧ d.phase = 0xF :=
  ⟨_, rfl, by decide +kernel⟩

/-- Refutes O51: its clause on TRAINING_DONE takes phase TRAIN and no failed channel for the whole condition of phase IMAGE. When the compute
die is lost during training (R13, R361), LP5X serves nothing, and the phase becomes STOPPED (0xF). -/
theorem not_startUp : ¬ Obligations.StartUp := by
  unfold Obligations.StartUp
  intro h
  obtain ⟨-, -, -, -, -, -, -, -, -, -, -, -, training, -⟩ := h lostInTraining
  obtain ⟨d, hd, hphase, -⟩ := (training cleanTraining lostInTraining_phase).1 rfl
  obtain ⟨e, he, hstopped⟩ := trainingDone_lostInTraining
  have same : d = e := by
    rw [hd] at he
    injection he with he
    exact congrArg State.dev he
  rw [same, hstopped] at hphase
  exact absurd hphase (by decide)

end Sys2Proof.Claims
end

section
/-!
SUPPORT. What the parts of a beat edge leave of the beat's own state: most leave all of it.
-/

namespace Sys2Proof.Machine

open Sys2Proof

/-! ### The mark of the beat -/

/-- The beat's own state but for the time within the beat. It is a function of its own rather than a projection, so that the kernel
compares the devices of two marks before it evaluates them. -/
def Device.mark (d : Device) : Beat := { d.beat with stick := 0, clock := 0 }

theorem Device.mark_of_beat {d e : Device} (h : e.beat = d.beat) : e.mark = d.mark := by
  unfold Device.mark; rw [h]

theorem Device.started_of_mark {d e : Device} (h : e.mark = d.mark) : e.beat.started = d.beat.started := by
  simpa only [Device.mark] using congrArg Beat.started h

theorem Device.sbeat_of_mark {d e : Device} (h : e.mark = d.mark) : e.beat.sbeat = d.beat.sbeat := by
  simpa only [Device.mark] using congrArg Beat.sbeat h

theorem Device.grants_of_mark {d e : Device} (h : e.mark = d.mark) : e.beat.grants = d.beat.grants := by
  simpa only [Device.mark] using congrArg Beat.grants h

/-- A pass over a list whose steps leave the beat leaves it. -/
theorem Device.foldl_mark {α : Type} (f : Device → α → Device) (hf : ∀ d x, (f d x).mark = d.mark) (l : List α) (d : Device) :
    (l.foldl f d).mark = d.mark := by
  induction l generalizing d with
  | nil => rfl
  | cons x l ih => rw [List.foldl_cons, ih, hf]

/-- The same for a pass that gathers results beside the device. -/
theorem Device.mark_of_foldl {α β : Type} {f : β × Device → α → β × Device} {l : List α} {p : β × Device} {x : β} {e : Device}
    (h : l.foldl f p = (x, e)) (hf : ∀ p x, (f p x).2.mark = p.2.mark) : e.mark = p.2.mark := by
  have all (l : List α) (p : β × Device) : (l.foldl f p).2.mark = p.2.mark := by
    induction l generalizing p with
    | nil => rfl
    | cons x l ih => rw [List.foldl_cons, ih, hf]
  rw [← all l p, h]

theorem Device.ite_mark {c : Prop} [Decidable c] {a b d : Device} (ha : a.mark = d.mark) (hb : b.mark = d.mark) :
    (if c then a else b).mark = d.mark := by
  split
  · exact ha
  · exact hb

/-- The device of a result, once the result is known as a pair. -/
theorem Device.mark_of_eq {α : Type} {p : α × Device} {x : α} {d e : Device} (h : p.2.mark = d.mark) (hp : p = (x, e)) :
    e.mark = d.mark := by
  rw [hp] at h; exact h

/-! ### Parts beside the beat -/

theorem Device.with_mems_mark (d : Device) (x : Mems) : ({ d with mems := x } : Device).mark = d.mark :=
  Device.mark_of_beat rfl

theorem Device.with_guards_mark (d : Device) (x : List Guarded) : ({ d with guards := x } : Device).mark = d.mark :=
  Device.mark_of_beat rfl

theorem Device.with_flt_mark (d : Device) (x : Flt) : ({ d with flt := x } : Device).mark = d.mark :=
  Device.mark_of_beat rfl

theorem Device.with_q_mark (d : Device) (x : Queues) : ({ d with q := x } : Device).mark = d.mark :=
  Device.mark_of_beat rfl

theorem Device.with_ras_mark (d : Device) (x : Ras) : ({ d with ras := x } : Device).mark = d.mark :=
  Device.mark_of_beat rfl

theorem Device.with_seed_mark (d : Device) (x : Seed) : ({ d with seed := x } : Device).mark = d.mark :=
  Device.mark_of_beat rfl

theorem Device.with_pwr_mark (d : Device) (x : Power) : ({ d with pwr := x } : Device).mark = d.mark :=
  Device.mark_of_beat rfl

theorem Device.with_aud_mark (d : Device) (x : Aud) : ({ d with aud := x } : Device).mark = d.mark :=
  Device.mark_of_beat rfl

theorem Device.with_udc_mark (d : Device) (x : Udc) : ({ d with udc := x } : Device).mark = d.mark :=
  Device.mark_of_beat rfl

theorem Device.with_draws_mark (d : Device) (x : Nat) : ({ d with draws := x } : Device).mark = d.mark :=
  Device.mark_of_beat rfl

/-! ### Single updates -/

theorem Device.emit_mark (d : Device) (o : Out) : (d.emit o).mark = d.mark :=
  Device.mark_of_beat (Device.emit_beat d o)

theorem Device.setReg_mark (d : Device) (a : Nat) (w : Word) : (d.setReg a w).mark = d.mark :=
  Device.mark_of_beat (Device.setReg_beat d a w)

theorem Device.applyShadow_mark (d : Device) (a : Nat) : (d.applyShadow a).mark = d.mark :=
  Device.mark_of_beat (Device.applyShadow_beat d a)

theorem Device.wr_mark (d : Device) (f : Fld) (v : Nat) : (d.wr f v).mark = d.mark :=
  Device.mark_of_beat (Device.wr_beat d f v)

theorem Device.bump_mark (d : Device) (f : Fld) : (d.bump f).mark = d.mark :=
  Device.mark_of_beat (Device.bump_beat d f)

theorem Device.bumpBy_mark (d : Device) (f : Fld) (n : Nat) : (d.bumpBy f n).mark = d.mark :=
  Device.mark_of_beat (Device.bumpBy_beat d f n)

theorem Device.count_mark (d : Device) (f : Fld) : (d.count f).mark = d.mark :=
  Device.mark_of_beat (Device.count_beat d f)

theorem Device.setSeq_mark (d : Device) (q : Nat) (x : Seq) : (d.setSeq q x).mark = d.mark :=
  Device.mark_of_beat (Device.setSeq_beat d q x)

theorem Device.modSeq_mark (d : Device) (q : Nat) (f : Seq → Seq) : (d.modSeq q f).mark = d.mark :=
  Device.mark_of_beat (Device.modSeq_beat d q f)

theorem Device.event_mark (d : Device) (q b : Nat) : (d.event q b).mark = d.mark :=
  Device.mark_of_beat (Device.event_beat d q b)

theorem Device.modInst_mark (d : Device) (i : Nat) (f : Inst → Inst) : (d.modInst i f).mark = d.mark :=
  Device.mark_of_beat (Device.modInst_beat d i f)

theorem Device.signal_mark (d : Device) (i v : Nat) : (d.signal i v).mark = d.mark :=
  Device.mark_of_beat (Device.signal_beat d i v)

theorem Device.setScSet_mark (d : Device) (k : Nat) (ls : List ScLine) : (d.setScSet k ls).mark = d.mark :=
  Device.mark_of_beat rfl

theorem Device.ctlPush_mark (d : Device) (input : Nat) (u w : Bool) (pa n : Nat) : (d.ctlPush input u w pa n).mark = d.mark :=
  Device.mark_of_beat rfl

theorem Device.l2DropClean_mark (d : Device) (c : Nat) : (d.l2DropClean c).mark = d.mark :=
  Device.mark_of_beat rfl

theorem Device.l1Drop_mark (d : Device) (c k : Nat) : (d.l1Drop c k).mark = d.mark :=
  Device.mark_of_beat rfl

theorem Device.modItem_mark (d : Device) (u : Nat) (f : Item → Item) : (d.modItem u f).mark = d.mark :=
  Device.mark_of_beat rfl

theorem Device.modRun_mark (d : Device) (u : Nat) (f : Run → Run) : (d.modRun u f).mark = d.mark :=
  Device.mark_of_beat rfl

theorem Device.modFront_mark (d : Device) (n : Nat) (f : Front → Front) : (d.modFront n f).mark = d.mark :=
  Device.mark_of_beat rfl

theorem Device.modHap_mark (d : Device) (n : Nat) (f : Hap → Hap) : (d.modHap n f).mark = d.mark :=
  Device.mark_of_beat rfl

theorem Device.modHead_mark (d : Device) (h : Nat) (f : Head → Head) : (d.modHead h f).mark = d.mark :=
  Device.mark_of_beat rfl

theorem Device.modCmp_mark (d : Device) (c : Nat) (f : Cmp → Cmp) : (d.modCmp c f).mark = d.mark :=
  Device.mark_of_beat rfl

theorem Device.mramWrite_mark (d : Device) (o : Nat) (bs : List Byte) : (d.mramWrite o bs).mark = d.mark :=
  Device.mark_of_beat rfl

theorem Device.setGen_mark (d : Device) (n : Nat) (g : Option Gen) : (d.setGen n g).mark = d.mark :=
  Device.mark_of_beat rfl

/-! ### Registers and faults -/

theorem Device.setHoldover_mark (d : Device) (on : Bool) : (d.setHoldover on).mark = d.mark := by
  unfold Device.setHoldover; simp only [Device.wr_mark]

theorem Device.showBusy_mark (d : Device) : d.showBusy.mark = d.mark :=
  Device.foldl_mark _ (fun _ _ => Device.wr_mark _ _ _) _ _

theorem Device.raise_mark (d : Device) (r : FaultRec) : (d.raise r).mark = d.mark := by
  unfold Device.raise; exact Device.bump_mark _ _

theorem Device.violate_mark (d : Device) (i : Option Nat) (pa : Nat) : (d.violate i pa).mark = d.mark := by
  unfold Device.violate; rw [Device.raise_mark]; exact Device.wr_mark _ _ _

theorem Device.dropGuards_mark (d : Device) (ag : Agent) : (d.dropGuards ag).mark = d.mark := by
  unfold Device.dropGuards
  split
  · rw [Device.wr_mark, Device.with_guards_mark]
  · rfl

theorem Device.abandonLock_mark (d : Device) (k : Nat) : (d.abandonLock k).mark = d.mark := by
  unfold Device.abandonLock
  split
  · rw [Device.dropGuards_mark, Device.count_mark, Device.wr_mark, Device.wr_mark, Device.wr_mark]
  · rfl

theorem Device.abandonLocks_mark (d : Device) (c : Nat) : (d.abandonLocks c).mark = d.mark := by
  refine Device.foldl_mark _ (fun d k => ?_) _ _
  split <;> simp only [Device.abandonLock_mark]

/-! ### Memory -/

theorem Device.scTouch_mark (d : Device) (input : Nat) (w : Bool) (pa n : Nat) (u : Bool) :
    (d.scTouch input w pa n u).mark = d.mark := by
  have leaves := And.intro Device.count_mark (And.intro Device.ctlPush_mark Device.setScSet_mark)
  unfold Device.scTouch
  dsimp only
  split
  · simp only [leaves]
  · split
    · split <;> simp only [leaves]
    · split
      · simp only [leaves]
      · split <;> split <;> simp only [leaves]

theorem Device.scSpan_mark (d : Device) (input : Nat) (w : Bool) (pa n : Nat) (u : Bool) :
    (d.scSpan input w pa n u).mark = d.mark :=
  Device.foldl_mark _ (fun _ _ => Device.scTouch_mark _ _ _ _ _ _) _ _

theorem Device.walkPass_mark (d : Device) (i va : Nat) : (d.walkPass i va).mark = d.mark :=
  Device.foldl_mark _ (fun _ _ => Device.scSpan_mark _ _ _ _ _ _) _ _

theorem Device.entry_mark (d : Device) (i va : Nat) : (d.entry i va).2.mark = d.mark := by
  unfold Device.entry
  split
  · rfl
  · split
    · rfl
    · split
      · exact (Device.with_mems_mark _ _).trans (Device.walkPass_mark _ _ _)
      · rw [Device.violate_mark, Device.walkPass_mark]
      · exact Device.walkPass_mark _ _ _

theorem Device.normalPhys_mark (d : Device) (i : Option Nat) (pa : Nat) : (d.normalPhys i pa).2.mark = d.mark := by
  unfold Device.normalPhys
  split
  · rfl
  · split <;> simp only [Device.violate_mark]

theorem Device.target_mark (d : Device) (sp : Space) (w : Bool) (a : Nat) : (d.target sp w a).2.mark = d.mark := by
  unfold Device.target
  split
  case h_1 i =>
    split
    · exact Device.mark_of_eq (d.entry_mark i a) ‹_›
    · next e d1 he =>
      have h1 := Device.mark_of_eq (d.entry_mark i a) he
      split
      · exact h1
      · dsimp only
        split
        · split <;> exact h1
        · rw [Device.normalPhys_mark]; exact h1
  case h_2 => split <;> rfl
  case h_3 => rfl
  case h_4 => exact Device.normalPhys_mark _ _ _
  case h_5 =>
    split
    · exact Device.normalPhys_mark _ _ _
    · rfl

theorem Device.readAt_mark (d : Device) (input : Nat) (t : Target) (n : Nat) (who : Option (Nat × Nat)) (u : Bool) :
    (d.readAt input t n who u).2.mark = d.mark := by
  unfold Device.readAt
  split
  · split <;> simp only [Device.raise_mark]
  · split
    · simp only [Device.raise_mark]
    · split <;> simp only [Device.raise_mark, Device.scSpan_mark]

theorem Device.readSpans_mark (d : Device) (sp : Space) (input : Nat) (l : List (Nat × Nat)) :
    (d.readSpans sp input l).2.mark = d.mark := by
  induction l generalizing d with
  | nil => rfl
  | cons p l ih =>
    obtain ⟨a, n⟩ := p
    rw [Device.readSpans]
    split
    · exact Device.mark_of_eq (d.target_mark sp false a) ‹_›
    · next t d1 h1 =>
      replace h1 := Device.mark_of_eq (d.target_mark sp false a) h1
      split
      · next h2 => exact (Device.mark_of_eq (d1.readAt_mark input t n (spaceWho sp a) false) h2).trans h1
      · next bs d2 h2 =>
        replace h2 := (Device.mark_of_eq (d1.readAt_mark input t n (spaceWho sp a) false) h2).trans h1
        split
        · next h3 => exact (Device.mark_of_eq (ih d2) h3).trans h2
        · next h3 => exact (Device.mark_of_eq (ih d2) h3).trans h2

theorem Device.read_mark (d : Device) (sp : Space) (input a n : Nat) : (d.read sp input a n).2.mark = d.mark :=
  d.readSpans_mark sp input _

theorem Device.writeAt_mark (d : Device) (input : Nat) (t : Target) (bs : List Byte) (u : Bool) :
    (d.writeAt input t bs u).2.mark = d.mark := by
  unfold Device.writeAt
  split
  · split
    · exact Device.raise_mark _ _
    · exact Device.with_mems_mark _ _
  · split
    · rfl
    · exact (Device.with_mems_mark _ _).trans (Device.scSpan_mark _ _ _ _ _ _)

theorem Device.writeSpans_mark (d : Device) (sp : Space) (input : Nat) (bs : List Byte) (l : List (Nat × Nat)) :
    (d.writeSpans sp input bs l).2.mark = d.mark := by
  induction l generalizing d bs with
  | nil => rfl
  | cons p l ih =>
    obtain ⟨a, n⟩ := p
    rw [Device.writeSpans]
    split
    · exact Device.mark_of_eq (d.target_mark sp true a) ‹_›
    · next t d1 h1 =>
      replace h1 := Device.mark_of_eq (d.target_mark sp true a) h1
      split
      · next h2 => exact (Device.mark_of_eq (d1.writeAt_mark input t (bs.take n) false) h2).trans h1
      · next d2 h2 => exact (ih d2 _).trans ((Device.mark_of_eq (d1.writeAt_mark input t (bs.take n) false) h2).trans h1)

theorem Device.writeRaw_mark (d : Device) (sp : Space) (input a : Nat) (bs : List Byte) :
    (d.writeRaw sp input a bs).2.mark = d.mark :=
  d.writeSpans_mark sp input bs _

theorem Device.ringCons_mark (d : Device) (sp : Space) (input base k size : Nat) :
    (d.ringCons sp input base k size).2.mark = d.mark := by
  unfold Device.ringCons
  have h := d.read_mark sp input (base + 2 ^ k * size) 4
  split <;> exact Device.mark_of_eq h ‹_›

theorem Device.dlogAppend_mark (d : Device) (i va : Nat) : (d.dlogAppend i va).mark = d.mark := by
  unfold Device.dlogAppend
  dsimp only
  split
  · next h => exact (Device.wr_mark _ _ _).trans (Device.mark_of_eq (Device.ringCons_mark _ _ _ _ _ _) h)
  · next h =>
    replace h := Device.mark_of_eq (Device.ringCons_mark _ _ _ _ _ _) h
    split
    · exact (Device.wr_mark _ _ _).trans h
    · split <;> simp only [Device.signal_mark, Device.wr_mark, Device.writeRaw_mark, h]

theorem Device.dlogPage_mark (d : Device) (i va : Nat) : (d.dlogPage i va).mark = d.mark := by
  unfold Device.dlogPage
  split
  · rfl
  · split
    · rfl
    · split
      · rfl
      · rw [Device.dlogAppend_mark]; exact Device.scSpan_mark _ _ _ _ _ _

theorem Device.write_mark (d : Device) (sp : Space) (input a : Nat) (bs : List Byte) : (d.write sp input a bs).2.mark = d.mark := by
  unfold Device.write
  split
  · exact Device.mark_of_eq (d.writeRaw_mark sp input a bs) ‹_›
  · next d1 h =>
    replace h := Device.mark_of_eq (d.writeRaw_mark sp input a bs) h
    split
    · exact (Device.foldl_mark _ (fun _ _ => Device.dlogPage_mark _ _ _) _ _).trans h
    · exact h

/-! ### Queues and records -/

theorem Device.showEntries_mark (d : Device) (i : Nat) : (d.showEntries i).mark = d.mark := by
  rw [Device.showEntries, Device.wr_mark, Device.wr_mark]

theorem Device.showSlots_mark (d : Device) (c : Nat) : (d.showSlots c).mark = d.mark := by
  rw [Device.showSlots, Device.wr_mark]

theorem Device.signalHarvest_mark (d : Device) (i : Nat) : (d.signalHarvest i).mark = d.mark := by
  rw [Device.signalHarvest, Device.signal_mark, Device.with_q_mark]

theorem Device.countSignal_mark (d : Device) (i : Nat) : (d.countSignal i).mark = d.mark := by
  unfold Device.countSignal
  dsimp only
  split
  · exact Device.signalHarvest_mark _ _
  · rfl

theorem Device.noteRecord_mark (d : Device) (i : Nat) (irq : Bool) : (d.noteRecord i irq).mark = d.mark := by
  unfold Device.noteRecord
  exact Device.ite_mark (Device.signalHarvest_mark _ _) (Device.countSignal_mark _ _)

theorem recordWritten_mark (i p k a : Nat) (irq : Bool) (w : Except MemErr Unit × Device) :
    (recordWritten i p k a irq w).2.mark = w.2.mark := by
  unfold recordWritten
  split
  · dsimp only
    rw [Device.noteRecord_mark, Device.wr_mark]
  · dsimp only
    rw [Device.raise_mark, Device.wr_mark]

theorem Device.writeRecord_mark (d : Device) (i : Nat) (bytes : List Byte) (irq : Bool) :
    (d.writeRecord i bytes irq).2.mark = d.mark := by
  unfold Device.writeRecord
  exact (recordWritten_mark _ _ _ _ _ _).trans (Device.write_mark _ _ _ _ _)

/-- A recursion over a list leaves the beat when its base does, and its step does as often as the rest does. Where the kernel cannot
check the equations of a recursive function, its recursor is taken as it is. -/
theorem brecOn_mark {α β : Type} (F : (l : List α) → List.below (motive := fun _ => Device → β → Device) l → Device → β → Device)
    (hnil : ∀ b d y, (F [] b d y).mark = d.mark)
    (hcons : ∀ x l b, (∀ d y, (b.1 d y).mark = d.mark) → ∀ d y, (F (x :: l) b d y).mark = d.mark) (l : List α) (d : Device) (y : β) :
    (List.brecOn (motive := fun _ => Device → β → Device) l F d y).mark = d.mark := by
  induction l generalizing d y with
  | nil => exact hnil _ _ _
  | cons x l ih => exact hcons x l _ ih _ _

theorem Device.flushHeld_mark (d : Device) (i : Nat) (hs done : List Held) : (d.flushHeld i hs done).mark = d.mark := by
  delta Device.flushHeld
  refine brecOn_mark _ (fun _ _ _ => rfl) (fun h hs rest ih d done => ?_) hs d done
  delta Device.flushHeld._f
  dsimp only
  split
  · exact ih _ _
  · split
    · exact ih _ _
    · split <;> exact (ih _ _).trans (Device.mark_of_eq (Device.writeRecord_mark _ _ _ _) ‹_›)

theorem Device.flush_mark (d : Device) (i : Nat) : (d.flush i).mark = d.mark := by
  rw [Device.flush, Device.showEntries_mark, Device.flushHeld_mark]

theorem Device.postRecord_mark (d : Device) (i : Nat) (irq : Bool) (bytes : List Byte) : (d.postRecord i irq bytes).mark = d.mark := by
  rw [Device.postRecord, Device.flush_mark, Device.with_q_mark]

theorem Device.completeAt_mark (d : Device) (x : Item) (status detail t : Nat) : (d.completeAt x status detail t).mark = d.mark := by
  unfold Device.completeAt
  dsimp only
  rw [Device.postRecord_mark]
  split
  · rw [Device.showSlots_mark, Device.with_q_mark]
  · exact Device.with_q_mark _ _

/-! ### Sequencers and picks -/

theorem Device.endPass_mark (d : Device) (q : Nat) : (d.endPass q).mark = d.mark := by
  rw [Device.endPass, Device.modSeq_mark, Device.wr_mark]

theorem Device.restartSeq_mark (d : Device) (q : Nat) : (d.restartSeq q).mark = d.mark := by
  unfold Device.restartSeq
  split
  · rfl
  · exact Device.modSeq_mark _ _ _

theorem Device.imageCurrent_mark (d : Device) (q : Nat) : (d.imageCurrent q).mark = d.mark := by
  unfold Device.imageCurrent
  dsimp only
  split
  · rfl
  · split
    · rfl
    · rw [Device.wr_mark, Device.setSeq_mark, Device.dropGuards_mark, Device.abandonLocks_mark]

theorem Device.passStart_mark (d : Device) (q : Nat) : (d.passStart q).mark = d.mark := by
  unfold Device.passStart
  split
  · rfl
  · dsimp only
    rw [Device.modSeq_mark]
    split
    · rw [Device.wr_mark]
    · rfl

theorem Device.edgePass_mark (d : Device) (q : Nat) : (d.edgePass q).mark = d.mark := by
  unfold Device.edgePass
  dsimp only
  split
  · split
    · exact Device.bump_mark _ _
    · rfl
  · exact Device.passStart_mark _ _

theorem Device.l1DropMask_mark (d : Device) (c mask : Nat) : (d.l1DropMask c mask).mark = d.mark :=
  Device.foldl_mark _ (fun _ _ => Device.l1Drop_mark _ _ _) _ _

theorem Device.setCtx_mark (d : Device) (c : Nat) (x : Option Ctx) : (d.setCtx c x).mark = d.mark := by
  rw [Device.setCtx, Device.wr_mark, Device.with_ras_mark]

theorem Device.settleUse_mark (d : Device) (c : Nat) : (d.settleUse c).mark = d.mark := by
  unfold Device.settleUse
  dsimp only
  split
  · rw [Device.with_q_mark, Device.setCtx_mark]
  · exact Device.with_q_mark _ _

theorem Device.startItem_mark (d : Device) (u c : Nat) : (d.startItem u c).mark = d.mark := by
  unfold Device.startItem
  split
  · rfl
  · split
    · exact Device.modRun_mark _ _ _
    · rw [Device.with_ras_mark, Device.modItem_mark, Device.l2DropClean_mark]

theorem Device.startPick_mark (d : Device) (p : Pick) (budget : Nat) : (d.startPick p budget).mark = d.mark := by
  unfold Device.startPick
  dsimp only
  rw [Device.l1DropMask_mark, Device.startItem_mark, Device.with_q_mark, Device.settleUse_mark]

theorem Device.edgeSeq_mark (d : Device) (len q : Nat) : (d.edgeSeq len q).mark = d.mark := by
  unfold Device.edgeSeq
  dsimp only
  split
  · split <;> simp only [Device.endPass_mark, Device.setSeq_mark, Device.modSeq_mark]
  · split <;> simp only [Device.restartSeq_mark, Device.modSeq_mark]

theorem Device.edgeBoot_mark (d : Device) : d.edgeBoot.mark = d.mark := by
  unfold Device.edgeBoot
  split
  · rw [Device.wr_mark, Device.wr_mark]
  · rfl

/-! ### Fault records -/

theorem Device.logRecord_mark (d : Device) (rec48 : List Byte) : (d.logRecord rec48).mark = d.mark := by
  unfold Device.logRecord
  split
  · exact Device.bump_mark _ _
  · dsimp only
    rw [Device.with_seed_mark, Device.count_mark, Device.mramWrite_mark]

theorem Device.logEdge_mark (d : Device) (r : FaultRec) : (d.logEdge r).mark = d.mark := by
  unfold Device.logEdge
  rw [Device.logRecord_mark, Device.with_flt_mark]

theorem Device.dropRecord_mark (d : Device) (i : Nat) : (d.dropRecord i).mark = d.mark := by
  rw [Device.dropRecord, Device.bump_mark]

theorem Device.intPin_mark (d : Device) (i : Nat) : (d.intPin i).mark = d.mark := by
  unfold Device.intPin
  exact Device.ite_mark (Device.emit_mark _ _) rfl

theorem Device.ringRecord_mark (d : Device) (i : Nat) (b : List Byte) : (d.ringRecord i b).mark = d.mark := by
  unfold Device.ringRecord
  refine Device.ite_mark (Device.dropRecord_mark _ _) ?_
  split
  · exact Device.dropRecord_mark _ _
  · next h1 =>
    replace h1 := Device.mark_of_eq (Device.ringCons_mark _ _ _ _ _ _) h1
    refine Device.ite_mark (Device.dropRecord_mark _ _) ?_
    extract_lets e
    split
    · exact Device.dropRecord_mark _ _
    · next d2 h2 =>
      replace h2 := (Device.mark_of_eq (Device.write_mark _ _ _ _ _) h2).trans h1
      refine (Device.intPin_mark _ _).trans (Device.ite_mark ((Device.signal_mark _ _ _).trans ?_) ?_)
      · exact (Device.wr_mark _ _ _).trans h2
      · exact (Device.wr_mark _ _ _).trans h2

theorem Device.writeFault_mark (d : Device) (r : FaultRec) : (d.writeFault r).mark = d.mark := by
  unfold Device.writeFault
  dsimp only
  split
  · rw [Device.logRecord_mark, Device.foldl_mark _ (fun _ _ => Device.ringRecord_mark _ _ _), Device.with_flt_mark]
  · rw [Device.foldl_mark _ (fun _ _ => Device.ringRecord_mark _ _ _), Device.with_flt_mark]

theorem Device.edgeCheck_mark (d : Device) : d.edgeCheck.mark = d.mark := by
  have start : d.cfgStart.mark = d.mark := by
    unfold Device.cfgStart
    split
    · rw [Device.with_flt_mark, Device.wr_mark, Device.wr_mark, Device.with_flt_mark]
    · exact Device.with_flt_mark _ _
  unfold Device.edgeCheck
  dsimp only
  split
  · rw [Device.bump_mark, start]
  · exact start

/-! ### Sound -/

theorem Device.audCopy_mark (d : Device) : d.audCopy.mark = d.mark := by
  unfold Device.audCopy
  refine Device.ite_mark (Device.wr_mark _ _ _) (Device.ite_mark rfl ?_)
  rw [Device.showBusy_mark, Device.with_aud_mark]

theorem Device.swapDecide_mark (d : Device) (t ramp : Nat) (who : Option Nat) : (d.swapDecide t ramp who).2.mark = d.mark := by
  unfold Device.swapDecide
  extract_lets b target
  split
  · rfl
  · split
    · rfl
    · split
      · rfl
      · split
        · rfl
        · exact ((Device.wr_mark _ _ _).trans (Device.wr_mark _ _ _)).trans (Device.with_aud_mark _ _)

theorem Device.endSwap_mark (d : Device) : d.endSwap.mark = d.mark := by
  rw [Device.endSwap, Device.wr_mark, Device.with_aud_mark]

theorem Device.swapNow_mark (d : Device) (p : AudSwap) : (d.swapNow p).mark = d.mark := by
  have event (d : Device) : (match p.who with | some q => d.event q evSwap | none => d).mark = d.mark := by
    split
    · exact Device.event_mark _ _ _
    · rfl
  have active (d : Device) (f : Fld) (v : Nat) (x : Aud) : ({ d.wr f v with aud := x } : Device).mark = d.mark :=
    (Device.with_aud_mark _ _).trans (Device.wr_mark _ _ _)
  unfold Device.swapNow
  exact Device.ite_mark ((Device.endSwap_mark _).trans ((event _).trans (active _ _ _ _))) ((event _).trans (active _ _ _ _))

theorem Device.genBegin_mark (d : Device) (n : Nat) : (d.genBegin n).mark = d.mark := by
  unfold Device.genBegin
  refine (Device.with_aud_mark _ _).trans (Device.foldl_mark _ (fun d r => ?_) _ _)
  split
  · rw [Device.wr_mark, Device.wr_mark, Device.setGen_mark]
  · exact Device.setGen_mark _ _ _

theorem Device.genBlock_mark (d : Device) (n len : Nat) : (d.genBlock n len).2.mark = d.mark := by
  unfold Device.genBlock
  extract_lets d1
  split
  · exact Device.genBegin_mark _ _
  · exact (Device.setGen_mark _ _ _).trans (Device.genBegin_mark _ _)

theorem Device.ringRead_mark (d : Device) (sp : Space) (base size o n : Nat) : (d.ringRead sp base size o n).2.mark = d.mark := by
  unfold Device.ringRead
  split
  · exact Device.read_mark _ _ _ _ _
  · split
    · exact Device.mark_of_eq (Device.read_mark _ _ _ _ _) ‹_›
    · next h1 =>
      replace h1 := Device.mark_of_eq (Device.read_mark _ _ _ _ _) h1
      split <;> exact (Device.mark_of_eq (Device.read_mark _ _ _ _ _) ‹_›).trans h1

theorem Device.ringWrite_mark (d : Device) (sp : Space) (base size o : Nat) (bs : List Byte) :
    (d.ringWrite sp base size o bs).2.mark = d.mark := by
  unfold Device.ringWrite
  split
  · exact Device.write_mark _ _ _ _ _
  · split
    · exact Device.mark_of_eq (Device.write_mark _ _ _ _ _) ‹_›
    · exact (Device.write_mark _ _ _ _ _).trans (Device.mark_of_eq (Device.write_mark _ _ _ _ _) ‹_›)

theorem Device.setMsDev_mark (d : Device) (n v : Nat) : (d.setMsDev n v).mark = d.mark := by
  rw [Device.setMsDev, Device.wr_mark, Device.wr_mark]

theorem Device.setMcDev_mark (d : Device) (n v : Nat) : (d.setMcDev n v).mark = d.mark := by
  rw [Device.setMcDev, Device.wr_mark, Device.wr_mark]

theorem Device.streamFault_mark (d : Device) (n : Nat) : (d.streamFault n).mark = d.mark := by
  have fault (x : Aud) (r : FaultRec) : ({ d with aud := x }.raise r).mark = d.mark :=
    (Device.raise_mark _ _).trans (Device.with_aud_mark _ _)
  unfold Device.streamFault
  exact Device.ite_mark ((Device.wr_mark _ _ _).trans (fault _ _)) ((Device.wr_mark _ _ _).trans (fault _ _))

theorem Device.streamBlock_mark (d : Device) (n len : Nat) : (d.streamBlock n len).2.mark = d.mark := by
  unfold Device.streamBlock
  split
  · rfl
  · split
    · rfl
    · split
      · exact Device.bumpBy_mark _ _ _
      · extract_lets k wide w dev held m d1
        have h1 : d1.mark = d.mark := Device.bumpBy_mark _ _ _
        split
        · exact h1
        · split
          · exact (Device.streamFault_mark _ _).trans ((Device.mark_of_eq (Device.ringRead_mark _ _ _ _ _ _) ‹_›).trans h1)
          · exact (Device.setMsDev_mark _ _ _).trans ((Device.mark_of_eq (Device.ringRead_mark _ _ _ _ _ _) ‹_›).trans h1)

theorem Device.captureBlock_mark (d : Device) (n : Nat) (xs : List Int) : (d.captureBlock n xs).mark = d.mark := by
  unfold Device.captureBlock
  refine Device.ite_mark rfl (Device.ite_mark (Device.bump_mark _ _) ?_)
  extract_lets bs
  split
  · exact (Device.streamFault_mark _ _).trans (Device.mark_of_eq (Device.ringWrite_mark _ _ _ _ _ _) ‹_›)
  · exact (Device.setMcDev_mark _ _ _).trans (Device.mark_of_eq (Device.ringWrite_mark _ _ _ _ _ _) ‹_›)

theorem Device.sinkBlock_mark (d : Device) (k len : Nat) (nodes : List (Nat × Nat)) (srcs : List (Nat × List Int)) (bad : Bool) :
    (d.sinkBlock k len nodes srcs bad).mark = d.mark := by
  unfold Device.sinkBlock
  exact (Device.with_aud_mark _ _).trans ((Device.bumpBy_mark _ _ _).trans (Device.ite_mark rfl (Device.wr_mark _ _ _)))

theorem Device.converted_mark (d : Device) (n : Nat) : (d.converted n).2.mark = d.mark := by
  unfold Device.converted
  exact Device.with_draws_mark _ _

theorem Device.tdmInput_mark (d : Device) (s len : Nat) (ws : List Nat) : (d.tdmInput s len ws).2.mark = d.mark := by
  unfold Device.tdmInput
  extract_lets p
  split
  · rfl
  · split
    · exact Device.converted_mark _ _
    · rfl

theorem Device.tdmOutput_mark (d : Device) (s : Nat) (xs : List Int) : (d.tdmOutput s xs).mark = d.mark := by
  unfold Device.tdmOutput
  refine Device.ite_mark rfl (Device.ite_mark (Device.ite_mark (Device.emit_mark _ _) rfl) (Device.ite_mark ?_ ?_))
  · exact (Device.emit_mark _ _).trans (Device.converted_mark _ _)
  · exact Device.ite_mark (Device.emit_mark _ _) rfl

theorem Device.sources_mark (d : Device) (len : Nat) (ins : List (Nat × List Nat)) (back : List (Nat × List Int)) :
    (d.sources len ins back).2.mark = d.mark := by
  unfold Device.sources
  split
  next tdm d1 h1 =>
  split
  next ms d2 h2 =>
  split
  next gs d3 h3 =>
  have tones : d3.mark = d2.mark := Device.mark_of_foldl h3 (fun p n => Device.genBlock_mark p.2 n len)
  have streams : d2.mark = d1.mark := Device.mark_of_foldl h2 (fun p n => Device.streamBlock_mark p.2 n len)
  have inputs : d1.mark = d.mark := by
    refine Device.mark_of_foldl h1 (fun p s => ?_)
    split
    · exact Device.tdmInput_mark _ _ _ _
    · rfl
  exact tones.trans (streams.trans inputs)

theorem Device.playBlock_mark (d : Device) : d.playBlock.mark = d.mark := by
  unfold Device.playBlock
  refine (Device.foldl_mark _ (fun d n => Device.captureBlock_mark _ _ _) _ _).trans
    ((Device.foldl_mark _ (fun d n => Device.modHap_mark _ _ _) _ _).trans (Device.foldl_mark _ (fun d e => ?_) _ _))
  exact Device.ite_mark (Device.tdmOutput_mark _ _ _) rfl

theorem Device.audioEdge_mark (d : Device) (len : Nat) (ins : List (Nat × List Nat)) (bad : List Nat) :
    (d.audioEdge len ins bad).mark = d.mark := by
  unfold Device.audioEdge
  extract_lets -underBinder +onlyGivenNames d1 d2 d3 back aud d4
  have ramped : d1.mark = d.mark := by
    unfold d1
    split
    · exact Device.ite_mark (Device.endSwap_mark _) rfl
    · rfl
  have played : d2.mark = d.mark := (Device.playBlock_mark _).trans ramped
  have swapped : d3.mark = d.mark := by
    unfold d3
    split
    · exact Device.ite_mark ((Device.swapNow_mark _ _).trans played) played
    · exact played
  have cleared : d4.mark = d.mark := (Device.with_aud_mark _ _).trans swapped
  split
  next srcs d5 h5 =>
  replace h5 := (Device.mark_of_eq (Device.sources_mark _ _ _ _) h5).trans cleared
  refine (Device.with_aud_mark _ _).trans ((Device.foldl_mark _ (fun d k => Device.raise_mark _ _) _ _).trans
    ((Device.foldl_mark _ (fun d k => Device.sinkBlock_mark _ _ _ _ _ _) _ _).trans h5))

theorem Device.mixWrite_mark (d : Device) : d.mixWrite.mark = d.mark :=
  Device.foldl_mark _ (fun _ _ => Device.foldl_mark _ (fun _ _ => Device.setReg_mark _ _ _) _ _) _ _

theorem Device.mixStart_mark (d : Device) : d.mixStart.mark = d.mark := by
  unfold Device.mixStart
  refine Device.ite_mark (Device.with_udc_mark _ _) ?_
  extract_lets -underBinder +onlyGivenNames d1
  split
  next code d2 h =>
  replace h := (Device.mark_of_eq (Device.swapDecide_mark _ _ _ _) h).trans (Device.mixWrite_mark d)
  exact Device.ite_mark ((Device.with_udc_mark _ _).trans h) (Device.with_udc_mark _ _)

theorem Device.nativeSwap_mark (d : Device) (ramp : Nat) : (d.nativeSwap ramp).mark = d.mark := by
  unfold Device.nativeSwap
  refine Device.ite_mark (Device.with_udc_mark _ _) ?_
  split
  next code d2 h =>
  replace h := Device.mark_of_eq (Device.swapDecide_mark _ _ _ _) h
  exact Device.ite_mark ((Device.with_udc_mark _ _).trans h) (Device.with_udc_mark _ _)

theorem Device.mixEdge_mark (d : Device) (swapped : Bool) : (d.mixEdge swapped).mark = d.mark := by
  unfold Device.mixEdge
  refine Device.ite_mark rfl ?_
  extract_lets -underBinder +onlyGivenNames d0 udc0 d1 udc1 d2 d3
  have h0 : d0.mark = d.mark := Device.ite_mark (Device.wr_mark _ _ _) rfl
  have h1 : d1.mark = d.mark := Device.ite_mark ((Device.with_udc_mark d0 _).trans h0) rfl
  have h2 : d2.mark = d.mark :=
    Device.ite_mark ((Device.audCopy_mark _).trans ((Device.with_udc_mark _ _).trans h1)) h1
  have h3 : d3.mark = d.mark := by
    unfold d3
    split
    · exact (Device.nativeSwap_mark _ _).trans h2
    · exact h2
  exact Device.ite_mark ((Device.mixStart_mark _).trans h3) h3

theorem Device.udcExpire_mark (d : Device) : d.udcExpire.mark = d.mark := by
  unfold Device.udcExpire
  refine Device.ite_mark ((Device.wr_mark _ _ _).trans (Device.with_udc_mark _ _)) rfl

/-! ### Compositors and shares -/

theorem Device.showReserved_mark (d : Device) (c : Nat) : (d.showReserved c).mark = d.mark := by
  rw [Device.showReserved, Device.wr_mark]

/-- The mark of the device in a result: a function of its own, so that the kernel compares two results before it runs them. -/
def markOf {α : Type} (p : α × Device) : Beat := p.2.mark

theorem Device.writeRet_mark (d : Device) (c : Nat) (r : RetRec) : (d.writeRet c r).2.mark = d.mark := by
  change markOf (d.writeRet c r) = d.mark
  unfold Device.writeRet
  extract_lets -underBinder +onlyGivenNames i k n
  split
  · rfl
  · extract_lets -underBinder +onlyGivenNames base p full seen
    split
    next cons d1 h1 =>
    have gathered : d1.mark = d.mark := by
      refine Device.mark_of_eq ?_ h1
      split
      · split
        · exact (Device.modCmp_mark _ _ _).trans (Device.mark_of_eq (Device.ringCons_mark _ _ _ _ _ _) ‹_›)
        · exact Device.mark_of_eq (Device.ringCons_mark _ _ _ _ _ _) ‹_›
      · rfl
    split
    · exact gathered
    · extract_lets -underBinder +onlyGivenNames w0 bs
      split
      · exact (Device.mark_of_eq (Device.write_mark _ _ _ _ _) ‹_›).trans gathered
      · next h2 =>
        replace h2 := (Device.mark_of_eq (Device.write_mark _ _ _ _ _) h2).trans gathered
        extract_lets -underBinder +onlyGivenNames d3
        have h3 : d3.mark = d.mark := (Device.wr_mark _ _ _).trans h2
        exact Device.ite_mark ((Device.signal_mark _ _ _).trans h3) h3

theorem Device.retireWrite_mark (d : Device) (c i : Nat) : (d.retireWrite c i).mark = d.mark := by
  unfold Device.retireWrite
  split
  · rfl
  · split
    · exact (Device.showReserved_mark _ _).trans ((Device.modCmp_mark _ _ _).trans
        (Device.mark_of_eq (Device.writeRet_mark _ _ _) ‹_›))
    · exact Device.mark_of_eq (Device.writeRet_mark _ _ _) ‹_›

theorem Device.putReceipts_mark (d : Device) (c q : Nat) (cfg : Word) (rs : List Receipt) :
    (d.putReceipts c q cfg rs).mark = d.mark := by
  unfold Device.putReceipts
  refine Device.ite_mark rfl (Device.ite_mark (Device.wr_mark _ _ _) (Device.ite_mark ?_ ?_))
  · exact Device.modSeq_mark _ _ _
  · exact (Device.event_mark _ _ _).trans (Device.modSeq_mark _ _ _)

theorem Device.edgeCmp_mark (d : Device) (c : Nat) : (d.edgeCmp c).mark = d.mark := by
  unfold Device.edgeCmp
  refine (Device.foldl_mark _ (fun _ _ => Device.retireWrite_mark _ _ _) _ _).trans ((Device.putReceipts_mark _ _ _ _ _).trans
    ((Device.foldl_mark _ (fun d q => ?_) _ _).trans (Device.modCmp_mark _ _ _)))
  exact Device.ite_mark (Device.putReceipts_mark _ _ _ _ _) rfl

theorem Device.setState_mark (d : Device) (i st : Nat) : (d.setState i st).mark = d.mark := by
  rw [Device.setState, Device.wr_mark]

theorem Device.shareEdge_mark (d : Device) : d.shareEdge.mark = d.mark := by
  unfold Device.shareEdge
  refine (Device.foldl_mark _ (fun d c => Device.foldl_mark _ (fun d i => ?credit) _ _) _ _).trans
    ((Device.foldl_mark _ (fun d i => ?tokens) _ _).trans (Device.foldl_mark _ (fun d i => ?share) _ _))
  case credit => exact Device.ite_mark rfl (Device.wr_mark _ _ _)
  case tokens => exact Device.ite_mark rfl (Device.wr_mark _ _ _)
  case share =>
    split
    · rfl
    · next w r b =>
      extract_lets -underBinder +onlyGivenNames d1
      have h1 : d1.mark = d.mark := by unfold d1; rw [Device.wr_mark, Device.wr_mark, Device.wr_mark, Device.modInst_mark]
      exact Device.ite_mark ((Device.setState_mark _ _ _).trans h1) h1

/-! ### Power -/

theorem Device.atTick_mark (d : Device) (t : Nat) : (d.atTick t).mark = d.mark := by
  unfold Device.atTick
  split <;> rfl

theorem Device.turn_mark (d : Device) (r : Nat) : (d.turn r).mark = d.mark := by
  unfold Device.turn
  exact (Device.with_q_mark _ _).trans (Device.ite_mark (Device.atTick_mark _ _) rfl)

theorem Device.complete_mark (d : Device) (u status detail : Nat) : (d.complete u status detail).mark = d.mark := by
  unfold Device.complete Device.completeBy
  split
  · exact (Device.completeAt_mark _ _ _ _ _).trans (Device.turn_mark _ _)
  · rfl

theorem Device.setVotes_mark (d : Device) (c v : Nat) : (d.setVotes c v).mark = d.mark := by
  rw [Device.setVotes, Device.setReg_mark]

theorem Device.showVotes_mark (d : Device) : d.showVotes.mark = d.mark := by
  unfold Device.showVotes
  exact (Device.foldl_mark _ (fun _ _ => Device.wr_mark _ _ _) _ _).trans
    ((Device.setVotes_mark _ _ _).trans (Device.setVotes_mark _ _ _))

theorem Device.powerItem_mark (d : Device) (u : Nat) : (d.powerItem u).mark = d.mark := by
  unfold Device.powerItem
  split
  · rfl
  · extract_lets -underBinder +onlyGivenNames k mine wait
    have waits (e : Device) : (wait e).mark = e.mark := Device.with_pwr_mark _ _
    split
    · exact (Device.complete_mark _ _ _ _).trans (Device.setVotes_mark _ _ _)
    · exact Device.ite_mark ((Device.complete_mark _ _ _ _).trans (Device.setVotes_mark _ _ _))
        ((waits _).trans (Device.setVotes_mark _ _ _))
    · split
      · exact Device.complete_mark _ _ _ _
      · exact Device.ite_mark ((Device.complete_mark _ _ _ _).trans (Device.setVotes_mark _ _ _))
          ((waits _).trans (Device.setVotes_mark _ _ _))

theorem Device.domEval_mark (d : Device) (k : Nat) : (d.domEval k).mark = d.mark := by
  unfold Device.domEval
  exact Device.ite_mark (Device.wr_mark _ _ _) (Device.ite_mark (Device.wr_mark _ _ _) rfl)

theorem Device.dvfsGrant_mark (d : Device) (n : Nat) : (d.dvfsGrant n).mark = d.mark := by
  unfold Device.dvfsGrant
  exact (Device.wr_mark _ _ _).trans ((Device.wr_mark _ _ _).trans (Device.wr_mark _ _ _))

theorem Device.dvfsEdge_mark (d : Device) : d.dvfsEdge.mark = d.mark :=
  Device.foldl_mark _ (fun _ _ => Device.dvfsGrant_mark _ _) _ _

theorem Device.stopAtLatch_mark (d : Device) (h : Nat) : (d.stopAtLatch h).mark = d.mark := by
  unfold Device.stopAtLatch
  exact Device.ite_mark rfl (Device.modHead_mark _ _ _)

theorem Device.takeState_mark (d : Device) : d.takeState.mark = d.mark := by
  unfold Device.takeState
  split
  · rfl
  · next st secure _ =>
    extract_lets -underBinder +onlyGivenNames pwr d1
    have h1 : d1.mark = d.mark := Device.with_pwr_mark _ _
    refine Device.ite_mark h1 ?_
    split
    · exact (Device.wr_mark _ _ _).trans ((Device.wr_mark _ _ _).trans h1)
    · refine Device.ite_mark ((Device.wr_mark _ _ _).trans h1) ?_
      refine (Device.foldl_mark _ (fun _ _ => Device.stopAtLatch_mark _ _) _ _).trans ?_
      exact (Device.with_pwr_mark _ _).trans ((Device.wr_mark _ _ _).trans ((Device.wr_mark _ _ _).trans h1))

theorem Device.powerEdge_mark (d : Device) : d.powerEdge.mark = d.mark := by
  unfold Device.powerEdge
  refine (Device.foldl_mark _ (fun _ _ => Device.domEval_mark _ _) _ _).trans ((Device.takeState_mark _).trans
    ((Device.dvfsEdge_mark _).trans ((Device.showVotes_mark _).trans ((Device.foldl_mark _ (fun d v => ?vote) _ _).trans
      ((Device.with_pwr_mark _ _).trans (Device.showVotes_mark _))))))
  case vote =>
    split
    · exact Device.setVotes_mark _ _ _
    · exact Device.powerItem_mark _ _

/-! ### The parts of the edge -/

theorem Device.sendBlock_mark (d : Device) (n : Nat) (name : String) (fields : List Nat) : (d.sendBlock n name fields).mark = d.mark :=
  Device.foldl_mark _ (fun _ _ => Device.emit_mark _ _) _ _

theorem Device.edgeBlock_mark (d : Device) : d.edgeBlock.mark = d.mark := by
  unfold Device.edgeBlock
  exact Device.ite_mark (Device.sendBlock_mark _ _ _ _) rfl

theorem Device.edgeClock_mark (d : Device) (arrived : Nat) : (d.edgeClock arrived).mark = d.mark := by
  unfold Device.edgeClock
  extract_lets d1
  have h1 : d1.mark = d.mark := Device.ite_mark (Device.setHoldover_mark _ _) rfl
  exact Device.ite_mark ((Device.bump_mark _ _).trans h1) h1

theorem Device.edgeFronts_mark (d : Device) : d.edgeFronts.mark = d.mark :=
  Device.foldl_mark _ (fun _ _ => Device.ite_mark rfl (Device.modFront_mark _ _ _)) _ _

theorem Device.edgeMixed_mark (d : Device) (len : Nat) (ins : List (Nat × List Nat)) (bad : List Nat) :
    (d.edgeMixed len ins bad).mark = d.mark := by
  unfold Device.edgeMixed
  extract_lets d1 was d2 d3
  have h1 : d1.mark = d.mark := Device.foldl_mark _ (fun _ _ => Device.applyShadow_mark _ _) _ _
  have h2 : d2.mark = d.mark := Device.ite_mark ((Device.audioEdge_mark _ _ _ _).trans h1) h1
  have h3 : d3.mark = d.mark := (Device.mixEdge_mark _ _).trans h2
  exact (Device.udcExpire_mark _).trans ((Device.powerEdge_mark _).trans ((Device.edgeFronts_mark _).trans h3))

theorem Device.edgeHead_mark (d : Device) (h : Nat) : (d.edgeHead h).mark = d.mark := by
  have twice (a b : Nat) (v w : Word) : ((d.setReg a v).setReg b w).mark = d.mark :=
    (Device.setReg_mark _ _ _).trans (Device.setReg_mark _ _ _)
  unfold Device.edgeHead
  exact Device.ite_mark (twice _ _ _ _) (twice _ _ _ _)

theorem Device.edgeShadows_mark (d : Device) : d.edgeShadows.mark = d.mark := by
  unfold Device.edgeShadows
  extract_lets d1 d2
  have h2 : d2.mark = d.mark := (Device.wr_mark _ _ _).trans (Device.foldl_mark _ (fun _ _ => Device.applyShadow_mark _ _) _ _)
  exact Device.ite_mark h2 ((Device.wr_mark _ _ _).trans h2)

/-! ### The edge -/

/-- The device whose grants have begun. -/
def Device.granting (d : Device) : Device := { d with beat := { d.beat with grants := true } }

/-- The grants of an edge begin, and nothing else of the beat changes but the time within it. -/
theorem Device.edgeGrants_mark (d : Device) : d.edgeGrants.mark = d.granting.mark := by
  have passes : ((List.range 5).foldl Device.edgePass (d.atTick 136)).mark = d.mark :=
    (Device.foldl_mark _ (fun _ _ => Device.edgePass_mark _ _) _ _).trans (Device.atTick_mark _ _)
  have granting {d e : Device} (h : e.mark = d.mark) : e.granting.mark = d.granting.mark :=
    congrArg (fun b : Beat => { b with grants := true }) h
  unfold Device.edgeGrants
  exact (Device.foldl_mark _ (fun _ _ => Device.startPick_mark _ _ _) _ _).trans (granting passes)

theorem Device.edgeCompute_mark (d : Device) (len : Nat) (old : List FaultRec) :
    (d.edgeCompute len old).mark = d.granting.mark := by
  unfold Device.edgeCompute
  extract_lets d1 d2 d3 d4 d5 d6 d7
  have h1 : d1.mark = d.mark := Device.foldl_mark _ (fun _ _ => Device.writeFault_mark _ _) _ _
  have h2 : d2.mark = d.mark := (Device.foldl_mark _ (fun _ _ => Device.edgeSeq_mark _ _ _) _ _).trans h1
  have h3 : d3.mark = d.mark := (Device.foldl_mark _ (fun _ _ => Device.edgeHead_mark _ _) _ _).trans h2
  have h4 : d4.mark = d.mark := (Device.shareEdge_mark _).trans ((Device.edgeShadows_mark _).trans h3)
  have h5 : d5.mark = d.mark := (Device.foldl_mark _ (fun _ _ => Device.imageCurrent_mark _ _) _ _).trans h4
  have h6 : d6.mark = d.mark := (Device.edgeCheck_mark _).trans ((Device.edgeBoot_mark _).trans h5)
  have h7 : d7.mark = d.mark := (Device.foldl_mark _ (fun _ _ => Device.edgeCmp_mark _ _) _ _).trans h6
  exact (Device.edgeGrants_mark _).trans (congrArg (fun b : Beat => { b with grants := true }) h7)

end Sys2Proof.Machine
end

section
/-!
The beat edge (R12, R23 to R25, R27, R35, R48): the number and the lengths that it leaves, where it falls, and its passes.
-/

namespace Sys2Proof.Machine

open Sys2Proof

/-! ### The number and the lengths -/

/-- The first part of `edgeNumber`: the beat number advances, and the beat that ends is measured. -/
def Device.edgeCount (d : Device) (e : Nat) (number : Option Nat) (regular : Bool) : Device :=
  let len := e - (d.beat.clock - d.beat.stick)
  let b := d.beat
  if b.started then
    let d := d.wr Reg.BEAT_LAST_TICKS_ticks (satAt 0x3FFFFF len)
    { d with beat := { b with
        sbeat := match number with | some n => max n (b.sbeat + 1) | none => b.sbeat + 1
        tRef := if regular then len else b.tRef, sRef := if regular then b.samples else b.sRef } }
  else { d with beat := { b with started := true, sbeat := 0 } }

/-- The middle part of `edgeNumber`: the time within the beat starts again, and no grant is given yet. -/
def Device.edgeRestart (d : Device) (e : Nat) : Device :=
  { d with
    beat := { d.beat with stick := max 40 (d.beat.clock - e), clock := e + max 40 (d.beat.clock - e), grants := false }
    weft := { d.weft with edge := none, irregular := false } }

/-- The length that `edgeNumber` predicts for the coming beat. -/
def Device.edgeLength (d : Device) : Nat := d.beat.tRef * d.beat.samples / max 1 d.beat.sRef

/-- The last part of `edgeNumber`: the length of the coming beat is predicted. -/
def Device.edgePredict (d : Device) : Device :=
  (d.wr Reg.BEAT_PRED_ticks d.edgeLength).wr Reg.BEAT_FALLOW_start (d.edgeLength - 32000)

theorem Device.edgeNumber_eq (d : Device) (e : Nat) (number : Option Nat) (regular : Bool) :
    d.edgeNumber e number regular = ((d.edgeCount e number regular).edgePeriod.edgeRestart e).edgePredict := rfl

theorem Device.edgePeriod_beat (d : Device) : d.edgePeriod.beat = { d.beat with
    samples := if d.mode == .native then d.beat.nextSamples.getD d.beat.samples else 48
    nextSamples := d.beat.afterSamples, afterSamples := none } := by
  unfold Device.edgePeriod
  extract_lets n b d1
  change (if d1.followsWeft then d1.wr Reg.BEAT_PERIOD_samples n else d1).beat = d1.beat
  split
  · exact Device.wr_beat _ _ _
  · rfl

/-- The beat that an edge leaves: the counted beat with its coming period, at its start. -/
theorem Device.edgeNumber_beat (d : Device) (e : Nat) (number : Option Nat) (regular : Bool) :
    (d.edgeNumber e number regular).beat = (((d.edgeCount e number regular).edgePeriod).edgeRestart e).beat := by
  rw [Device.edgeNumber_eq, Device.edgePredict, Device.wr_beat, Device.wr_beat]

theorem Device.edgeCount_first {d : Device} (h : d.beat.started = false) (e : Nat) (number : Option Nat) (regular : Bool) :
    (d.edgeCount e number regular).beat = { d.beat with started := true, sbeat := 0 } := by
  unfold Device.edgeCount
  dsimp only
  rw [if_neg (by rw [h]; decide)]

theorem Device.edgeCount_next {d : Device} (h : d.beat.started = true) (e : Nat) (regular : Bool) :
    (d.edgeCount e none regular).beat = { d.beat with
      sbeat := d.beat.sbeat + 1
      tRef := if regular then e - (d.beat.clock - d.beat.stick) else d.beat.tRef
      sRef := if regular then d.beat.samples else d.beat.sRef } := by
  unfold Device.edgeCount
  dsimp only
  rw [if_pos h]

theorem Device.edgeCount_started (d : Device) (e : Nat) (number : Option Nat) (regular : Bool) :
    (d.edgeCount e number regular).beat.started = true := by
  unfold Device.edgeCount
  dsimp only
  split
  · assumption
  · rfl

theorem Device.with_beat_mode (d : Device) (b : Beat) : ({ d with beat := b } : Device).mode = d.mode := rfl

theorem Device.edgeCount_mode (d : Device) (e : Nat) (number : Option Nat) (regular : Bool) :
    (d.edgeCount e number regular).mode = d.mode := by
  unfold Device.edgeCount
  dsimp only
  split
  · exact (Device.with_beat_mode _ _).trans (Device.wr_mode _ _ _)
  · rfl

/-- A field keeps its value over the choice of a period, unless it is of BEAT_PERIOD. -/
theorem Device.edgePeriod_rd (d : Device) (f : Fld) (h : Reg.BEAT_PERIOD ≠ f.addr) : d.edgePeriod.rd f = d.rd f := by
  unfold Device.edgePeriod
  extract_lets n b d1
  change (if d1.followsWeft then d1.wr Reg.BEAT_PERIOD_samples n else d1).rd f = d1.rd f
  split
  · exact Device.rd_wr_other _ _ _ _ h
  · rfl

theorem Device.edgePredict_rd_pred (d : Device) : d.edgePredict.rd Reg.BEAT_PRED_ticks = d.edgeLength % 2 ^ 22 := by
  unfold Device.edgePredict
  rw [Device.rd_wr_other _ _ _ _ (by decide), Device.rd_wr_same _ _ _ (by decide)]
  rfl

theorem Device.edgePredict_rd_fallow (d : Device) : d.edgePredict.rd Reg.BEAT_FALLOW_start = (d.edgeLength - 32000) % 2 ^ 22 := by
  unfold Device.edgePredict
  rw [Device.rd_wr_same _ _ _ (by decide)]
  rfl

theorem Device.with_beat_rd (d : Device) (b : Beat) (f : Fld) : ({ d with beat := b } : Device).rd f = d.rd f := rfl

theorem Device.edgeRestart_rd (d : Device) (e : Nat) (f : Fld) : (d.edgeRestart e).rd f = d.rd f := rfl

/-- The length of the beat that has ended, saturated (R23). -/
theorem Device.edgeCount_rd_last {d : Device} (h : d.beat.started = true) (e : Nat) (number : Option Nat) (regular : Bool) :
    (d.edgeCount e number regular).rd Reg.BEAT_LAST_TICKS_ticks = min 0x3FFFFF (e - (d.beat.clock - d.beat.stick)) := by
  unfold Device.edgeCount
  dsimp only
  generalize e - (d.beat.clock - d.beat.stick) = len
  have sat : satAt 0x3FFFFF len = min 0x3FFFFF len := by unfold satAt; split <;> omega
  rw [if_pos h, Device.with_beat_rd, Device.rd_wr_same _ _ _ (by decide), sat]
  exact Nat.mod_eq_of_lt (Nat.lt_of_le_of_lt (Nat.min_le_left _ _) (by decide))

theorem Device.edgeNumber_rd_last {d : Device} (h : d.beat.started = true) (e : Nat) (number : Option Nat) (regular : Bool) :
    (d.edgeNumber e number regular).rd Reg.BEAT_LAST_TICKS_ticks = min 0x3FFFFF (e - (d.beat.clock - d.beat.stick)) := by
  rw [Device.edgeNumber_eq, Device.edgePredict, Device.rd_wr_other _ _ _ _ (by decide), Device.rd_wr_other _ _ _ _ (by decide),
    Device.edgeRestart_rd, Device.edgePeriod_rd _ _ (by decide), Device.edgeCount_rd_last h]

/-! ### The edge as a whole -/

/-- Whether the compute die works at an edge: it is awake and there. -/
def Device.edgeAwake (d : Device) : Bool := d.rd Reg.PWR_STATE_state == 0 && !d.flt.lostCompute

/-- The device just before its beat number advances. -/
def Device.edgeReady (d : Device) (arrived : Nat) : Device :=
  let d1 := if d.flt.lostCompute then d.flt.raised.foldl (fun d r => d.logEdge r) { d with flt := { d.flt with raised := [] } } else d
  let d2 := if d.edgeAwake then { d1 with flt := { d1.flt with raised := [] } } else d1
  d2.edgeBlock.edgeClock arrived

theorem Device.edgeReady_mark (d : Device) (arrived : Nat) : (d.edgeReady arrived).mark = d.mark := by
  unfold Device.edgeReady
  extract_lets -underBinder +onlyGivenNames flt1 d1 flt2 d2
  have logged : d1.mark = d.mark :=
    Device.ite_mark ((Device.foldl_mark _ (fun _ _ => Device.logEdge_mark _ _) _ _).trans (Device.with_flt_mark _ _)) rfl
  have raised : d2.mark = d.mark := Device.ite_mark ((Device.with_flt_mark d1 _).trans logged) logged
  exact (Device.edgeClock_mark _ _).trans ((Device.edgeBlock_mark _).trans raised)

/-- An edge leaves the beat that `edgeNumber` leaves, with grants when the compute die works. -/
theorem Device.beatEdge_mark (d : Device) (ticks arrived : Nat) (ins : List (Nat × List Nat)) (bad : List Nat) (n : Device)
    (hn : n = (d.edgeReady arrived).edgeNumber (d.edgePlace ticks).1 (d.edgePlace ticks).2.1 (d.edgePlace ticks).2.2) :
    (d.beatEdge ticks arrived ins bad).mark = if d.edgeAwake then n.granting.mark else n.mark := by
  unfold Device.beatEdge
  split
  next e number regular place =>
  rw [place] at hn
  extract_lets -underBinder +onlyGivenNames len state awake flt1 d1 old flt2 d2 samples d3 d4 pwr
  have counted : d3 = n := hn.symm
  have mixed : d4.mark = n.mark := by
    rw [← counted]; exact Device.ite_mark rfl (Device.edgeMixed_mark _ _ _ _)
  change (if d.edgeAwake then _ else d4).mark = _
  split
  · exact (Device.edgeCompute_mark _ _ _).trans
      (congrArg (fun b : Beat => { b with grants := true }) ((Device.with_pwr_mark d4 _).trans mixed))
  · exact mixed

/-- The first edge starts the beat, and each edge after it starts one more; no grant is given before the pass starts. -/
theorem Device.edgeNumber_started (d : Device) (e : Nat) (number : Option Nat) (regular : Bool) :
    (d.edgeNumber e number regular).beat.started = true := by
  rw [Device.edgeNumber_beat, Device.edgeRestart, Device.edgePeriod_beat]
  exact Device.edgeCount_started d e number regular

theorem Device.edgeNumber_sbeat_first {d : Device} (h : d.beat.started = false) (e : Nat) (number : Option Nat) (regular : Bool) :
    (d.edgeNumber e number regular).beat.sbeat = 0 := by
  rw [Device.edgeNumber_beat, Device.edgeRestart, Device.edgePeriod_beat, Device.edgeCount_first h]

theorem Device.edgeNumber_sbeat_next {d : Device} (h : d.beat.started = true) (e : Nat) (regular : Bool) :
    (d.edgeNumber e none regular).beat.sbeat = d.beat.sbeat + 1 := by
  rw [Device.edgeNumber_beat, Device.edgeRestart, Device.edgePeriod_beat, Device.edgeCount_next h]

/-- The clock and the samples that the count of an edge finds are those that it leaves. -/
theorem Device.edgeCount_rest (d : Device) (e : Nat) (regular : Bool) :
    (d.edgeCount e none regular).beat.clock = d.beat.clock ∧ (d.edgeCount e none regular).beat.samples = d.beat.samples
      ∧ (d.edgeCount e none regular).beat.nextSamples = d.beat.nextSamples := by
  cases h : d.beat.started with
  | false => rw [Device.edgeCount_first h]; exact ⟨rfl, rfl, rfl⟩
  | true => rw [Device.edgeCount_next h]; exact ⟨rfl, rfl, rfl⟩

theorem Device.edgeNumber_stick (d : Device) (e : Nat) (regular : Bool) :
    (d.edgeNumber e none regular).beat.stick = max 40 (d.beat.clock - e) := by
  obtain ⟨clock, -, -⟩ := d.edgeCount_rest e regular
  rw [Device.edgeNumber_beat, Device.edgeRestart, Device.edgePeriod_beat]
  dsimp only
  rw [clock]

theorem Device.edgeNumber_clock (d : Device) (e : Nat) (regular : Bool) :
    (d.edgeNumber e none regular).beat.clock = e + max 40 (d.beat.clock - e) := by
  obtain ⟨clock, -, -⟩ := d.edgeCount_rest e regular
  rw [Device.edgeNumber_beat, Device.edgeRestart, Device.edgePeriod_beat]
  dsimp only
  rw [clock]

theorem Device.edgeNumber_grants (d : Device) (e : Nat) (number : Option Nat) (regular : Bool) :
    (d.edgeNumber e number regular).beat.grants = false := by
  rw [Device.edgeNumber_beat, Device.edgeRestart]

theorem Device.edgeNumber_ref {d : Device} (h : d.beat.started = true) (e : Nat) :
    (d.edgeNumber e none true).beat.tRef = e - (d.beat.clock - d.beat.stick)
      ∧ (d.edgeNumber e none true).beat.sRef = d.beat.samples := by
  rw [Device.edgeNumber_beat, Device.edgeRestart, Device.edgePeriod_beat, Device.edgeCount_next h]
  exact ⟨rfl, rfl⟩

theorem Device.edgeNumber_samples_native {d : Device} (h : d.mode = .native) (e : Nat) (regular : Bool) :
    (d.edgeNumber e none regular).beat.samples = d.beat.nextSamples.getD d.beat.samples := by
  obtain ⟨-, samples, next⟩ := d.edgeCount_rest e regular
  rw [Device.edgeNumber_beat, Device.edgeRestart, Device.edgePeriod_beat, Device.edgeCount_mode, h]
  dsimp only
  rw [samples, next]
  rfl

/-- The length that an edge predicts is that of the beat which it leaves. -/
theorem Device.edgeNumber_rd_pred (d : Device) (e : Nat) (number : Option Nat) (regular : Bool) :
    (d.edgeNumber e number regular).rd Reg.BEAT_PRED_ticks = (d.edgeNumber e number regular).edgeLength % 2 ^ 22 := by
  rw [Device.edgeLength, Device.edgeNumber_beat, Device.edgeNumber_eq, Device.edgePredict_rd_pred, Device.edgeLength]

theorem Device.edgeNumber_rd_fallow (d : Device) (e : Nat) (number : Option Nat) (regular : Bool) :
    (d.edgeNumber e number regular).rd Reg.BEAT_FALLOW_start = ((d.edgeNumber e number regular).edgeLength - 32000) % 2 ^ 22 := by
  rw [Device.edgeLength, Device.edgeNumber_beat, Device.edgeNumber_eq, Device.edgePredict_rd_fallow, Device.edgeLength]

/-! ### Where an edge falls -/

theorem Device.edgePlace_own {d : Device} (h : d.linkEdge = none) (ticks : Nat) :
    d.edgePlace ticks = (d.beat.clock - d.beat.stick + ticks, none, !d.exitsHoldover) := by
  unfold Device.edgePlace; rw [h]

/-- A beat of exactly its sample periods at the nominal clocks is one that the sample clock places. -/
theorem Device.edgeFits_of_nominal (d : Device) (ticks : Nat) (h : d.beat.samples * 50000 = ticks * 3) : d.edgeFits ticks = true := by
  have fits (more : Nat) : fitsSamples ticks d.beat.samples more = true := by
    unfold fitsSamples
    rw [Bool.and_eq_true, decide_eq_true_eq, decide_eq_true_eq]
    constructor <;> grind
  unfold Device.edgeFits
  rw [fits, Bool.or_true]

/-- A beat that the sample clock places lasts its sample periods within the monitor windows of both clocks. -/
theorem Device.edgeFits_bounds {d : Device} {ticks : Nat} (hl : d.linkEdge = none) (hs : d.beat.started = true)
    (hx : d.exitsHoldover = false) (h : d.edgeFits ticks = true) :
    d.beat.samples * 16600 ≤ ticks + 1 ∧ ticks ≤ d.beat.samples * 16734 + 1 := by
  unfold Device.edgeFits at h
  rw [hl, hs, hx, Bool.not_true, Option.isSome_none, Bool.or_self, Bool.false_or, if_neg Bool.false_ne_true] at h
  unfold fitsSamples at h
  rw [Bool.and_eq_true, decide_eq_true_eq, decide_eq_true_eq] at h
  obtain ⟨long, short⟩ := h
  constructor <;> grind

/-! ### The passes of an edge -/

theorem Device.running_of_passReady {d : Device} {q : Nat} (h : d.passReady q = true) : (d.seq q).running = false := by
  simp only [Device.passReady, Bool.and_eq_true, Bool.not_eq_true'] at h
  obtain ⟨⟨⟨⟨⟨⟨⟨-, -⟩, running⟩, -⟩, -⟩, -⟩, -⟩, -⟩ := h
  exact running

/-- The clamp of a budget changes no budget. -/
theorem Device.effBudget_clamped (d : Device) (v q : Nat) : (d.wr Reg.BEAT_STATUS_budget_clamped v).effBudget q = d.effBudget q := by
  have act : (d.wr Reg.BEAT_STATUS_budget_clamped v).rdAct (Reg.BEAT_SQ_BUDGET_cycles q) = d.rdAct (Reg.BEAT_SQ_BUDGET_cycles q) := by
    rw [Device.rdAct, Device.actReg, Device.wr_act, Device.rdAct, Device.actReg]
  unfold Device.effBudget
  rw [act, Device.rd_wr_other _ _ _ _ (by decide)]

/-- What a sequencer is when its pass starts (R36, R48). -/
def Seq.started (x : Seq) (budget now : Nat) : Seq :=
  { x with
    pc := if x.fresh && x.entries.2 != 0 then x.entries.2 else x.entries.1
    z := false, n := false, c := false, v := false, inTrap := false, fresh := false, running := true, wait := .running
    spass := 0, sbudget := budget, overrun := none, ovr := .none, now := now, loadRd := 0 }

theorem Device.edgePass_seq_ready {d : Device} {q : Nat} (h : d.passReady q = true) :
    (d.edgePass q).seq q = (d.seq q).started (d.effBudget q) (max 136 d.beat.stick) := by
  unfold Device.edgePass
  dsimp only
  rw [if_neg (by rw [Device.running_of_passReady h]; decide)]
  unfold Device.passStart
  rw [if_neg (by rw [h]; decide)]
  dsimp only
  rw [Device.seq_modSeq_same]
  split
  · rw [Device.seq_wr, Device.effBudget_clamped, Device.wr_beat]; rfl
  · rfl

/-- A sequencer whose pass still runs skips the coming one, and the skip is counted (R35). -/
theorem Device.edgePass_skipped {d : Device} {q : Nat} (hr : (d.seq q).running = true) (hq : q ≠ 4)
    (hp : d.rdAct (Reg.BEAT_SQ_BUDGET_policy q) = 0) : d.edgePass q = d.bump (Reg.BEAT_SQ_OVR_skipped q) := by
  unfold Device.edgePass
  dsimp only
  rw [if_pos hr, hp, if_pos (by simpa using hq)]

end Sys2Proof.Machine

namespace Sys2Proof.Claims

open Sys2Proof Sys2Proof.Machine

/-- What the beat is after an edge that the sample clock or the links place. -/
theorem beatEdge_beat (d x : Device) (ticks arrived : Nat) (ins : List (Nat × List Nat)) (bad : List Nat)
    (hx : x = d.beatEdge ticks arrived ins bad) :
    x.beat.started = true ∧ (d.beat.started = false → x.beat.sbeat = 0)
      ∧ (d.beat.started = true → d.linkEdge = none → x.beat.sbeat = d.beat.sbeat + 1)
      ∧ (d.edgeAwake = true → x.beat.grants = true) := by
  obtain ⟨c, hc⟩ : ∃ c, c = d.edgeReady arrived := ⟨_, rfl⟩
  obtain ⟨n, hn⟩ : ∃ n, n = c.edgeNumber (d.edgePlace ticks).1 (d.edgePlace ticks).2.1 (d.edgePlace ticks).2.2 := ⟨_, rfl⟩
  have ready : c.mark = d.mark := by rw [hc]; exact d.edgeReady_mark arrived
  have edge : x.mark = if d.edgeAwake then n.granting.mark else n.mark := by
    rw [hx]; exact d.beatEdge_mark ticks arrived ins bad n (by rw [hn, hc])
  have counts : x.beat.started = n.beat.started ∧ x.beat.sbeat = n.beat.sbeat := by
    split at edge
    · exact ⟨Device.started_of_mark (d := n.granting) edge, Device.sbeat_of_mark (d := n.granting) edge⟩
    · exact ⟨Device.started_of_mark edge, Device.sbeat_of_mark edge⟩
  obtain ⟨started, sbeat⟩ := counts
  rw [started, sbeat, hn]
  refine ⟨Device.edgeNumber_started _ _ _ _, fun first => ?_, fun next own => ?_, fun awake => ?_⟩
  · exact Device.edgeNumber_sbeat_first ((Device.started_of_mark ready).trans first) _ _ _
  · rw [Device.edgePlace_own own, Device.edgeNumber_sbeat_next ((Device.started_of_mark ready).trans next),
      Device.sbeat_of_mark ready]
  · rw [if_pos awake] at edge
    exact Device.grants_of_mark edge

/-- Settles O35. Nothing at an edge but `edgeNumber` and `edgeGrants` changes the beat other than the time within it
(`Device.beatEdge_mark`); what `edgeNumber` leaves is read off its three parts, and the passes off `edgePass`. -/
theorem beatEdge : Obligations.BeatEdge := by
  unfold Obligations.BeatEdge
  refine ⟨fun s ticks arrived ins bad up fits => ?step, fun d ticks own => ?place, fun d e regular => ?number, fun d q => ?pass⟩
  case step =>
    have met : ((found s).rd Reg.GLB_BOOT_phase != 0 && (found s).edgeFits ticks) = true := by
      rw [Bool.and_eq_true, bne_iff_ne]
      exact ⟨up, fits⟩
    have becomes : Becomes (.beatEdge ticks arrived ins bad) s ((found s).beatEdge ticks arrived ins bad) :=
      becomes_of_when (c := fun d => d.rd Reg.GLB_BOOT_phase != 0 && d.edgeFits ticks)
        (fun d => d.beatEdge ticks arrived ins bad) rfl met rfl
    obtain ⟨started, first, next, grants⟩ := beatEdge_beat (found s) _ ticks arrived ins bad rfl
    refine ⟨becomes, _, becomes, started, first, next, fun state there => grants ?_⟩
    have awake : ((found s).rd Reg.PWR_STATE_state == 0 && !(found s).flt.lostCompute) = true := by
      rw [Bool.and_eq_true, beq_iff_eq, Bool.not_eq_true']
      exact ⟨state, there⟩
    exact awake
  case place =>
    rw [Device.edgePlace_own own]
    exact ⟨rfl, rfl, d.edgeFits_of_nominal ticks, fun started steady fits => Device.edgeFits_bounds own started steady fits⟩
  case number =>
    refine ⟨?_, d.edgeNumber_started e none regular, d.edgeNumber_stick e regular, d.edgeNumber_clock e regular,
      d.edgeNumber_grants e none regular, fun started => d.edgeNumber_rd_last started e none regular, ?_,
      fun native => d.edgeNumber_samples_native native e regular, d.edgeNumber_rd_pred e none regular,
      d.edgeNumber_rd_fallow e none regular⟩
    · cases started : d.beat.started with
      | true => exact Device.edgeNumber_sbeat_next started e regular
      | false => exact Device.edgeNumber_sbeat_first started e none regular
    · rintro started rfl
      exact Device.edgeNumber_ref started e
  case pass =>
    refine ⟨fun ready => ?_, fun running low keep => ?_⟩
    · rw [Device.edgePass_seq_ready ready]
      refine ⟨rfl, rfl, rfl, rfl, rfl, ?_, rfl, rfl, rfl, rfl, rfl, rfl⟩
      simp only [Seq.started, Bool.and_eq_true, bne_iff_ne]
    · have fits : (Reg.BEAT_SQ_OVR_skipped q).fits := ⟨(by decide : 16 ≤ 31), (by decide : 31 < 32)⟩
      rw [Device.edgePass_skipped running low keep]
      exact ⟨d.rd_bump _ fits, by rw [Device.bump, Device.seq_wr]⟩

end Sys2Proof.Claims
end

section
/-!
SUPPORT. CACHE and a pinned line (R98, R104): the counterexample to the clause of O32 on packets of opcode 9.
-/

namespace Sys2Proof.Claims

open Sys2Proof Sys2Proof.Machine

/-! ### Cleaning without the pinned lines (O32) -/

/-- A RENDER item of INST_1 whose command buffer is the 128 bytes at address 0x100. -/
def cleaningItem : Item :=
  { uid := 1, inst := 1, queue := 0, desc := (leBytes 32 1) ++ leBytes 8 0x100 ++ leBytes 24 128, time := 0, started := true,
    preempted := false, picks := 1, ovf := 0, firstAt := none, slot := none, stage := 1 }

/-- The pick that runs it, on cluster 0 of channel 0. -/
def cleaningPick : Pick :=
  { ch := 0, sq := 0, slot := 0, block := 0, inst := 1, item := 1, mask := 1, budget := 100, start := 0, held := false, preempt := none,
    since := 0, used := 0 }

/-- A TIMESTAMP packet that writes to address 0. -/
def stampPacket : List Byte := leBytes 64 0x0C

/-- A CACHE packet that cleans the whole of L2, without its pinned lines. -/
def cleanPacket : List Byte := leBytes 64 (0x09 + 4 * 2 ^ 32)

/-- The first line of page 0, clean and pinned, as a write of RAS_PIN_SIZE leaves it (R121). -/
def pinnedLine : L2Line := { key := 1, data := List.replicate 128 0#8, dirty := 0, items := [], pinned := true }

/-- A D8 that executes the item at its first packet; page 0 of INST_1 is host memory. -/
def beforeStamp : State :=
  let up := Device.reset.wr Reg.GLB_BOOT_phase 5
  { dev := { up with
      mems := { up.mems with host := rawWrite up.mems.host 0x100 (stampPacket ++ cleanPacket), tlb := [⟨1, 0, 0, true, true, true, 0⟩] }
      q := { up.q with items := [cleaningItem], picks := [cleaningPick], nextUid := 2 }
      ras := { up.ras with runs := [Run.fresh 1 0], l2 := [(0, [pinnedLine])] } }
    pending := [] }

/-- The same D8 after the TIMESTAMP, whose bytes are in the pinned line: it stands at the CACHE packet. -/
def beforeClean : State :=
  match execTimestamp 1 beforeStamp with
  | .next t => t
  | _ => beforeStamp

/-- The run of the item at the CACHE packet. -/
def cleaningRun : Run := { Run.fresh 1 0 with pos := 64 }

/-- Whether L2 of channel 0 holds a dirty line that is pinned. -/
def holdsDirtyPinned (d : Device) : Bool := (d.l2 0).any (fun l => l.pinned && l.dirty != 0)

/-- A step of the model makes the pinned line dirty: the refuting state needs no dirty pinned line to begin with. -/
theorem exec_timestamp_beforeStamp : holdsDirtyPinned beforeStamp.dev = false
    ∧ exec (.timestamp 1) beforeStamp = .next beforeClean ∧ holdsDirtyPinned beforeClean.dev = true :=
  ⟨by decide +kernel, rfl, by decide +kernel⟩

/-- The device with which the work of the CACHE packet starts. -/
def cleaningStart : Device :=
  ((found beforeClean).l2Read 0 1 0x140 64).2.modRun 1 (fun y => { y with pass := y.pass.map (fun p => { p with attaching := false }) })

/-- A run whose result is there has ended well. -/
theorem ok_of_toOption {ε α : Type} {r : Except ε α} {a : α} (h : r.toOption = some a) : r = .ok a := by
  cases r with
  | ok b => exact congrArg Except.ok (Option.some.inj h)
  | error e => nomatch h

/-- The packet that the engine reads is the CACHE packet. -/
theorem l2Read_beforeClean :
    (found beforeClean).l2Read 0 1 0x140 64 = (.ok cleanPacket, ((found beforeClean).l2Read 0 1 0x140 64).2) := by
  have bytes : ((found beforeClean).l2Read 0 1 0x140 64).1 = .ok cleanPacket := ok_of_toOption (by decide +kernel)
  rw [← bytes]

/-- The item stands at the CACHE packet. -/
theorem atPacket_beforeClean : AtPacket beforeClean 1 cleaningItem cleaningRun cleanPacket cleaningStart := by
  have item : beforeClean.dev.item 1 = some cleaningItem := by decide +kernel
  have run : beforeClean.dev.run 1 = some cleaningRun := by decide +kernel
  have executes : beforeClean.dev.executing 1 = true := by decide +kernel
  have inside : cleaningRun.pos + 64 ≤ cleaningItem.pay 0x28 4 := by decide +kernel
  have start : cleaningItem.pay 0x20 8 + cleaningRun.pos = 0x140 := by decide +kernel
  have attaches : ¬ (leAt cleanPacket 0 1 = 2 ∨ leAt cleanPacket 0 1 = 3) := by decide +kernel
  refine ⟨item, run, executes, inside, _, ?_, (if_neg attaches).symm⟩
  rw [start]
  exact l2Read_beforeClean

/-- The packet is a well-formed CACHE packet. -/
theorem isPacket_cleanPacket : IsPacket cleanPacket 9 := by
  unfold IsPacket
  decide +kernel

/-- The command leaves the pinned line dirty: without bit 3 the packet selects no pinned line, for cleaning either. -/
theorem exec_cache_beforeClean :
    ∃ d, exec (.cache 1) beforeClean = .next { beforeClean with dev := d } ∧ holdsDirtyPinned d = true :=
  ⟨_, rfl, by decide +kernel⟩

/-- What O32 says of the packet cleans the pinned line with the others, whether bit 3 is set or not. -/
theorem cached_cleaningStart : holdsDirtyPinned (pastPacket (cached cleaningStart cleaningRun.ch cleaningItem.inst (leAt cleanPacket 4 1)
    (leAt cleanPacket 8 8) (leAt cleanPacket 0x10 8)) 1 cleaningRun) = false := by
  decide +kernel

/-- Refutes O32: its clause on CACHE makes bit 3 (include pinned lines, R98) a condition of the invalidation only, and cleans pinned lines
without it. In the model the bit governs both, so a pinned line that a TIMESTAMP has written stays dirty at a CACHE packet with bit 2
alone. -/
theorem not_packets : ¬ Obligations.Packets := by
  unfold Obligations.Packets
  intro h
  obtain ⟨-, -, -, -, -, -, -, -, -, cache, -⟩ := h _ _ _ _ _ _ atPacket_beforeClean
  obtain ⟨d, hd, dirty⟩ := exec_cache_beforeClean
  have claimed := cache isPacket_cleanPacket
  unfold Becomes at claimed
  rw [hd] at claimed
  injection claimed with same
  have device : d = _ := congrArg State.dev same
  rw [device, cached_cleaningStart] at dirty
  exact Bool.false_ne_true dirty

end Sys2Proof.Claims
end
